-- ==== Sys2Proof/Word.lean ====
section
/-! DEFINITION. The words of the SL742: bytes of a frame, and the 16-bit numbers that wrap. -/

namespace Sys2Proof

/-- One byte of a frame (R2, 1.9). -/
abbrev Byte := BitVec 8

/-- A cycle number: 0 to 65 535, then 0 again (00_scope 4.3). -/
abbrev CycleNumber := BitVec 16

/-- A capture record's sequence number: 0 to 65 535, then 0 again (R174). -/
abbrev SequenceNumber := BitVec 16

/-- A rack message's tag: 0 to 15, then 0 again (R119). -/
abbrev RackTag := BitVec 4

end Sys2Proof
end

