-- ==== Sys2Proof/Syntax.lean ====
section
/-! DEFINITION. The steps of the SL742 as commands: one constructor of `Instr` for each row of
spec/opcode_table.json, with the operands the row's rule names. -/

namespace Sys2Proof

/-- Arm A and arm B (00_scope 4.6). -/
inductive Arm where
  | a
  | b
  deriving DecidableEq, Repr

/-- The two ports: U faces the cell controller, D faces the field nodes (1.1). -/
inductive Port where
  | u
  | d
  deriving DecidableEq, Repr

/-- One slot of a cycle frame (1.9): address, slot kind and payload bytes (4 bytes a word). -/
structure Slot where
  address : Byte
  kind : Byte
  payload : List Byte
  deriving DecidableEq, Repr

/-- A cycle frame without its kind byte and its check: the cycle number and the slots in frame order (1.9).
The direction it is taken in says whether it is a CYCLE_OUT or a CYCLE_BACK. -/
structure CycleFrame where
  cycle : CycleNumber
  slots : List Slot
  deriving DecidableEq, Repr

/-- A well-formed frame of one of the four kinds (R5, 1.9), without its check. -/
inductive Frame where
  | cycleOut (f : CycleFrame)
  | cycleBack (f : CycleFrame)
  | serviceReq (destination tag code : Byte) (params : List Byte)
  | serviceRep (source tag code outcome reason : Byte) (data : List Byte)
  deriving DecidableEq, Repr

/-- The part's timers (1.7, 6.4, 7.1). -/
inductive Timer where
  | watch
  | origination
  | bridge
  | reply
  | phase (arm : Arm)
  deriving DecidableEq, Repr

/-- What may come between two handlings of a cycle frame in processing (R1, R27, R40, R43, 00_scope 4.3): a service request for address
62 is handed over, the service block takes its oldest waiting request, a receive side takes a cycle frame into processing, handles the
next piece of the one it has (a slot, a stage of the frame-end work, the forwarding), takes any other frame by its bytes or discards
one (R2), a timer expires, or a frame leaves a port. (log 10) -/
inductive MidEvent where
  | handOver (tag code : Byte) (params : List Byte)
  | serve
  | takes (p : Port) (f : CycleFrame)
  | handles (p : Port)
  | bytes (p : Port) (frame : List Byte)
  | discards (p : Port)
  | expiry (t : Timer)
  | leaves (p : Port)
  deriving DecidableEq, Repr

/-- A `MidEvent` and where it falls: before the piece of the command's frame with this number. Pieces are counted from 0: the slots, for
a return frame the three stages of the frame-end work, and its end; a number above that falls after the frame. (log 10) -/
structure Interleaved where
  slot : Nat
  event : MidEvent
  deriving DecidableEq, Repr

/-- The commands, one constructor per row of spec/opcode_table.json. The request rows carry the request's tag and its
parameter bytes as the SERVICE_REQ frame carries them (R29, 1.9). (log 2) -/
inductive Instr where
  | powerUp
  | resetPin
  | frameDiscarded (port : Port)
  | badCheckFrame (port : Port) (bytes : List Byte)
  | notWellFormedFrame (port : Port) (bytes : List Byte)
  | forwardUnchanged (port : Port) (bytes : List Byte)
  | outboundCycleFrame (frame : CycleFrame) (during : List Interleaved)
  | returnCycleFrame (frame : CycleFrame) (during : List Interleaved)
  | serviceReqHandedOver (tag code : Byte) (params : List Byte)
  | frameLeavesPort (port : Port)
  | watchTimerExpiry
  | originationTimerExpiry
  | bridgeTimerExpiry
  | replyTimerExpiry
  | phaseTimerExpiry (arm : Arm)
  | tableOpen (tag : Byte) (params : List Byte)
  | tableData (tag : Byte) (params : List Byte)
  | tableContinue (tag : Byte) (params : List Byte)
  | tableRead (tag : Byte) (params : List Byte)
  | changeProbe (tag : Byte) (params : List Byte)
  | abortChange (tag : Byte) (params : List Byte)
  | stopArm (tag : Byte) (params : List Byte)
  | releaseArm (tag : Byte) (params : List Byte)
  | planStart (tag : Byte) (params : List Byte)
  | planStop (tag : Byte) (params : List Byte)
  | planResume (tag : Byte) (params : List Byte)
  | setCredits (tag : Byte) (params : List Byte)
  | addCredits (tag : Byte) (params : List Byte)
  | readNotices (tag : Byte) (params : List Byte)
  | setNoticeMask (tag : Byte) (params : List Byte)
  | readStatus (tag : Byte) (params : List Byte)
  | restartRun (tag : Byte) (params : List Byte)
  | unlistedRequestCode (tag code : Byte) (params : List Byte)
  | resetEnd
  deriving DecidableEq, Repr

end Sys2Proof
end

