-- ==== Sys2Proof/Decode.lean ====
section
/-! DEFINITION. The command that a word spells by the table's bits. spec/opcode_table.json gives no row any bits (every "fields" list is
empty), so no word spells a command: the commands are events at the part's ports, pins and timers. -/

namespace Sys2Proof

/-- No row of the table has bits: no word spells a command. (log 1) -/
def decodeTableWord (_nbits _w : Nat) : Option Instr := none

end Sys2Proof
end

