-- ==== Sys2Proof/Config.lean ====
section
/-! DEFINITION. What the part fixes (sizes the spec states) and the free values (what the spec leaves open: constants
without a body, so that no proof can see them). -/

namespace Sys2Proof.Config

/-- The part keeps up to 1 536 bytes of a frame (R2). -/
def maxFrameBytes : Nat := 1536

/-- A transmit queue holds up to 8 frames (R14). -/
def transmitDepth : Nat := 8

/-- The request queue holds up to 4 requests (R25). -/
def requestDepth : Nat := 4

/-- A cycle frame has 1 to 40 slots (R5). -/
def maxSlots : Nat := 40

/-- The list of outstanding originated cycles holds at most 16 numbers (R24). -/
def outstandingDepth : Nat := 16

/-- The capture queue holds at most 64 records (R174). -/
def captureDepth : Nat := 64

/-- The notice list holds up to 32 entries (R187). -/
def noticeDepth : Nat := 32

/-- The part's own link address (00_scope 1.2). -/
def ownAddress : Nat := 62

/-- The largest magnitude of a position, ±(2^39 − 1) nm (00_scope 4.1). -/
def positionLimit : Int := 549755813887

/-- DESIGN CHOICE (log 6), safe: a FREE VALUE. The value byte of an absent optional field in the data of a TABLE READ or a
READ STATUS, which no rule states (R32 says only that it is not read): any byte, for the `n`-th such reply and the byte's
offset in its data. -/
opaque absentByte : Nat → Nat → Byte

/-- DESIGN CHOICE (log 7), safe: a FREE VALUE. The cycle number from which R23 counts up when a frame is originated while the last
outbound cycle number is absent, which no rule states. -/
opaque numberBeforeFirst : CycleNumber

end Sys2Proof.Config
end

