-- ==== Sys2Proof/Machine/Arith.lean ====
section
/-! DEFINITION. The rounding, clamping and saturation of 00_scope 4.2 and 4.4. -/

namespace Sys2Proof.Machine

/-- The quotient rounded to the nearest integer, halves away from zero (00_scope 4.2). -/
def roundDiv (n : Int) (d : Nat) : Int :=
  if 0 ≤ n then ((2 * n.natAbs + d) / (2 * d) : Nat) else -(((2 * n.natAbs + d) / (2 * d) : Nat) : Int)

/-- The nearer bound of ±(2^39 − 1) nm for a value beyond it, the value otherwise (00_scope 4.1). -/
def clampPosition (v : Int) : Int :=
  if v > Config.positionLimit then Config.positionLimit
  else if v < -Config.positionLimit then -Config.positionLimit
  else v

/-- A value that lies within ±(2^39 − 1) nm. -/
def withinPosition (v : Int) : Bool := -Config.positionLimit ≤ v && v ≤ Config.positionLimit

/-- Add to a count that stays at its limit once there (00_scope 4.4). -/
def addUpTo (limit : Nat) (n k : Nat) : Nat := min limit (n + k)

/-- One more on a 16-bit event counter (00_scope 4.4). -/
def bump16 (n : Nat) : Nat := addUpTo 65535 n 1

/-- One more on a count that stays at 255 once there. -/
def bump8 (n : Nat) : Nat := addUpTo 255 n 1

end Sys2Proof.Machine
end

