-- ==== Sys2Proof/Machine/Bytes.lean ====
section
/-! DEFINITION. Multi-byte fields (00_scope 4.5, 1.9) and the check of a frame (R3). -/

namespace Sys2Proof.Machine

/-- The unsigned value of bytes, least significant byte first. -/
def leNat : List Byte → Nat
  | [] => 0
  | b :: bs => b.toNat + 256 * leNat bs

/-- `n` bytes of a value modulo 256^n, least significant byte first. -/
def leBytes : Nat → Nat → List Byte
  | 0, _ => []
  | n + 1, v => BitVec.ofNat 8 v :: leBytes n (v / 256)

/-- Read an unsigned value of `8 n` bits as two's complement. -/
def signedOf (n : Nat) (v : Nat) : Int :=
  if v < 2 ^ (8 * n - 1) then v else (v : Int) - 2 ^ (8 * n)

/-- The signed value of bytes: two's complement at the bytes' width, least significant byte first. -/
def leInt (bs : List Byte) : Int := signedOf bs.length (leNat bs)

/-- `n` bytes of a signed value in two's complement, least significant byte first. -/
def leIntBytes (n : Nat) (v : Int) : List Byte := leBytes n (v % 2 ^ (8 * n)).toNat

/-- The `width` bytes at an offset. -/
def fieldBytes (bs : List Byte) (offset width : Nat) : List Byte := (bs.drop offset).take width

/-- The unsigned field of a width at an offset. -/
def uField (bs : List Byte) (offset width : Nat) : Nat := leNat (fieldBytes bs offset width)

/-- The signed field of a width at an offset. -/
def sField (bs : List Byte) (offset width : Nat) : Int := signedOf width (uField bs offset width)

/-- Write bytes at an offset and leave every other byte as it is (R13). -/
def splice (bs : List Byte) (offset : Nat) (new : List Byte) : List Byte :=
  bs.take offset ++ new ++ bs.drop (offset + new.length)

/-- The bit of a byte. -/
def bitOf (b : Byte) (i : Nat) : Bool := b.getLsbD i

/-- A byte whose bit 0 is the mark and whose other bits are clear. -/
def markByte (b : Bool) : Byte := if b then 1 else 0

/-- A byte of a value modulo 256. -/
def byteOf (n : Nat) : Byte := BitVec.ofNat 8 n

/-- One bit of the cyclic redundancy check with generator 0x1021 (R3). -/
def crcBit (c : BitVec 16) : BitVec 16 :=
  if c.msb then (c <<< 1) ^^^ 0x1021 else c <<< 1

/-- One byte enters the check, most significant bit first (R3). -/
def crcByte (c : BitVec 16) (b : Byte) : BitVec 16 :=
  crcBit (crcBit (crcBit (crcBit (crcBit (crcBit (crcBit (crcBit (c ^^^ (b.zeroExtend 16 <<< 8)))))))))

/-- The check of the covered bytes: preset 0xFFFF, no inversion at the end (R3). -/
def crc (bs : List Byte) : BitVec 16 := bs.foldl crcByte 0xFFFF

/-- The two check bytes, least significant byte first (R3). -/
def checkBytes (bs : List Byte) : List Byte := leBytes 2 (crc bs).toNat

/-- A frame as sent: the covered bytes and their check, computed afresh (R3). -/
def withCheck (bs : List Byte) : List Byte := bs ++ checkBytes bs

/-- The bytes of a frame before its two check bytes. -/
def coveredBytes (bs : List Byte) : List Byte := bs.take (bs.length - 2)

/-- A taken frame has a good check when the value it carries equals the value computed over the covered bytes (R3). -/
def goodCheck (bs : List Byte) : Bool := bs.drop (bs.length - 2) == checkBytes (coveredBytes bs)

end Sys2Proof.Machine
end

