-- ==== Sys2Proof/Machine/State.lean ====
section
/-! DEFINITION. The state of the SL742 as plain data, block by block (00_scope 2.1), the reasons a step can stop, and the
state after reset. -/

namespace Sys2Proof.Machine

/-- A value for each arm. -/
structure PerArm (α : Type) where
  a : α
  b : α
  deriving DecidableEq, Repr

/-- The three axes of an arm (00_scope 4.6). -/
inductive Axis where
  | x
  | y
  | z
  deriving DecidableEq, Repr

/-- A value for each axis. -/
structure Triple (α : Type) where
  x : α
  y : α
  z : α
  deriving DecidableEq, Repr

/-- A loadable table (R31): the entries in use with their indices, the indices strictly rising. An index that is not listed
holds the table's empty entry. -/
abbrev Table (α : Type) := List (Nat × α)

/-! ### SETUP (R17) -/

/-- The capture fields of one arm (R145). -/
structure CaptureSetup where
  debounce : Nat
  rearm : Nat
  stuckLimit : Nat
  speedLimit : Nat
  datum : Triple Int
  coefficient : Int
  deriving DecidableEq, Repr

/-- The addresses of hubs 0 to 3, each present or absent (R16). -/
structure Hubs where
  h0 : Option Nat
  h1 : Option Nat
  h2 : Option Nat
  h3 : Option Nat
  deriving DecidableEq, Repr

/-- The sign of an axis of the arm B transform (R84). -/
inductive Sign where
  | plus
  | minus
  deriving DecidableEq, Repr

/-- The SETUP record (R17): times in µs, ms and s as the fields are carried. -/
structure Setup where
  armNode : PerArm Nat
  headNode : PerArm Nat
  rackNode : Nat
  hubs : Hubs
  cyclePeriod : Nat
  watchTime : Nat
  bridgeTime : Nat
  scaleFailLimit : PerArm Nat
  holdLimit : PerArm Nat
  offsetB : Triple Int
  signB : Triple Sign
  headRadius : Nat
  unknownEnvelope : Nat
  margin : Nat
  replyWait : Nat
  phaseLimit : Nat
  capture : PerArm CaptureSetup
  captureLevel : Nat
  stallCycles : Nat
  deriving DecidableEq, Repr

/-! ### Thermal block (chapter 3) -/

/-- What a used channel measures (R46). The SCALE parameter is an AXIS index 0 to 5. -/
inductive Role where
  | scale (axis : Nat)
  | workpiece (arm : Arm)
  | probeArm (arm : Arm)
  | air
  deriving DecidableEq, Repr

/-- The direction of an alarm (R46). -/
inductive AlarmDirection where
  | above
  | below
  deriving DecidableEq, Repr

/-- The writable fields of a used CHANNEL entry (R46). -/
structure ChannelEntry where
  role : Role
  low : Int
  high : Int
  trim : Int
  settle : Nat
  staleLimit : Nat
  debounce : Nat
  shift : Nat
  alarm : Option (Int × AlarmDirection)
  deriving DecidableEq, Repr

/-- The run state of a used channel (3.3). A channel that is not used is UNUSED: it stands in no table row. -/
inductive ChannelState where
  | settling
  | valid
  | stale
  | fault
  deriving DecidableEq, Repr

/-- The run state items of a channel (3.3). -/
structure ChannelRun where
  state : ChannelState
  filtered : Option Int
  seed : Bool
  progress : Nat
  outRun : Nat
  age : Nat
  held : Option Int
  alarmOn : Bool
  deriving DecidableEq, Repr

/-- A used channel: its CHANNEL entry and its run state. -/
structure Channel where
  entry : ChannelEntry
  run : ChannelRun
  deriving DecidableEq, Repr

/-! ### Correction engine (chapter 4) -/

/-- An AXIS entry in use (R62). -/
structure AxisEntry where
  resolution : Nat
  origin : Int
  anchor : Int
  coefficient : Int
  channel : Option Nat
  mapEnabled : Bool
  mapStart : Int
  mapPitch : Nat
  mapCount : Nat
  coupled : Option Nat
  coupling : Int
  maxStep : Nat
  deriving DecidableEq, Repr

/-- The four correction flags of an axis (R74). -/
structure AxisFlags where
  thermalHeld : Bool
  mapEdge : Bool
  clamped : Bool
  stale : Bool
  deriving DecidableEq, Repr

/-- One axis of the corrected head position record (R75). -/
structure HeadAxis where
  last : Option Int
  thermal : Option Int
  flags : AxisFlags
  deriving DecidableEq, Repr

/-- The correction engine's state of an arm: the corrected head position record (R75), the consecutive-FAIL run and the
stop-requested mark (R77). -/
structure Head where
  record : Triple HeadAxis
  failRun : Nat
  stopRequested : Bool
  deriving DecidableEq, Repr

/-! ### Motion supervisor (chapter 5) -/

/-- The kind of a zone (R88). -/
inductive ZoneKind where
  | envelope
  | keepOut
  | rack
  | corridor
  deriving DecidableEq, Repr

/-- The arms a zone applies to, and the arms a probe may be mounted on (R88, R107). -/
inductive Scope where
  | onlyA
  | onlyB
  | both
  deriving DecidableEq, Repr

/-- A ZONE entry in use (R88); bounds in µm. -/
structure ZoneEntry where
  kind : ZoneKind
  station : Nat
  scope : Scope
  enabled : Bool
  minimum : Triple Int
  maximum : Triple Int
  deriving DecidableEq, Repr

/-- FREE, HELD and STOPPED (5.3). -/
inductive ArmState where
  | free
  | held
  | stopped
  deriving DecidableEq, Repr

/-- The causes of a stop (5.3, R186). -/
inductive StopCause where
  | reset
  | restart
  | request
  | holdLimit
  | overtravel
  | scaleFail
  | linkLoss
  deriving DecidableEq, Repr

/-- The supervision state of an arm (5.1). -/
structure Supervision where
  state : ArmState
  cause : StopCause
  setpoint : Option (Triple Int)
  holdRun : Nat
  clampCount : Nat
  holdCount : Nat
  overtravel : Option Bool
  deriving DecidableEq, Repr

/-! ### Probe library and rack channel (chapter 6) -/

/-- The calibration state of a probe (R107). -/
inductive Calibration where
  | uncalibrated
  | calibrated
  | suspect
  deriving DecidableEq, Repr

/-- Where a probe is held to be (R107). -/
inductive Location where
  | inRack
  | mounted (arm : Arm)
  | outside
  | lost
  deriving DecidableEq, Repr

/-- A LIBRARY entry in use (R107). -/
structure LibraryEntry where
  identity : Nat
  home : Option Nat
  allowed : Scope
  offset : Triple Int
  radius : Nat
  coefficient : Int
  calTemp : Int
  calibration : Calibration
  envelope : Nat
  location : Location
  deriving DecidableEq, Repr

/-- The active probe record of an arm (R109). -/
inductive ActiveProbe where
  | none
  | known (index : Nat)
  | unknown (identity : Nat)
  deriving DecidableEq, Repr

/-- A PROBE report as the slot carries it (1.9). `identity` is `none` for DETACHED. -/
structure ProbeReport where
  identity : Option Nat
  deflected : Bool
  overtravel : Bool
  edge : Option Nat
  deriving DecidableEq, Repr

/-- The two rack commands (6.5). -/
inductive PortCommand where
  | openPort
  | closePort
  deriving DecidableEq, Repr

/-- The phase of the outstanding rack message: PENDING, carried by a frame, SENT (6.4, R120). (log 24) -/
inductive MessagePhase where
  | pending
  | carried
  | sent
  deriving DecidableEq, Repr

/-- The outstanding rack message (6.4), with the arm whose sequencer sent it. (log 24) -/
structure RackMessage where
  sender : Arm
  tag : RackTag
  command : PortCommand
  station : Nat
  phase : MessagePhase
  deriving DecidableEq, Repr

/-- The rack channel (6.4). Timers hold their expiry in µs of the part's reference. -/
structure Rack where
  holder : Option Arm
  waiting : Option Arm
  message : Option RackMessage
  nextTag : RackTag
  replyTimer : Option Nat
  lateReplies : Nat
  deriving DecidableEq, Repr

/-! ### Change sequencers (chapter 7) -/

/-- The states of a change sequencer (7.2). -/
inductive SeqState where
  | idle
  | queued
  | dropOpening
  | dropCorridor
  | dropLeaving
  | dropClosing
  | pickOpening
  | pickCorridor
  | pickLeaving
  | pickClosing
  | winding
  | clearing
  | reclosing
  deriving DecidableEq, Repr

/-- A LIBRARY index and its home station, as the change record holds them (7.1). -/
structure Berth where
  index : Nat
  station : Nat
  deriving DecidableEq, Repr

/-- A change sequencer (7.1). -/
structure Sequencer where
  state : SeqState
  drop : Option Berth
  target : Option Berth
  corridor : Option Nat
  portMark : Option Nat
  dropUnconfirmed : Bool
  phaseTimer : Option Nat
  deriving DecidableEq, Repr

/-! ### Capture engine (chapter 8) -/

/-- The capture states (8.2). -/
inductive CaptureState where
  | suspended
  | armed
  | confirming
  | deflected
  | rearming
  deriving DecidableEq, Repr

/-- One axis of a position as capture keeps it: the value and its THERMAL_HELD, CLAMPED and STALE flags (R146). -/
structure Sample where
  value : Int
  held : Bool
  clamped : Bool
  stale : Bool
  deriving DecidableEq, Repr

/-- A latched touch (R149). -/
structure TouchLatch where
  edge : Nat
  current : Triple Sample
  previous : Option (Triple Sample)
  cycle : CycleNumber
  armHeld : Bool
  probe : Nat
  deriving DecidableEq, Repr

/-- The capture state of an arm (8.1). -/
structure Capture where
  state : CaptureState
  count : Nat
  latch : Option TouchLatch
  stuckCommitted : Bool
  probe : Option Nat
  previous : Option (Triple Sample)
  bounces : Nat
  stucks : Nat
  deriving DecidableEq, Repr

/-! ### Plan walker (chapter 9) -/

/-- The owner of a PLAN entry (9.2). -/
inductive Owner where
  | controller
  | device
  deriving DecidableEq, Repr

/-- A verdict (R171). -/
inductive Verdict where
  | inTol
  | outTol
  deriving DecidableEq, Repr

/-- A PLAN entry in use (R161). `next` is `none` for END; `verdict` is `none` when no match has been written. -/
structure PlanEntry where
  arm : Arm
  owner : Owner
  nominal : Triple Int
  approach : Triple Int
  search : Nat
  tolerance : Nat
  next : Option Nat
  verdict : Option Verdict
  sequence : Option SequenceNumber
  deviation : Int
  deriving DecidableEq, Repr

/-- The walk states (9.3). PARKED is with or without head as the walk's head is present or absent. -/
inductive WalkState where
  | stopped
  | running
  | parked
  | fault
  deriving DecidableEq, Repr

/-- A walk (9.3). -/
structure Walk where
  state : WalkState
  head : Option Nat
  loop : Bool
  deriving DecidableEq, Repr

/-! ### Capture queue (chapter 10) -/

/-- TOUCH and STUCK (1.9). -/
inductive RecordKind where
  | touch
  | stuck
  deriving DecidableEq, Repr

/-- The flags of a capture record (1.9). -/
structure RecordFlags where
  thermalHeld : Bool := false
  positionStale : Bool := false
  fast : Bool := false
  unplanned : Bool := false
  planEmpty : Bool := false
  probeSuspect : Bool := false
  clamped : Bool := false
  armHeld : Bool := false
  overrunAfter : Bool := false
  deriving DecidableEq, Repr

/-- The plan fields of a capture record: plan index, deviation and verdict (R172). -/
structure PlanResult where
  index : Nat
  deviation : Int
  verdict : Verdict
  deriving DecidableEq, Repr

/-- A capture record without its sequence number (1.9). -/
structure CaptureRecord where
  arm : Arm
  kind : RecordKind
  cycle : CycleNumber
  edge : Nat
  point : Triple Int
  identity : Nat
  plan : Option PlanResult
  flags : RecordFlags
  deriving DecidableEq, Repr

/-- A record in the capture queue: it carries its own sequence number (R174). -/
structure QueuedRecord where
  sequence : SequenceNumber
  record : CaptureRecord
  deriving DecidableEq, Repr

/-- The capture queue (chapter 10), the oldest record first. -/
structure Queue where
  records : List QueuedRecord
  credits : Nat
  nextSequence : SequenceNumber
  overruns : Nat
  stallCount : Nat
  stallMark : Bool
  missingMark : Bool
  deriving DecidableEq, Repr

/-! ### Notice list (chapter 11) -/

/-- The notice kinds (R186). -/
inductive NoticeKind where
  | armStopped
  | linkLoss
  | changeDone
  | changeFailed
  | dropReady
  | pickReady
  | probeLost
  | probeMountedManual
  | rackPortUnknown
  | captureLevel
  | captureStall
  | captureOverrun
  | planParked
  | planFault
  | channelFault
  | channelStale
  | thermalAlarm
  | badFrame
  | lateRackReply
  | reportSlotMissing
  deriving DecidableEq, Repr

/-- The subject of a notice: none, an arm or a channel (R187). -/
inductive Subject where
  | none
  | arm (which : Arm)
  | channel (index : Nat)
  deriving DecidableEq, Repr

/-- A notice entry (R187). -/
structure Notice where
  kind : NoticeKind
  subject : Subject
  detail : Nat
  firstCycle : CycleNumber
  repeats : Nat
  deriving DecidableEq, Repr

/-- The notice list, the notice mask (one mark per kind code), the lost counter and the current cycle number
(R187, R190). -/
structure Notices where
  entries : List Notice
  mask : BitVec 20
  lost : Nat
  currentCycle : CycleNumber
  deriving DecidableEq, Repr

/-! ### Service block (chapter 2) -/

/-- The outcomes of a reply (1.9). -/
inductive ReplyOutcome where
  | done
  | busy
  | badFormat
  | badValue
  | state
  deriving DecidableEq, Repr

/-- The reason codes (R28); `none` is code 0. -/
inductive Reason where
  | none
  | parameter
  | range
  | field
  | entry
  | probeUnknown
  | probeNotAllowed
  | maskSafety
  | noWindow
  | notBroken
  | armsActive
  | zoneInUse
  | probeInvolved
  | notUnique
  | planActive
  | notStopped
  | link
  | overtravel
  | noPosition
  | zone
  | armStopped
  | targetLocation
  | noDropStation
  | noCorridor
  | notActive
  | walkRunning
  | notParked
  deriving DecidableEq, Repr

/-- What a request is answered: outcome, reason and reply data (R27). -/
structure Answer where
  outcome : ReplyOutcome
  reason : Reason
  data : List Byte
  deriving DecidableEq, Repr

/-- A service request to address 62 as it waits in the request queue (R25). -/
structure Request where
  tag : Byte
  code : Byte
  params : List Byte
  deriving DecidableEq, Repr

/-- A SERVICE_REP of the part's own (R27): the request's tag and code, echoed, and the answer. -/
structure Reply where
  tag : Byte
  code : Byte
  answer : Answer
  deriving DecidableEq, Repr

/-- The seven tables (R31). -/
inductive TableCode where
  | setup
  | channel
  | axis
  | map
  | zone
  | library
  | plan
  deriving DecidableEq, Repr

/-- The window's method (R29). -/
inductive Method where
  | stop
  | wrap
  deriving DecidableEq, Repr

/-- The values of a write window (2.4). `last` is the end index. -/
structure WindowValues where
  table : TableCode
  start : Nat
  last : Nat
  method : Method
  pointer : Nat
  deriving DecidableEq, Repr

/-- The write window: CLOSED, OPEN or BROKEN with its values saved (2.4). -/
inductive Window where
  | closed
  | opened (w : WindowValues)
  | broken (w : WindowValues)
  deriving DecidableEq, Repr

/-- A checked table entry, empty (`none`, or the point value 0) or in use (R32). -/
inductive Entry where
  | setup (e : Setup)
  | channel (e : Option ChannelEntry)
  | axis (e : Option AxisEntry)
  | map (e : Int)
  | zone (e : Option ZoneEntry)
  | library (e : Option LibraryEntry)
  | plan (e : Option PlanEntry)
  deriving DecidableEq, Repr

/-- The service block (chapter 2): request queue, write window, deferred-write buffer (entries with their indices, in order of
placement) and the reply of the pending held-back TABLE DATA (R40). -/
structure Service where
  requests : List Request
  window : Window
  deferred : List (Nat × Entry)
  heldReply : Option Reply
  deriving DecidableEq, Repr

/-! ### Link block (chapter 1) -/

/-- The link watch states (1.7). -/
inductive Watch where
  | watching
  | bridging
  | halted
  deriving DecidableEq, Repr

/-- A frame in a transmit queue. `out` and `back` are cycle frames sent with a fresh check (R9); `carries` is the number of the slot that
carries the outstanding rack message, absent when none does (R120). `asTaken` is a frame forwarded unchanged, check bytes included (R4,
R5, R7). (log 24) -/
inductive TxFrame where
  | out (f : CycleFrame) (carries : Option Nat)
  | back (f : CycleFrame)
  | reply (r : Reply)
  | asTaken (bytes : List Byte)
  deriving DecidableEq, Repr

/-- The link block (chapter 1). Timers hold their expiry in µs of the part's reference, `none` when stopped. -/
structure Link where
  watch : Watch
  watchTimer : Option Nat
  originationTimer : Option Nat
  bridgeTimer : Option Nat
  template : Option CycleFrame
  lastOutbound : Option CycleNumber
  outstanding : List CycleNumber
  lossMark : Bool
  badU : Nat
  badD : Nat
  txU : List TxFrame
  txD : List TxFrame
  returnInProcessing : Bool
  deriving DecidableEq, Repr

/-! ### The whole part -/

/-- The state of the SL742. `pending`, `now` (the part's reference time in µs) and `freeIndex` (how many replies have drawn on the
free values) are the model's own; `resetPin` is the level of the RESET pin (asserted: true). -/
structure State where
  pending : List Instr
  resetPin : Bool
  now : Nat
  freeIndex : Nat
  setup : Setup
  link : Link
  service : Service
  channels : Table Channel
  axes : Table AxisEntry
  map : Table Int
  head : PerArm Head
  zones : Table ZoneEntry
  supervision : PerArm Supervision
  library : Table LibraryEntry
  active : PerArm ActiveProbe
  latestReport : PerArm (Option ProbeReport)
  rack : Rack
  sequencer : PerArm Sequencer
  capture : PerArm Capture
  plan : Table PlanEntry
  walk : PerArm Walk
  queue : Queue
  notices : Notices
  deriving DecidableEq, Repr

/-- Reasons the machine stops with a fault: none. The manual gives every command an effect in every state, so no constructor is
needed and no step faults. -/
inductive Fault where
  deriving DecidableEq, Repr

/-- Reasons a step has no meaning. -/
inductive Refusal where
  /-- Raised by an arm of `exec` whose command has no meaning yet; none is left. Safe: the machine stops. -/
  | notModelled (mnemonic : String)
  deriving DecidableEq, Repr

/-! ### Values after reset -/

/-- The capture fields' defaults (R145). -/
def CaptureSetup.initial : CaptureSetup :=
  { debounce := 1, rearm := 4, stuckLimit := 2000, speedLimit := 20, datum := ⟨0, 0, 0⟩, coefficient := 11500 }

/-- The SETUP defaults (R16, R80, R84, R116, R125, R145, R184). -/
def Setup.initial : Setup :=
  { armNode := ⟨1, 2⟩, headNode := ⟨3, 4⟩, rackNode := 5, hubs := ⟨some 6, some 7, some 8, some 9⟩,
    cyclePeriod := 1000, watchTime := 5, bridgeTime := 200, scaleFailLimit := ⟨3, 3⟩, holdLimit := ⟨50, 50⟩,
    offsetB := ⟨0, 0, 0⟩, signB := ⟨.plus, .plus, .minus⟩, headRadius := 60, unknownEnvelope := 400, margin := 50,
    replyWait := 100, phaseLimit := 30, capture := ⟨CaptureSetup.initial, CaptureSetup.initial⟩,
    captureLevel := 8, stallCycles := 100 }

/-- The link block after reset (R15): the watch timer is started at the default watch time of 5 ms. -/
def Link.initial : Link :=
  { watch := .watching, watchTimer := some 5000, originationTimer := none, bridgeTimer := none, template := none,
    lastOutbound := none, outstanding := [], lossMark := false, badU := 0, badD := 0, txU := [], txD := [],
    returnInProcessing := false }

/-- The service block after reset (R44). -/
def Service.initial : Service :=
  { requests := [], window := .closed, deferred := [], heldReply := none }

/-- An axis of the corrected head position record after reset (R81). -/
def HeadAxis.initial : HeadAxis := { last := none, thermal := none, flags := ⟨false, false, false, false⟩ }

/-- The correction engine's state of an arm after reset (R81). -/
def Head.initial : Head :=
  { record := ⟨HeadAxis.initial, HeadAxis.initial, HeadAxis.initial⟩, failRun := 0, stopRequested := false }

/-- The supervision state of an arm after reset (R105). -/
def Supervision.initial : Supervision :=
  { state := .stopped, cause := .reset, setpoint := none, holdRun := 0, clampCount := 0, holdCount := 0, overtravel := none }

/-- The rack channel after reset (R123). -/
def Rack.initial : Rack :=
  { holder := none, waiting := none, message := none, nextTag := 0, replyTimer := none, lateReplies := 0 }

/-- A change sequencer in IDLE with its change record clear (R144). -/
def Sequencer.initial : Sequencer :=
  { state := .idle, drop := none, target := none, corridor := none, portMark := none, dropUnconfirmed := false, phaseTimer := none }

/-- The capture state of an arm after reset (R160). -/
def Capture.initial : Capture :=
  { state := .suspended, count := 0, latch := none, stuckCommitted := false, probe := none, previous := none, bounces := 0, stucks := 0 }

/-- A walk after reset (R173). -/
def Walk.initial : Walk := { state := .stopped, head := none, loop := false }

/-- The capture queue after reset (R185). -/
def Queue.initial : Queue :=
  { records := [], credits := 0, nextSequence := 0, overruns := 0, stallCount := 0, stallMark := false, missingMark := false }

/-- The notice list after reset (R192). -/
def Notices.initial : Notices := { entries := [], mask := 0, lost := 0, currentCycle := 0 }

/-- The part right after reset, the RESET pin deasserted: SETUP holds its defaults and every other table is empty (R31); each
block is as its chapter states (R15, R44, R60, R81, R105, R115, R123, R144, R160, R173, R185, R192). (log 9) -/
def State.reset : State :=
  { pending := [], resetPin := false, now := 0, freeIndex := 0, setup := Setup.initial, link := Link.initial,
    service := Service.initial, channels := [], axes := [], map := [], head := ⟨Head.initial, Head.initial⟩, zones := [],
    supervision := ⟨Supervision.initial, Supervision.initial⟩, library := [], active := ⟨.none, .none⟩,
    latestReport := ⟨none, none⟩, rack := Rack.initial, sequencer := ⟨Sequencer.initial, Sequencer.initial⟩,
    capture := ⟨Capture.initial, Capture.initial⟩, plan := [], walk := ⟨Walk.initial, Walk.initial⟩,
    queue := Queue.initial, notices := Notices.initial }

end Sys2Proof.Machine
end

