-- ==== Sys2Proof/Machine/Frames.lean ====
section
/-! DEFINITION. Frames as bytes (1.9): what is sent, and what is read from a taken frame (R3, R5). -/

namespace Sys2Proof.Machine

/-- The bytes of a slot: address, kind, payload length in words, payload (1.9). -/
def slotBytes (sl : Slot) : List Byte :=
  sl.address :: sl.kind :: byteOf (sl.payload.length / 4) :: sl.payload

/-- The bytes of a cycle frame from its kind field to its last payload byte (1.9). -/
def cycleBytes (kind : Byte) (f : CycleFrame) : List Byte :=
  kind :: (leBytes 2 f.cycle.toNat ++ byteOf f.slots.length :: f.slots.flatMap slotBytes)

/-- The bytes of a frame that its check covers (R3, 1.9). -/
def frameBody : Frame → List Byte
  | .cycleOut f => cycleBytes 0x01 f
  | .cycleBack f => cycleBytes 0x02 f
  | .serviceReq dest tag code params => 0x03 :: dest :: tag :: code :: (leBytes 2 params.length ++ params)
  | .serviceRep source tag code outcome reason data =>
    0x04 :: source :: tag :: code :: outcome :: reason :: (leBytes 2 data.length ++ data)

/-- A frame as sent on the line: the covered bytes and the check (R3). -/
def frameBytes (f : Frame) : List Byte := withCheck (frameBody f)

/-- A slot that a frame can hold: whole words of payload, at most 255 (1.9). -/
def slotFits (sl : Slot) : Bool := sl.payload.length % 4 == 0 && decide (sl.payload.length ≤ 1020)

/-- A cycle frame that the line can carry whole: 1 to 40 slots that fit, and at most 1 536 bytes (R2, R5). -/
def cycleFits (f : CycleFrame) : Bool :=
  decide (1 ≤ f.slots.length) && decide (f.slots.length ≤ Config.maxSlots) && f.slots.all slotFits
    && decide ((cycleBytes 0x01 f).length + 2 ≤ Config.maxFrameBytes)

/-- A frame that the line can carry whole (R2, R5). -/
def frameFits (f : Frame) : Bool :=
  match f with
  | .cycleOut c => cycleFits c
  | .cycleBack c => cycleFits c
  | .serviceReq _ _ _ params => decide (params.length + 8 ≤ Config.maxFrameBytes)
  | .serviceRep _ _ _ _ _ data => decide (data.length + 10 ≤ Config.maxFrameBytes)

/-- Read a number of slots that follow one another and end exactly where the bytes end (R5). -/
def parseSlots : Nat → List Byte → Option (List Slot)
  | 0, [] => some []
  | 0, _ :: _ => none
  | n + 1, address :: kind :: words :: rest =>
    if rest.length < 4 * words.toNat then none
    else
      match parseSlots n (rest.drop (4 * words.toNat)) with
      | some slots => some ({ address := address, kind := kind, payload := rest.take (4 * words.toNat) } :: slots)
      | none => none
  | _ + 1, _ => none

/-- Read a cycle frame after its kind byte (R5). -/
def parseCycle : List Byte → Option CycleFrame
  | c0 :: c1 :: count :: rest =>
    if 1 ≤ count.toNat ∧ count.toNat ≤ Config.maxSlots then
      match parseSlots count.toNat rest with
      | some slots => some { cycle := BitVec.ofNat 16 (leNat [c0, c1]), slots := slots }
      | none => none
    else none
  | _ => none

/-- Read the covered bytes of a frame: `none` when the frame is not well-formed (R5). -/
def parseBody : List Byte → Option Frame
  | [] => none
  | kind :: rest =>
    if kind = 0x01 then (parseCycle rest).map Frame.cycleOut
    else if kind = 0x02 then (parseCycle rest).map Frame.cycleBack
    else if kind = 0x03 then
      match rest with
      | dest :: tag :: code :: l0 :: l1 :: params =>
        if leNat [l0, l1] = params.length then some (.serviceReq dest tag code params) else none
      | _ => none
    else if kind = 0x04 then
      match rest with
      | source :: tag :: code :: outcome :: reason :: l0 :: l1 :: data =>
        if leNat [l0, l1] = data.length then some (.serviceRep source tag code outcome reason data) else none
      | _ => none
    else none

/-- What a receive side makes of the bytes of one frame (R2 to R5). -/
inductive Arrival where
  | discarded
  | badCheck
  | notWellFormed
  | good (f : Frame)
  deriving DecidableEq, Repr

/-- Classify a frame by its bytes: discarded when longer than 1 536 bytes or too short for a kind field and two check bytes (R2), bad
check (R4), not well-formed (R5), or a well-formed frame. -/
def classify (bytes : List Byte) : Arrival :=
  if bytes.length > Config.maxFrameBytes ∨ bytes.length < 3 then .discarded
  else if goodCheck bytes then
    match parseBody (coveredBytes bytes) with
    | some f => .good f
    | none => .notWellFormed
  else .badCheck

/-- A well-formed frame is forwarded unchanged, not acted on, on this port (R7). -/
def passesThrough (p : Port) (f : Frame) : Bool :=
  match p, f with
  | .u, .cycleOut _ => false
  | .u, .cycleBack _ => true
  | .u, .serviceReq dest _ _ _ => dest.toNat != Config.ownAddress
  | .u, .serviceRep .. => true
  | .d, .cycleBack _ => false
  | .d, _ => true

/-- The outcome code of a reply (1.9). -/
def outcomeCode : ReplyOutcome → Nat
  | .done => 0
  | .busy => 1
  | .badFormat => 2
  | .badValue => 3
  | .state => 4

/-- The reason code of a reply (R28). -/
def reasonCode : Reason → Nat
  | .none => 0
  | .parameter => 1
  | .range => 2
  | .field => 3
  | .entry => 4
  | .probeUnknown => 5
  | .probeNotAllowed => 6
  | .maskSafety => 7
  | .noWindow => 16
  | .notBroken => 17
  | .armsActive => 18
  | .zoneInUse => 19
  | .probeInvolved => 20
  | .notUnique => 21
  | .planActive => 22
  | .notStopped => 32
  | .link => 33
  | .overtravel => 34
  | .noPosition => 35
  | .zone => 36
  | .armStopped => 40
  | .targetLocation => 41
  | .noDropStation => 42
  | .noCorridor => 43
  | .notActive => 44
  | .walkRunning => 48
  | .notParked => 49

/-- The SERVICE_REP frame of a reply of the part's own: source 62, tag and code echoed (R8, R27). -/
def replyFrame (r : Reply) : Frame :=
  .serviceRep (byteOf Config.ownAddress) r.tag r.code (byteOf (outcomeCode r.answer.outcome))
    (byteOf (reasonCode r.answer.reason)) r.answer.data

/-- The bytes that a frame of a transmit queue sends: the check computed afresh, but for a frame forwarded as taken (R3). -/
def txBytes : TxFrame → List Byte
  | .out f _ => frameBytes (.cycleOut f)
  | .back f => frameBytes (.cycleBack f)
  | .reply r => frameBytes (replyFrame r)
  | .asTaken bytes => bytes

end Sys2Proof.Machine
end

