-- ==== Sys2Proof/Machine/Ops.lean ====
section
/-! DEFINITION. The named operations over the state that every block uses: access by arm, axis and table index, the timers, the
notice list (R187), the transmit queues (R14) and the bad-frame counters (R6). -/

namespace Sys2Proof.Machine

/-! ### Arms and axes -/

/-- The arm that is not this one. -/
def otherArm : Arm → Arm
  | .a => .b
  | .b => .a

/-- 0 for arm A and 1 for arm B (2.2). -/
def armCode : Arm → Nat
  | .a => 0
  | .b => 1

/-- The value for an arm. -/
def PerArm.get {α : Type} (p : PerArm α) : Arm → α
  | .a => p.a
  | .b => p.b

/-- Replace the value for an arm. -/
def PerArm.put {α : Type} (p : PerArm α) (arm : Arm) (v : α) : PerArm α :=
  match arm with
  | .a => { p with a := v }
  | .b => { p with b := v }

/-- The value for an axis. -/
def Triple.get {α : Type} (t : Triple α) : Axis → α
  | .x => t.x
  | .y => t.y
  | .z => t.z

/-- Apply a function to each axis. -/
def Triple.map {α β : Type} (f : α → β) (t : Triple α) : Triple β := ⟨f t.x, f t.y, f t.z⟩

/-- Combine two triples axis by axis. -/
def Triple.zip {α β γ : Type} (f : α → β → γ) (s : Triple α) (t : Triple β) : Triple γ :=
  ⟨f s.x t.x, f s.y t.y, f s.z t.z⟩

/-- A test holds on each axis. -/
def Triple.all {α : Type} (f : α → Bool) (t : Triple α) : Bool := f t.x && f t.y && f t.z

/-- A test holds on some axis. -/
def Triple.any {α : Type} (f : α → Bool) (t : Triple α) : Bool := f t.x || f t.y || f t.z

/-- The three values if each is present. -/
def Triple.present {α : Type} (t : Triple (Option α)) : Option (Triple α) :=
  match t.x, t.y, t.z with
  | some x, some y, some z => some ⟨x, y, z⟩
  | _, _, _ => none

/-- 0, 1 and 2 for x, y and z (00_scope 4.6). -/
def axisCode : Axis → Nat
  | .x => 0
  | .y => 1
  | .z => 2

/-- The axis of an AXIS index, modulo the arm (00_scope 4.6). -/
def axisOf (i : Nat) : Axis :=
  match i % 3 with
  | 0 => .x
  | 1 => .y
  | _ => .z

/-- The AXIS index of an arm's axis: arm × 3 + axis (4.1). -/
def axisIndex (arm : Arm) (ax : Axis) : Nat := armCode arm * 3 + axisCode ax

/-! ### Tables -/

/-- The entry in use at an index. -/
def Table.entry {α : Type} : Table α → Nat → Option α
  | [], _ => none
  | (k, v) :: t, i => if k = i then some v else Table.entry t i

/-- Put an entry in use at an index, the indices kept rising. -/
def Table.store {α : Type} : Table α → Nat → α → Table α
  | [], i, v => [(i, v)]
  | (k, w) :: t, i, v =>
    if i < k then (i, v) :: (k, w) :: t
    else if i = k then (i, v) :: t
    else (k, w) :: Table.store t i v

/-- Empty the entry at an index. -/
def Table.clear {α : Type} : Table α → Nat → Table α
  | [], _ => []
  | (k, w) :: t, i => if k = i then Table.clear t i else (k, w) :: Table.clear t i

/-- Write an entry, empty (`none`) or in use, at an index (R32). -/
def Table.write {α : Type} (t : Table α) (i : Nat) (e : Option α) : Table α :=
  match e with
  | some v => Table.store t i v
  | none => Table.clear t i

/-- The indices from a lower bound on rise strictly and lie below the table's size. -/
def Table.risesFrom {α : Type} (size : Nat) : Nat → Table α → Bool
  | _, [] => true
  | low, (k, _) :: t => decide (low ≤ k) && decide (k < size) && Table.risesFrom size (k + 1) t

/-- The table's canonical form: indices strictly rising, each below the table's size. -/
def Table.wf {α : Type} (size : Nat) (t : Table α) : Bool := Table.risesFrom size 0 t

/-- The error value of a map point: 0 for an empty entry (R64). -/
def mapPoint (t : Table Int) (i : Nat) : Int := (Table.entry t i).getD 0

/-- Write a map point: writing 0 empties it (R64). -/
def writeMapPoint (t : Table Int) (i : Nat) (v : Int) : Table Int :=
  Table.write t i (if v = 0 then none else some v)

/-- The number of entries of a table (R31). -/
def tableSize : TableCode → Nat
  | .setup => 1
  | .channel => 32
  | .axis => 6
  | .map => 1536
  | .zone => 32
  | .library => 32
  | .plan => 512

/-- The canonical form of every loadable table: indices rising and in range, and no map point listed with the value 0 that an
empty entry has (R31, R64). -/
def State.tablesWf (s : State) : Bool :=
  Table.wf 32 s.channels && Table.wf 6 s.axes && Table.wf 1536 s.map && s.map.all (fun p => p.2 != 0)
    && Table.wf 32 s.zones && Table.wf 32 s.library && Table.wf 512 s.plan

/-! ### Replacing one block's state -/

/-- Replace an arm's supervision state. -/
def State.setSupervision (s : State) (arm : Arm) (v : Supervision) : State :=
  { s with supervision := s.supervision.put arm v }

/-- Replace an arm's change sequencer. -/
def State.setSequencer (s : State) (arm : Arm) (v : Sequencer) : State :=
  { s with sequencer := s.sequencer.put arm v }

/-- Replace an arm's capture state. -/
def State.setCapture (s : State) (arm : Arm) (v : Capture) : State :=
  { s with capture := s.capture.put arm v }

/-- Replace an arm's correction state. -/
def State.setHead (s : State) (arm : Arm) (v : Head) : State :=
  { s with head := s.head.put arm v }

/-- Replace an arm's walk. -/
def State.setWalk (s : State) (arm : Arm) (v : Walk) : State :=
  { s with walk := s.walk.put arm v }

/-- Replace the rack channel. -/
def State.setRack (s : State) (v : Rack) : State := { s with rack := v }

/-- Replace the link block. -/
def State.setLink (s : State) (v : Link) : State := { s with link := v }

/-- Replace the service block. -/
def State.setService (s : State) (v : Service) : State := { s with service := v }

/-- Replace the capture queue. -/
def State.setQueue (s : State) (v : Queue) : State := { s with queue := v }

/-- Replace the notice list. -/
def State.setNotices (s : State) (v : Notices) : State := { s with notices := v }

/-! ### Time -/

/-- The expiry of a timer started now with a time in µs (00_scope 4.3). -/
def State.after (s : State) (micros : Nat) : Option Nat := some (s.now + micros)

/-- An expiry is taken: the part's reference has reached it. (log 5) -/
def State.reach (s : State) (expiry : Nat) : State := { s with now := max s.now expiry }

/-! ### Notices (R186, R187) -/

/-- The code of a notice kind (R186). -/
def noticeCode : NoticeKind → Nat
  | .armStopped => 0
  | .linkLoss => 1
  | .changeDone => 2
  | .changeFailed => 3
  | .dropReady => 4
  | .pickReady => 5
  | .probeLost => 6
  | .probeMountedManual => 7
  | .rackPortUnknown => 8
  | .captureLevel => 9
  | .captureStall => 10
  | .captureOverrun => 11
  | .planParked => 12
  | .planFault => 13
  | .channelFault => 14
  | .channelStale => 15
  | .thermalAlarm => 16
  | .badFrame => 17
  | .lateRackReply => 18
  | .reportSlotMissing => 19

/-- The class of a notice kind: 1 SAFETY, 2 CHANGE, 3 CAPTURE, 4 THERMAL, 5 LINK (R186). -/
def noticeClass : NoticeKind → Nat
  | .armStopped | .linkLoss => 1
  | .changeDone | .changeFailed | .dropReady | .pickReady | .probeLost | .probeMountedManual | .rackPortUnknown => 2
  | .captureLevel | .captureStall | .captureOverrun | .planParked | .planFault => 3
  | .channelFault | .channelStale | .thermalAlarm => 4
  | .badFrame | .lateRackReply | .reportSlotMissing => 5

/-- The code of a stop cause (R186). -/
def stopCauseCode : StopCause → Nat
  | .reset => 0
  | .restart => 1
  | .request => 2
  | .holdLimit => 3
  | .overtravel => 4
  | .scaleFail => 5
  | .linkLoss => 6

/-- A raise as the list takes it: dropped if the kind is masked, folded into the entry of the same kind and subject, appended, or
counted as lost (R187). -/
def Notices.enter (n : Notices) (kind : NoticeKind) (subject : Subject) (detail : Nat) : Notices :=
  if n.mask.getLsbD (noticeCode kind) then n
  else if n.entries.any (fun e => e.kind == kind && e.subject == subject) then
    { n with entries := n.entries.map (fun e =>
        if e.kind == kind && e.subject == subject then { e with detail := detail, repeats := bump8 e.repeats } else e) }
  else if n.entries.length < Config.noticeDepth then
    { n with entries := n.entries ++
        [{ kind := kind, subject := subject, detail := detail, firstCycle := n.currentCycle, repeats := 1 }] }
  else { n with lost := bump16 n.lost }

/-- Raise a notice (R187). -/
def State.raise (s : State) (kind : NoticeKind) (subject : Subject) (detail : Nat) : State :=
  s.setNotices (s.notices.enter kind subject detail)

/-- The top pending class: the highest class with an entry in the list, 0 when the list is empty (R188). -/
def topClass (entries : List Notice) : Nat :=
  match [1, 2, 3, 4, 5].find? (fun c => entries.any (fun e => noticeClass e.kind == c)) with
  | some c => c
  | none => 0

/-- Set the current cycle number: a cycle frame is taken into processing or originated (R187). -/
def State.setCurrentCycle (s : State) (c : CycleNumber) : State :=
  s.setNotices { s.notices with currentCycle := c }

/-! ### Bad frames and the transmit queues (R6, R14) -/

/-- Count a bad frame on the port where it was taken, and raise BAD_FRAME (R6). -/
def State.countBadFrame (s : State) (p : Port) : State :=
  (match p with
    | .u => s.setLink { s.link with badU := bump16 s.link.badU }
    | .d => s.setLink { s.link with badD := bump16 s.link.badD }).raise .badFrame .none 0

/-- The transmit queue of a port (R14). -/
def Link.tx (l : Link) : Port → List TxFrame
  | .u => l.txU
  | .d => l.txD

/-- Replace the transmit queue of a port. -/
def Link.setTx (l : Link) (p : Port) (q : List TxFrame) : Link :=
  match p with
  | .u => { l with txU := q }
  | .d => { l with txD := q }

/-- The transmit queue of a port already holds 8 frames (R14). (log 3) -/
def State.txFull (s : State) (p : Port) : Bool := decide (Config.transmitDepth ≤ (s.link.tx p).length)

/-- Place a frame at the back of a port's transmit queue; a frame that meets a full queue is discarded (R14). -/
def State.placeTx (s : State) (p : Port) (t : TxFrame) : State :=
  if s.txFull p then s else s.setLink (s.link.setTx p (s.link.tx p ++ [t]))

/-- The port that is not this one. -/
def otherPort : Port → Port
  | .u => .d
  | .d => .u

/-- Forward a frame to the other port: a discard from a full transmit queue counts as a bad frame on the port where the frame was
taken (R14). (log 14) -/
def State.forward (s : State) (taken : Port) (t : TxFrame) : State :=
  if s.txFull (otherPort taken) then s.countBadFrame taken else s.placeTx (otherPort taken) t

/-- Run an action only while the RESET pin is deasserted: until reset has ended the part is held in its reset state (R15). (log 9) -/
def State.unlessReset (s : State) (f : State → State) : State := if s.resetPin then s else f s

end Sys2Proof.Machine
end

