-- ==== Sys2Proof/Machine/Operands.lean ====
section
/-! DEFINITION. The operand forms: slot kinds and slot payloads as the layouts of 1.9 give them (which values are within the
layout is R12), and the fields of request parameters (R29). -/

namespace Sys2Proof.Machine

/-! ### Slot kinds and least payload lengths in words (1.9, R12) -/

def kindTarget : Byte := 0x10
def kindPosition : Byte := 0x11
def kindProbe : Byte := 0x12
def kindThermal : Byte := 0x13
def kindRackOut : Byte := 0x14
def kindRackIn : Byte := 0x15
def kindReport : Byte := 0x16

/-- The payload is at least as long as a layout of that many words requires (R12). -/
def longEnough (words : Nat) (payload : List Byte) : Bool := decide (4 * words ≤ payload.length)

/-! ### TARGET: 4 words -/

/-- The drive-enable flag of a TARGET slot. -/
def targetEnable (p : List Byte) : Bool := bitOf (p.headD 0) 0

/-- The three targets of a TARGET slot, in nm. -/
def targetPoint (p : List Byte) : Triple Int := ⟨sField p 1 5, sField p 6 5, sField p 11 5⟩

/-- The flag byte of a TARGET slot with drive enable and hold marker written, bits 2 to 7 left as taken (R13). -/
def targetFlags (old : Byte) (enable marker : Bool) : Byte :=
  (old &&& 0xFC) ||| (if enable then 1 else 0) ||| (if marker then 2 else 0)

/-- Three positions as 40-bit fields one after another. -/
def tripleBytes (t : Triple Int) : List Byte := leIntBytes 5 t.x ++ leIntBytes 5 t.y ++ leIntBytes 5 t.z

/-- Write the drive-enable flag and the hold marker of a TARGET slot (R13). -/
def writeTargetFlags (p : List Byte) (enable marker : Bool) : List Byte :=
  splice p 0 [targetFlags (p.headD 0) enable marker]

/-- Write drive enable, hold marker and targets of a TARGET slot; every other byte stays as taken (R13). -/
def writeTarget (p : List Byte) (enable marker : Bool) (t : Triple Int) : List Byte :=
  splice (writeTargetFlags p enable marker) 1 (tripleBytes t)

/-! ### POSITION: 9 words -/

/-- The head status of an axis: OK, WEAK or FAIL (R66; code 3 is read as FAIL). -/
inductive HeadStatus where
  | ok
  | weak
  | fail
  deriving DecidableEq, Repr

/-- The head status of a two-bit code (R66). -/
def headStatusOf (code : Nat) : HeadStatus :=
  match code % 4 with
  | 0 => .ok
  | 1 => .weak
  | _ => .fail

/-- The three raw counts of a POSITION slot. -/
def positionCounts (p : List Byte) : Triple Int := ⟨sField p 0 5, sField p 5 5, sField p 10 5⟩

/-- The three head statuses of a POSITION slot. -/
def positionStatus (p : List Byte) : Triple HeadStatus :=
  let v := uField p 15 1
  ⟨headStatusOf v, headStatusOf (v / 4), headStatusOf (v / 16)⟩

/-! ### PROBE: 2 words -/

/-- The PROBE report of a payload, `none` when a field lies outside its layout: another mount state, ATTACHED with identity 0, or a
present edge offset above 1 023 (R12). -/
def readProbe (p : List Byte) : Option ProbeReport :=
  let mount := uField p 0 1
  let identity := uField p 1 3
  let flags := p.getD 4 0
  let edge := uField p 5 2
  if mount > 1 then none
  else if mount = 1 ∧ identity = 0 then none
  else if bitOf flags 2 ∧ edge > 1023 then none
  else some
    { identity := if mount = 1 then some identity else none
      deflected := bitOf flags 0
      overtravel := bitOf flags 1
      edge := if bitOf flags 2 then some edge else none }

/-! ### THERMAL: 6 words -/

/-- The reading of a position in a THERMAL slot: `none` for the no-reading value −8 388 608 (R45). -/
def thermalReading (p : List Byte) (position : Nat) : Option Int :=
  let v := sField p (3 * position) 3
  if v = -8388608 then none else some v

/-! ### RACK_IN: 2 words -/

/-- The outcome of a rack message: ACK with port state (OPEN: true) and occupancy (SENSED: true), NAK with its reason, TIMEOUT (R121,
R122). -/
inductive RackOutcome where
  | ack (portOpen sensed : Bool)
  | nak (reason : Nat)
  | timeout
  deriving DecidableEq, Repr

/-- A rack reply: tag, station and outcome (1.9). -/
structure RackReply where
  tag : RackTag
  station : Nat
  outcome : RackOutcome
  deriving DecidableEq, Repr

/-- What a RACK_IN slot carries: outside its layout (R12), empty, or a reply. -/
inductive RackIn where
  | outside
  | empty
  | reply (r : RackReply)
  deriving DecidableEq, Repr

/-- Read a RACK_IN payload (1.9, R12): with present 0 the other bytes are not read. (log 18) -/
def readRackIn (p : List Byte) : RackIn :=
  let present := uField p 0 1
  let tag := uField p 1 1
  let kind := uField p 2 1
  let station := uField p 3 1
  let port := uField p 4 1
  let occupancy := uField p 5 1
  let reason := uField p 6 1
  if present = 0 then .empty
  else if present > 1 ∨ tag > 15 ∨ station < 1 ∨ station > 24 ∨ port > 1 ∨ occupancy > 1 then .outside
  else if kind = 1 then
    if reason = 0 then
      .reply { tag := BitVec.ofNat 4 tag, station := station, outcome := .ack (port == 1) (occupancy == 1) }
    else .outside
  else if kind = 2 then
    if reason = 0 then .outside
    else .reply { tag := BitVec.ofNat 4 tag, station := station, outcome := .nak reason }
  else .outside

/-! ### Request parameters (R29, R30) -/

/-- The arm of an arm field, `none` outside 0 and 1. -/
def armOf (v : Nat) : Option Arm :=
  match v with
  | 0 => some .a
  | 1 => some .b
  | _ => none

/-- The table of a table code (R31), `none` outside 0 to 6. -/
def tableOf (v : Nat) : Option TableCode :=
  match v with
  | 0 => some .setup
  | 1 => some .channel
  | 2 => some .axis
  | 3 => some .map
  | 4 => some .zone
  | 5 => some .library
  | 6 => some .plan
  | _ => none

/-- The code of a table (R31). -/
def tableCode : TableCode → Nat
  | .setup => 0
  | .channel => 1
  | .axis => 2
  | .map => 3
  | .zone => 4
  | .library => 5
  | .plan => 6

/-- The method of a method field (R29), `none` outside 0 and 1. -/
def methodOf (v : Nat) : Option Method :=
  match v with
  | 0 => some .stop
  | 1 => some .wrap
  | _ => none

/-- The flag of a flag field, `none` outside 0 and 1 (2.2). -/
def flagOf (v : Nat) : Option Bool :=
  match v with
  | 0 => some false
  | 1 => some true
  | _ => none

/-- An optional field: present byte 0 is absent and the value is not read, 1 is present (R32); `none` for another present byte. -/
def optionalOf {α : Type} (present : Nat) (value : α) : Option (Option α) :=
  match present with
  | 0 => some none
  | 1 => some (some value)
  | _ => none

end Sys2Proof.Machine
end

