-- ==== Sys2Proof/Machine/Flags.lean ====
section
/-! DEFINITION. The flag fields: the correction flags of a POSITION slot and of the status record (1.9, R191), and the flags of a
capture record (1.9, R180). -/

namespace Sys2Proof.Machine

/-- No correction flag set. -/
def AxisFlags.none : AxisFlags := ⟨false, false, false, false⟩

/-- The four correction flags of an axis as a number: bit 0 THERMAL_HELD, 1 MAP_EDGE, 2 CLAMPED, 3 STALE (1.9). -/
def axisFlagCode (f : AxisFlags) : Nat :=
  f.thermalHeld.toNat + 2 * f.mapEdge.toNat + 4 * f.clamped.toNat + 8 * f.stale.toNat

/-- The correction flags of three axes: bits 0–3 x, 4–7 y, 8–11 z (1.9). -/
def positionFlagCode (t : Triple AxisFlags) : Nat :=
  axisFlagCode t.x + 16 * axisFlagCode t.y + 256 * axisFlagCode t.z

/-- The two correction-flag bytes of a POSITION slot, bits 12–15 left as taken (R13, R74). -/
def correctionFlagBytes (old : List Byte) (t : Triple AxisFlags) : List Byte :=
  leBytes 2 (positionFlagCode t + 4096 * (uField old 31 2 / 4096))

/-- Write the corrected positions and the correction flags of a POSITION slot; every other byte stays as the node sent it (R74). -/
def writePosition (p : List Byte) (corrected : Triple Int) (flags : Triple AxisFlags) : List Byte :=
  splice (splice p 16 (tripleBytes corrected)) 31 (correctionFlagBytes p flags)

/-- The flags of a capture record: bits 0 to 8 in the order of 1.9. -/
def recordFlagCode (f : RecordFlags) : Nat :=
  f.thermalHeld.toNat + 2 * f.positionStale.toNat + 4 * f.fast.toNat + 8 * f.unplanned.toNat + 16 * f.planEmpty.toNat
    + 32 * f.probeSuspect.toNat + 64 * f.clamped.toNat + 128 * f.armHeld.toNat + 256 * f.overrunAfter.toNat

/-- A record is flagged when it carries any flag other than ARM_HELD (R180). -/
def RecordFlags.flagged (f : RecordFlags) : Bool :=
  f.thermalHeld || f.positionStale || f.fast || f.unplanned || f.planEmpty || f.probeSuspect || f.clamped || f.overrunAfter

end Sys2Proof.Machine
end

