-- ==== Sys2Proof/Machine/Thermal.lean ====
section
/-! DEFINITION. The thermal block (chapter 3): readings, filter, channel states, alarms, ageing and working temperatures. -/

namespace Sys2Proof.Machine

/-- The run state of a channel that becomes used (R47, R60). -/
def freshRun : ChannelRun :=
  { state := .settling, filtered := none, seed := true, progress := 0, outRun := 0, age := 0, held := none, alarmOn := false }

/-- The new filtered value for an in-range reading r (R49). -/
def filterValue (e : ChannelEntry) (run : ChannelRun) (r : Int) : Int :=
  if run.seed then r
  else
    match run.filtered with
    | none => r
    | some f => f + roundDiv (r - f) (2 ^ e.shift)

/-- The alarm test on a filtered value; false for an entry without alarm (R55). -/
def alarmTest (e : ChannelEntry) (f : Int) : Bool :=
  match e.alarm with
  | none => false
  | some (threshold, .above) => decide (threshold ≤ f)
  | some (threshold, .below) => decide (f < threshold)

/-- The run state with which an in-range reading meets the filter: leaving FAULT clears the progress and sets the seed mark (R52); the
out-of-range run ends (R50, R51). -/
def readyRun (run : ChannelRun) : ChannelRun :=
  match run.state with
  | .fault => { run with state := .settling, progress := 0, seed := true, outRun := 0 }
  | _ => { run with outRun := 0 }

/-- The run state after an in-range reading r (R49 to R52, R55). -/
def inRangeRun (e : ChannelEntry) (run : ChannelRun) (r : Int) : ChannelRun :=
  let ready := readyRun run
  let f := filterValue e ready r
  let updated := { ready with filtered := some f, seed := false, alarmOn := alarmTest e f }
  match ready.state with
  | .settling =>
    let progress := addUpTo 15 ready.progress 1
    if e.settle ≤ progress then { updated with progress := progress, state := .valid, held := some f }
    else { updated with progress := progress }
  | _ => { updated with state := .valid, held := some f }

/-- The run state after an out-of-range reading (R52, R53). -/
def outOfRangeRun (e : ChannelEntry) (run : ChannelRun) : ChannelRun :=
  match run.state with
  | .fault => run
  | _ =>
    let outRun := addUpTo 8 run.outRun 1
    if e.debounce ≤ outRun then { run with outRun := outRun, state := .fault } else { run with outRun := outRun }

/-- The trimmed reading r = t + trim, exactly (R48). -/
def trimmed (e : ChannelEntry) (t : Int) : Int := t + e.trim

/-- The trimmed reading is in range (R48). -/
def inRange (e : ChannelEntry) (r : Int) : Bool := decide (e.low ≤ r) && decide (r ≤ e.high)

/-- A present raw reading t reaches a channel; an UNUSED channel disregards it (R45, R48, R53, R55). -/
def takeReading (s : State) (channel : Nat) (t : Int) : State :=
  match Table.entry s.channels channel with
  | none => s
  | some c =>
    let r := trimmed c.entry t
    let rested := { c.run with age := 0 }
    if inRange c.entry r then
      let run := inRangeRun c.entry rested r
      let s' := { s with channels := Table.store s.channels channel { c with run := run } }
      if run.alarmOn && !c.run.alarmOn then s'.raise .thermalAlarm (.channel channel) 0 else s'
    else
      let run := outOfRangeRun c.entry rested
      let s' := { s with channels := Table.store s.channels channel { c with run := run } }
      if run.state == .fault && c.run.state != .fault then s'.raise .channelFault (.channel channel) 0 else s'

/-- The THERMAL slot of a hub: its eight readings, one after another, to channels hub × 8 + position (R45). -/
def thermalSlot (s : State) (hub : Nat) (payload : List Byte) : State :=
  (List.range 8).foldl (fun s p =>
    match thermalReading payload p with
    | some t => takeReading s (hub * 8 + p) t
    | none => s) s

/-- The channels of a hub that got a present reading from a THERMAL slot (R45). -/
def channelsRead (hub : Nat) (payload : List Byte) : List Nat :=
  ((List.range 8).filter (fun p => (thermalReading payload p).isSome)).map (fun p => hub * 8 + p)

/-- A used channel without a reading in the frame ages by one; a VALID one that reaches its stale limit goes STALE (R54). -/
def agedRun (e : ChannelEntry) (run : ChannelRun) : ChannelRun :=
  let age := bump8 run.age
  if run.state == .valid && decide (e.staleLimit ≤ age) then { run with age := age, state := .stale }
  else { run with age := age }

/-- A channel as the ageing stage of a frame leaves it, given the channels that had a reading in the frame (R54). -/
def agedChannel (read : List Nat) (p : Nat × Channel) : Nat × Channel :=
  if read.contains p.1 then p else (p.1, { p.2 with run := agedRun p.2.entry p.2.run })

/-- The ageing stage at the end of a return frame: CHANNEL_STALE is raised for each channel that goes STALE (R54). The order of several
raises, the lower channel first, is the model's choice. (log 20) -/
def ageChannels (s : State) (read : List Nat) : State :=
  let turned := s.channels.filter (fun p => p.2.run.state == .valid && (agedChannel read p).2.run.state == .stale)
  turned.foldl (fun s p => s.raise .channelStale (.channel p.1) 0) { s with channels := s.channels.map (agedChannel read) }

/-- The working temperature and held flag of a used channel (R56). -/
def workingTemp (run : ChannelRun) : Int × Bool :=
  match run.state with
  | .valid => (run.filtered.getD 20000, false)
  | _ => (run.held.getD 20000, true)

/-- The scale temperature of an axis from a named channel: 20 000 held unless its role is SCALE of that axis (R57). -/
def scaleTemp (s : State) (channel axis : Nat) : Int × Bool :=
  match Table.entry s.channels channel with
  | some c => if c.entry.role = .scale axis then workingTemp c.run else (20000, true)
  | none => (20000, true)

/-- The rounded mean of the working temperatures of some channels (R58). -/
def meanTemp (runs : List ChannelRun) : Int :=
  roundDiv ((runs.map (fun r => (workingTemp r).1)).sum) runs.length

/-- The arm temperature formed from the channels of a role: the VALID ones alone, else all of them held, else 20 000 held (R58). -/
def roleTemp (s : State) (role : Role) : Int × Bool :=
  let runs := (s.channels.filter (fun p => p.2.entry.role == role)).map (fun p => p.2.run)
  let valid := runs.filter (fun r => r.state == .valid)
  if !valid.isEmpty then (meanTemp valid, false)
  else if !runs.isEmpty then (meanTemp runs, true)
  else (20000, true)

/-- The arm workpiece temperature (R58). -/
def workpieceTemp (s : State) (arm : Arm) : Int × Bool := roleTemp s (.workpiece arm)

/-- The arm probe temperature (R58). -/
def probeTemp (s : State) (arm : Arm) : Int × Bool := roleTemp s (.probeArm arm)

/-- RESTART RUN at the thermal block: ages 0 and alarm conditions false, all else kept (R61). -/
def restartChannels (t : Table Channel) : Table Channel :=
  t.map (fun p => (p.1, { p.2 with run := { p.2.run with age := 0, alarmOn := false } }))

end Sys2Proof.Machine
end

