-- ==== Sys2Proof/Machine/Correction.lean ====
section
/-! DEFINITION. The correction engine's five stages (chapter 4) and the corrected head position record. The requests to stop an
arm, and the leaving test that follows a POSITION slot, stand in Machine/Cycle.lean. -/

namespace Sys2Proof.Machine

/-- Stage 1: the scale position (R67). -/
def scalePosition (e : AxisEntry) (count : Int) : Int := roundDiv ((count - e.origin) * e.resolution) 1000

/-- The scale temperature an axis asks for, with its held flag; no scale channel asks for none: 20 000, not held (R68). -/
def axisTemp (s : State) (index : Nat) (e : AxisEntry) : Int × Bool :=
  match e.channel with
  | none => (20000, false)
  | some c => scaleTemp s c index

/-- Stage 2: the thermal term for a scale temperature (R68). -/
def thermalTerm (e : AxisEntry) (ps temp : Int) : Int :=
  roundDiv ((ps - e.anchor) * e.coefficient * (temp - 20000)) (10 ^ 12)

/-- The map value of an axis's point: MAP entry axis × 256 + point (4.2). -/
def mapValue (s : State) (index point : Nat) : Int := mapPoint s.map (index * 256 + point)

/-- Stage 3: the map term and MAP_EDGE at a thermal position (R69). -/
def mapTerm (s : State) (index : Nat) (e : AxisEntry) (pt : Int) : Int × Bool :=
  if !e.mapEnabled then (0, false)
  else
    let pitch : Nat := e.mapPitch * 1000
    if pt < e.mapStart then (mapValue s index 0, true)
    else
      let i : Nat := (pt - e.mapStart).toNat / pitch
      if e.mapCount - 1 ≤ i then (mapValue s index (e.mapCount - 1), true)
      else
        let f : Int := pt - e.mapStart - i * pitch
        (mapValue s index i + roundDiv ((mapValue s index (i + 1) - mapValue s index i) * f) pitch, false)

/-- An axis after stages 1 and 2: scale position, thermal term, held flag. -/
structure ThermalStage where
  scale : Int
  term : Int
  held : Bool
  deriving DecidableEq, Repr

/-- The thermal position p_t (R68). -/
def ThermalStage.position (t : ThermalStage) : Int := t.scale + t.term

/-- Stages 1 and 2 of an axis, `none` when the axis is failed in the slot: head FAIL, or AXIS record empty (R66). -/
def thermalStage (s : State) (arm : Arm) (ax : Axis) (status : HeadStatus) (count : Int) : Option ThermalStage :=
  match Table.entry s.axes (axisIndex arm ax), status with
  | none, _ => none
  | some _, .fail => none
  | some e, _ =>
    let ps := scalePosition e count
    let t := axisTemp s (axisIndex arm ax) e
    some { scale := ps, term := thermalTerm e ps t.1, held := t.2 }

/-- Stage 4: the coupling term and whether it flags STALE (R70). -/
def couplingTerm (record : Triple HeadAxis) (stages : Triple (Option ThermalStage)) (e : AxisEntry) : Int × Bool :=
  match e.coupled with
  | none => (0, false)
  | some c =>
    match stages.get (axisOf c) with
    | some t => (roundDiv (e.coupling * t.position) (10 ^ 9), false)
    | none =>
      match (record.get (axisOf c)).thermal with
      | some pc => (roundDiv (e.coupling * pc) (10 ^ 9), true)
      | none => (0, true)

/-- What an axis gets in a POSITION slot: the corrected value and flags for the slot, and the axis's record afterwards. -/
structure AxisResult where
  corrected : Int
  after : HeadAxis
  deriving DecidableEq, Repr

/-- A failed axis: the last corrected value is repeated with its flags and STALE set; the values of the record stay (R73, R75). -/
def failedAxis (h : HeadAxis) : AxisResult :=
  let flags : AxisFlags := match h.last with
    | some _ => { h.flags with stale := true }
    | none => { AxisFlags.none with stale := true }
  { corrected := h.last.getD 0, after := { h with flags := flags } }

/-- A computed axis: stages 3 to 5, with STALE for a WEAK head or a coupled axis that was failed (R69 to R72, R75). -/
def computedAxis (s : State) (arm : Arm) (ax : Axis) (e : AxisEntry) (status : HeadStatus)
    (stages : Triple (Option ThermalStage)) (t : ThermalStage) : AxisResult :=
  let m := mapTerm s (axisIndex arm ax) e t.position
  let q := couplingTerm (s.head.get arm).record stages e
  let total := t.scale + t.term + m.1 + q.1
  let p := clampPosition total
  let flags : AxisFlags :=
    { thermalHeld := t.held, mapEdge := m.2, clamped := !(withinPosition total), stale := q.2 || status == .weak }
  { corrected := p, after := { last := some p, thermal := some t.position, flags := flags } }

/-- One axis of a POSITION slot, computed or failed (R66). -/
def correctAxis (s : State) (arm : Arm) (ax : Axis) (status : HeadStatus) (stages : Triple (Option ThermalStage)) : AxisResult :=
  match stages.get ax, Table.entry s.axes (axisIndex arm ax) with
  | some t, some e => computedAxis s arm ax e status stages t
  | _, _ => failedAxis ((s.head.get arm).record.get ax)

/-- Stages 1 and 2 of the three axes of a POSITION slot (R66). -/
def thermalStages (s : State) (arm : Arm) (payload : List Byte) : Triple (Option ThermalStage) :=
  let counts := positionCounts payload
  let status := positionStatus payload
  ⟨thermalStage s arm .x status.x counts.x, thermalStage s arm .y status.y counts.y, thermalStage s arm .z status.z counts.z⟩

/-- The three axes of a POSITION slot (R66). -/
def correctAxes (s : State) (arm : Arm) (payload : List Byte) : Triple AxisResult :=
  let status := positionStatus payload
  let stages := thermalStages s arm payload
  ⟨correctAxis s arm .x status.x stages, correctAxis s arm .y status.y stages, correctAxis s arm .z status.z stages⟩

/-- All three axes of a POSITION slot are computed (R77, R133). -/
def allComputed (s : State) (arm : Arm) (payload : List Byte) : Bool := (thermalStages s arm payload).all Option.isSome

/-- The POSITION slot's payload as written by the part (R74). -/
def correctedPayload (s : State) (arm : Arm) (payload : List Byte) : List Byte :=
  let r := correctAxes s arm payload
  writePosition payload (r.map (fun a => a.corrected)) (r.map (fun a => a.after.flags))

/-- The record update of a POSITION slot: the three axes replaced together (R75). -/
def updateRecord (s : State) (arm : Arm) (payload : List Byte) : State :=
  s.setHead arm { s.head.get arm with record := (correctAxes s arm payload).map (fun a => a.after) }

/-- The record of an arm whose POSITION slot the frame lacks: STALE set on each axis, all else kept (R78). -/
def missingRecord (record : Triple HeadAxis) : Triple HeadAxis :=
  record.map (fun h => { h with flags := { h.flags with stale := true } })

/-- A FAIL cycle is counted: the run gains one, and the stop is due when the run is at or above the limit with the mark clear (R77,
R79). -/
def failCycle (limit : Nat) (h : Head) : Head × Bool :=
  let run := bump8 h.failRun
  if decide (limit ≤ run) && !h.stopRequested then ({ h with failRun := run, stopRequested := true }, true)
  else ({ h with failRun := run }, false)

/-- A slot with all three axes computed ends the run and clears the mark (R77). -/
def endFailRun (h : Head) : Head := { h with failRun := 0, stopRequested := false }

end Sys2Proof.Machine
end

