-- ==== Sys2Proof/Machine/Queue.lean ====
section
/-! DEFINITION. The capture queue (chapter 10): commit and overrun, credits, the REPORT slot, the missing-slot mark and stalls. -/

namespace Sys2Proof.Machine

/-! ### Commit and overrun -/

/-- Set OVERRUN_AFTER on a record (R176). -/
def markOverrun (r : QueuedRecord) : QueuedRecord :=
  { r with record := { r.record with flags := { r.record.flags with overrunAfter := true } } }

/-- Set OVERRUN_AFTER on the record at the back (R176). -/
def markBack : List QueuedRecord → List QueuedRecord
  | [] => []
  | [r] => [markOverrun r]
  | r :: rs => r :: markBack rs

/-- A record is committed with the next sequence number; CAPTURE_LEVEL is raised when the depth becomes the capture level (R175). -/
def commitRecord (s : State) (r : CaptureRecord) : State :=
  let q := s.queue
  let records := q.records ++ [{ sequence := q.nextSequence, record := r }]
  let s1 := s.setQueue { q with records := records, nextSequence := q.nextSequence + 1 }
  if records.length = s.setup.captureLevel then s1.raise .captureLevel .none 0 else s1

/-- A record meets a full queue and is dropped: counted, the back record marked, CAPTURE_OVERRUN raised (R176). -/
def dropRecord (s : State) : State :=
  let q := s.queue
  (s.setQueue { q with records := markBack q.records, overruns := bump16 q.overruns }).raise .captureOverrun .none 0

/-- A record reaches the queue: the number it takes, or none when it is dropped (R175, R176). -/
def enqueueRecord (s : State) (r : CaptureRecord) : State × Option SequenceNumber :=
  if s.queue.records.length < Config.captureDepth then (commitRecord s r, some s.queue.nextSequence) else (dropRecord s, none)

/-! ### Credits (R177) -/

/-- SET CREDITS. -/
def setCredits (s : State) (n : Nat) : State := s.setQueue { s.queue with credits := n }

/-- ADD CREDITS: a grant that would pass 255 stops there. -/
def addCredits (s : State) (n : Nat) : State := s.setQueue { s.queue with credits := addUpTo 255 s.queue.credits n }

/-! ### The capture record's bytes (1.9) -/

/-- The code of a verdict; 0 when absent (1.9). -/
def verdictCode : Option Verdict → Nat
  | none => 0
  | some .inTol => 1
  | some .outTol => 2

/-- The plan index, deviation and verdict fields: 0xFFFF, 0 and 0 when the plan fields are absent (1.9). -/
def planFieldBytes (p : Option PlanResult) : List Byte :=
  match p with
  | some r => leBytes 2 r.index ++ leIntBytes 5 r.deviation ++ [byteOf (verdictCode (some r.verdict))]
  | none => leBytes 2 0xFFFF ++ leIntBytes 5 0 ++ [0]

/-- The 36 bytes of a capture record (1.9). -/
def recordBytes (q : QueuedRecord) : List Byte :=
  let r := q.record
  leBytes 2 q.sequence.toNat ++ [byteOf (armCode r.arm), match r.kind with | .touch => 1 | .stuck => 2]
    ++ leBytes 2 r.cycle.toNat ++ leBytes 2 r.edge ++ tripleBytes r.point ++ leBytes 3 r.identity
    ++ planFieldBytes r.plan ++ leBytes 2 (recordFlagCode r.flags)

/-- The bytes of an empty record space (R13, R178). -/
def emptySpace : List Byte := List.replicate 36 0

/-! ### State codes of the status header and the status record (1.9) -/

def watchCode : Watch → Nat
  | .watching => 0
  | .bridging => 1
  | .halted => 2

def armStateCode : ArmState → Nat
  | .free => 0
  | .held => 1
  | .stopped => 2

def seqStateCode : SeqState → Nat
  | .idle => 0
  | .queued => 1
  | .dropOpening => 2
  | .dropCorridor => 3
  | .dropLeaving => 4
  | .dropClosing => 5
  | .pickOpening => 6
  | .pickCorridor => 7
  | .pickLeaving => 8
  | .pickClosing => 9
  | .winding => 10
  | .clearing => 11
  | .reclosing => 12

def walkCode (w : Walk) : Nat :=
  match w.state, w.head with
  | .stopped, _ => 0
  | .running, _ => 1
  | .parked, some _ => 2
  | .parked, none => 3
  | .fault, _ => 4

/-! ### Delivery (R178 to R180) -/

/-- The record spaces that a REPORT payload's length provides: 0 below 13 words, 1 below 22, 2 from 22 on (1.9). (log 15) -/
def recordSpaces (payload : List Byte) : Nat :=
  if payload.length < 52 then 0 else if payload.length < 88 then 1 else 2

/-- The number of records a REPORT slot delivers: the smallest of depth, credits and record spaces (R178). -/
def deliverable (q : Queue) (payload : List Byte) : Nat := min (min q.records.length q.credits) (recordSpaces payload)

/-- The queue after the delivery of some records from its front (R178). -/
def deliver (q : Queue) (n : Nat) : Queue := { q with records := q.records.drop n, credits := q.credits - n }

/-- The count of flagged records waiting (R180). -/
def flaggedWaiting (q : Queue) : Nat := (q.records.filter (fun r => r.record.flags.flagged)).length

/-- The status header's first 13 bytes, from the state after the slot's deliveries (R179); its fill bytes stay as taken (R13). -/
def headerBytes (s : State) (delivered : Nat) : List Byte :=
  [byteOf (topClass s.notices.entries), byteOf s.notices.entries.length, byteOf s.queue.records.length, byteOf s.queue.credits,
    byteOf (flaggedWaiting s.queue), byteOf (watchCode s.link.watch), byteOf (armStateCode s.supervision.a.state),
    byteOf (armStateCode s.supervision.b.state), byteOf (seqStateCode s.sequencer.a.state),
    byteOf (seqStateCode s.sequencer.b.state), byteOf (walkCode s.walk.a), byteOf (walkCode s.walk.b), byteOf delivered]

/-- The record spaces of a REPORT slot: the delivered records, then zeros (R178). -/
def spaceBytes (spaces : Nat) (records : List QueuedRecord) : List Byte :=
  match spaces, records with
  | 0, _ => []
  | n + 1, [] => emptySpace ++ spaceBytes n []
  | n + 1, r :: rs => recordBytes r ++ spaceBytes n rs

/-- Write the REPORT slot of a forwarded return frame: the state after, the payload, and the number delivered (R178, R179). (log 15) -/
def reportSlot (s : State) (payload : List Byte) : State × List Byte × Nat :=
  let n := deliverable s.queue payload
  let s1 := s.setQueue (deliver s.queue n)
  let spaces := spaceBytes (recordSpaces payload) (s.queue.records.take n)
  (s1, splice (splice payload 16 spaces) 0 (headerBytes s1 n), n)

/-- A return frame forwarded on the U port with or without an acted-on REPORT slot: the missing-slot mark (R182). -/
def judgeMissing (s : State) (present : Bool) : State :=
  if present then s.setQueue { s.queue with missingMark := false }
  else if s.queue.missingMark then s
  else (s.setQueue { s.queue with missingMark := true }).raise .reportSlotMissing .none 0

/-- The stall judgement at the end of the frame-end work (R183). -/
def judgeStall (s : State) (delivered : Nat) : State :=
  let q := s.queue
  if 1 ≤ delivered then s.setQueue { q with stallCount := 0, stallMark := false }
  else if 1 ≤ q.records.length then
    let count := bump8 q.stallCount
    if decide (s.setup.stallCycles ≤ count) && !q.stallMark then
      (s.setQueue { q with stallCount := count, stallMark := true }).raise .captureStall .none 0
    else s.setQueue { q with stallCount := count }
  else s.setQueue { q with stallCount := 0 }

/-- RESTART RUN at the capture queue: the overrun counter kept (R185). -/
def restartQueue (q : Queue) : Queue := { Queue.initial with overruns := q.overruns }

end Sys2Proof.Machine
end

