-- ==== Sys2Proof/Machine/Geometry.lean ====
section
/-! DEFINITION. Coordinates, arm boxes and zones (5.2): the common frame, the zone tests and the interference test, which
supervision, release and the leaving test share. -/

namespace Sys2Proof.Machine

/-- An axis-aligned box, both bounds inside. -/
structure Box where
  low : Triple Int
  high : Triple Int
  deriving DecidableEq, Repr

/-- One coordinate of arm B in the common frame: the offset plus or minus it (R85). -/
def commonCoordinate (offset : Int) (sign : Sign) (v : Int) : Int :=
  match sign with
  | .plus => offset + v
  | .minus => offset - v

/-- A point of an arm in the common frame (R85). -/
def toCommon (setup : Setup) (arm : Arm) (p : Triple Int) : Triple Int :=
  match arm with
  | .a => p
  | .b =>
    ⟨commonCoordinate setup.offsetB.x setup.signB.x p.x, commonCoordinate setup.offsetB.y setup.signB.y p.y,
      commonCoordinate setup.offsetB.z setup.signB.z p.z⟩

/-- The envelope radius of an arm in mm, from its active probe record (R86). -/
def envelopeRadius (s : State) (arm : Arm) : Nat :=
  match s.active.get arm with
  | .none => 0
  | .unknown _ => s.setup.unknownEnvelope
  | .known i => ((Table.entry s.library i).map (fun e => e.envelope)).getD 0

/-- R of an arm box in nm: head radius plus envelope radius (R86). -/
def boxRadius (s : State) (arm : Arm) : Int := ((s.setup.headRadius + envelopeRadius s arm : Nat) : Int) * 1000000

/-- The box around a point of the common frame (R86). -/
def boxAround (radius : Int) (h : Triple Int) : Box :=
  { low := h.map (fun v => v - radius), high := h.map (fun v => v + radius) }

/-- The arm box at a head point given in the arm's own frame (R85, R86). -/
def armBox (s : State) (arm : Arm) (p : Triple Int) : Box := boxAround (boxRadius s arm) (toCommon s.setup arm p)

/-- The box of a zone in nm (R87). -/
def zoneBox (z : ZoneEntry) : Box := { low := z.minimum.map (fun v => v * 1000), high := z.maximum.map (fun v => v * 1000) }

/-- A box lies within another on each axis (R87). -/
def Box.within (b z : Box) : Bool :=
  decide (z.low.x ≤ b.low.x) && decide (b.high.x ≤ z.high.x) && decide (z.low.y ≤ b.low.y) && decide (b.high.y ≤ z.high.y)
    && decide (z.low.z ≤ b.low.z) && decide (b.high.z ≤ z.high.z)

/-- A box intersects another: touching a face counts (R87). -/
def Box.intersects (b z : Box) : Bool :=
  decide (b.low.x ≤ z.high.x) && decide (z.low.x ≤ b.high.x) && decide (b.low.y ≤ z.high.y) && decide (z.low.y ≤ b.high.y)
    && decide (b.low.z ≤ z.high.z) && decide (z.low.z ≤ b.high.z)

/-- The gap of two boxes on one axis (R87). -/
def axisGap (lowA highA lowB highB : Int) : Int := max (lowA - highB) (lowB - highA)

/-- Two boxes are separated: on at least one axis the gap reaches the margin in nm (R87). -/
def Box.separated (margin : Int) (b c : Box) : Bool :=
  decide (margin ≤ axisGap b.low.x b.high.x c.low.x c.high.x) || decide (margin ≤ axisGap b.low.y b.high.y c.low.y c.high.y)
    || decide (margin ≤ axisGap b.low.z b.high.z c.low.z c.high.z)

/-- A scope covers an arm. -/
def Scope.covers (sc : Scope) (arm : Arm) : Bool :=
  match sc, arm with
  | .both, _ => true
  | .onlyA, .a => true
  | .onlyB, .b => true
  | _, _ => false

/-- A zone applies to an arm: in use, enabled, and of that scope (R89). -/
def ZoneEntry.appliesTo (z : ZoneEntry) (arm : Arm) : Bool := z.enabled && z.scope.covers arm

/-- The zones of a kind that apply to an arm, in index order (R89). -/
def zonesFor (s : State) (arm : Arm) (kind : ZoneKind) : List ZoneEntry :=
  (s.zones.map (fun p => p.2)).filter (fun z => z.appliesTo arm && z.kind == kind)

/-- The corridor of a station for an arm: the lowest-indexed such zone (R89). -/
def corridorOf (s : State) (arm : Arm) (station : Nat) : Option ZoneEntry :=
  (zonesFor s arm .corridor).find? (fun z => z.station == station)

/-- The RACK test is lifted for a box inside the box of the arm's open corridor (R90). -/
def rackLifted (s : State) (arm : Arm) (b : Box) : Bool :=
  match (s.sequencer.get arm).corridor with
  | none => false
  | some station =>
    match corridorOf s arm station with
    | none => false
    | some z => b.within (zoneBox z)

/-- The zone tests on an arm box: within an ENVELOPE zone, intersecting no KEEP_OUT zone, and no RACK zone unless lifted (R94). -/
def zoneTests (s : State) (arm : Arm) (b : Box) : Bool :=
  (zonesFor s arm .envelope).any (fun z => b.within (zoneBox z))
    && !((zonesFor s arm .keepOut).any (fun z => b.intersects (zoneBox z)))
    && (rackLifted s arm b || !((zonesFor s arm .rack).any (fun z => b.intersects (zoneBox z))))

/-- The corrected head position of an arm, if it has one: each axis has a last corrected value (R76). -/
def correctedHead (s : State) (arm : Arm) : Option (Triple Int) :=
  ((s.head.get arm).record.map (fun h => h.last)).present

/-- Where the other arm's box is formed: at its setpoint, else at its corrected head position, else nowhere (R95). -/
def standingPoint (s : State) (arm : Arm) : Option (Triple Int) :=
  match (s.supervision.get arm).setpoint with
  | some p => some p
  | none => correctedHead s arm

/-- The interference test of an arm box against the other arm's box (R95). -/
def interferenceTest (s : State) (arm : Arm) (b : Box) : Bool :=
  match standingPoint s (otherArm arm) with
  | none => true
  | some p => Box.separated ((s.setup.margin : Int) * 1000000) b (armBox s (otherArm arm) p)

/-- The zone check: the zone tests and the interference test (R94, R95). -/
def zoneCheck (s : State) (arm : Arm) (p : Triple Int) : Bool :=
  zoneTests s arm (armBox s arm p) && interferenceTest s arm (armBox s arm p)

end Sys2Proof.Machine
end

