-- ==== Sys2Proof/Machine/Library.lean ====
section
/-! DEFINITION. The probe library (chapter 6): the active probe records, the mount reports taken with an IDLE sequencer, the binding
of a written entry; and the suspension of an arm's capture (R147), which a change of an active probe record may bring. -/

namespace Sys2Proof.Machine

/-- Capture of an arm enters SUSPENDED when a suspending condition arises: a touch in CONFIRMING is counted as a bounce; the latch, the
count and the stuck-committed mark are cleared; an arm already SUSPENDED stays so (R147). -/
def suspendCapture (s : State) (arm : Arm) : State :=
  let c := s.capture.get arm
  if c.state = .suspended then s
  else s.setCapture arm
    { c with state := .suspended, count := 0, latch := none, stuckCommitted := false,
             bounces := if c.state = .confirming then bump16 c.bounces else c.bounces }

/-- Change an arm's active probe record. A change to anything but KNOWN with the capture probe's index suspends the arm's capture
(R147). -/
def setActive (s : State) (arm : Arm) (r : ActiveProbe) : State :=
  let s' := { s with active := s.active.put arm r }
  match r with
  | .known i => if (s.capture.get arm).probe = some i then s' else suspendCapture s' arm
  | _ => suspendCapture s' arm

/-- Change the entry at an index, if one is in use there. -/
def modifyEntry (s : State) (i : Nat) (f : LibraryEntry → LibraryEntry) : State :=
  match Table.entry s.library i with
  | some e => { s with library := Table.store s.library i (f e) }
  | none => s

/-- Put an entry at a location. -/
def setLocation (s : State) (i : Nat) (l : Location) : State := modifyEntry s i (fun e => { e with location := l })

/-- The entry in use with an identity, with its index (R113). -/
def findIdentity (s : State) (identity : Nat) : Option (Nat × LibraryEntry) :=
  s.library.find? (fun p => p.2.identity == identity)

/-- A report agrees with the active probe record (R111). -/
def reportAgrees (s : State) (arm : Arm) (r : ProbeReport) : Bool :=
  match r.identity, s.active.get arm with
  | none, .none => true
  | some x, .known i => ((Table.entry s.library i).map (fun e => e.identity)) == some x
  | some x, .unknown y => x == y
  | _, _ => false

/-- CALIBRATED becomes SUSPECT; the other states stay (R113). -/
def suspectCalibration (c : Calibration) : Calibration :=
  match c with
  | .calibrated => .suspect
  | c => c

/-- An entry is mounted on an arm by the head's report: MOUNTED there, SUSPECT if it was CALIBRATED, and the record KNOWN (R113,
R137). -/
def mountSuspect (s : State) (arm : Arm) (i : Nat) : State :=
  setActive (modifyEntry s i (fun e => { e with location := .mounted arm, calibration := suspectCalibration e.calibration })) arm
    (.known i)

/-- An identity found MOUNTED on the other arm: its entry becomes LOST, the other arm's record NONE with PROBE_LOST raised for it, and
this arm's record UNKNOWN (R114, R137). -/
def takeFromOther (s : State) (arm : Arm) (i identity : Nat) : State :=
  let s := setActive (setLocation s i .lost) (otherArm arm) .none
  setActive (s.raise .probeLost (.arm (otherArm arm)) 0) arm (.unknown identity)

/-- Step 1 of a manual mount: the entry of a KNOWN record becomes LOST and PROBE_LOST is raised (R113). -/
def loseOldProbe (s : State) (arm : Arm) : State :=
  match s.active.get arm with
  | .known i => (setLocation s i .lost).raise .probeLost (.arm arm) 0
  | _ => s

/-- Step 2 of a manual mount: the lookup of the reported identity (R113, R114). -/
def mountIdentity (s : State) (arm : Arm) (identity : Nat) : State :=
  match findIdentity s identity with
  | some (i, e) =>
    if e.location = .mounted (otherArm arm) then takeFromOther s arm i identity else mountSuspect s arm i
  | none => setActive s arm (.unknown identity)

/-- A manual mount, its raises in the order of R114 (R113, R114). -/
def manualMount (s : State) (arm : Arm) (identity : Nat) : State :=
  (mountIdentity (loseOldProbe s arm) arm identity).raise .probeMountedManual (.arm arm) 0

/-- A DETACHED report that does not agree (R112). -/
def detachedMount (s : State) (arm : Arm) : State :=
  match s.active.get arm with
  | .known i => (setActive (setLocation s i .lost) arm .none).raise .probeLost (.arm arm) 0
  | .unknown _ => setActive s arm .none
  | .none => s

/-- The effects and notices of R112, R113 and R114 for a mount change. -/
def mountChange (s : State) (arm : Arm) (r : ProbeReport) : State :=
  match r.identity with
  | none => detachedMount s arm
  | some x => manualMount s arm x

/-- The arms whose active probe record is UNKNOWN with an identity (R110). -/
def unknownArms (s : State) (identity : Nat) : List Arm :=
  [Arm.a, Arm.b].filter (fun arm => s.active.get arm == .unknown identity)

/-- Write a LIBRARY entry, empty or in use: an entry with the identity of exactly one arm's UNKNOWN probe is bound, MOUNTED on that
arm and the record KNOWN (R108, R110). -/
def writeLibrary (s : State) (i : Nat) (e : Option LibraryEntry) : State :=
  match e with
  | none => { s with library := Table.clear s.library i }
  | some e =>
    match unknownArms s e.identity with
    | [arm] => setActive { s with library := Table.store s.library i { e with location := .mounted arm } } arm (.known i)
    | _ => { s with library := Table.store s.library i e }

end Sys2Proof.Machine
end

