-- ==== Sys2Proof/Machine/Rack.lean ====
section
/-! DEFINITION. The rack channel (6.4, 6.5): requests, release, messages, the RACK_OUT slot. What a grant and an outcome do to a
sequencer stands in Machine/Sequencer.lean. -/

namespace Sys2Proof.Machine

/-- A sequencer asks for the rack: whether it is granted at once (R117). (log 22) -/
def askRack (r : Rack) (arm : Arm) : Rack × Bool :=
  match r.holder with
  | none => ({ r with holder := some arm }, true)
  | some h =>
    if h = arm then (r, false)
    else
      match r.waiting with
      | none => ({ r with waiting := some arm }, false)
      | some _ => (r, false)

/-- A waiting arm withdraws (R117). -/
def withdrawRack (r : Rack) (arm : Arm) : Rack := if r.waiting = some arm then { r with waiting := none } else r

/-- The holder releases the rack: the waiting arm becomes the holder, and is told of the grant; a release by another arm changes
nothing (R118). -/
def releaseHolder (r : Rack) (arm : Arm) : Rack × Option Arm :=
  if r.holder = some arm then ({ r with holder := r.waiting, waiting := none }, r.waiting) else (r, none)

/-- The holder offers a message; it is taken while none is outstanding, in phase PENDING with the next tag (R119). -/
def offerMessage (r : Rack) (arm : Arm) (c : PortCommand) (station : Nat) : Rack :=
  if r.holder = some arm ∧ r.message = none then
    { r with message := some { sender := arm, tag := r.nextTag, command := c, station := station, phase := .pending },
             nextTag := r.nextTag + 1 }
  else r

/-- A message is outstanding for an arm (R141). -/
def Rack.outstandingFor (r : Rack) (arm : Arm) : Bool :=
  match r.message with
  | some m => m.sender == arm
  | none => false

/-- The code of a rack command (1.9). -/
def portCommandCode : PortCommand → Nat
  | .openPort => 1
  | .closePort => 2

/-- The RACK_OUT payload of a message: present 1, tag, kind, station (1.9, R120). -/
def messageBytes (m : RackMessage) : List Byte :=
  [1, byteOf m.tag.toNat, byteOf (portCommandCode m.command), byteOf m.station]

/-- The RACK_OUT slot: a PENDING message is written and becomes carried by this frame (its tag is the last component); otherwise the
empty payload, all zero, is written. Words beyond the layout stay as taken (R12, R120). -/
def rackOutSlot (s : State) (payload : List Byte) : State × List Byte × Option RackTag :=
  match s.rack.message with
  | some m =>
    match m.phase with
    | .pending => (s.setRack { s.rack with message := some { m with phase := .carried } }, splice payload 0 (messageBytes m), some m.tag)
    | _ => (s, splice payload 0 [0, 0, 0, 0], none)
  | none => (s, splice payload 0 [0, 0, 0, 0], none)

/-- The outstanding message is carried by a frame that has not left yet. -/
def Rack.isCarried (r : Rack) : Bool :=
  match r.message with
  | some m => m.phase == .carried
  | none => false

/-- The frame that carries the message leaves the D port, or is discarded from a full D transmit queue: the message becomes SENT and
the reply timer starts (R14, R120). -/
def messageSent (s : State) : State :=
  match s.rack.message with
  | some m =>
    match m.phase with
    | .carried =>
      s.setRack { s.rack with message := some { m with phase := .sent }, replyTimer := s.after (s.setup.replyWait * 1000) }
    | _ => s
  | none => s

/-- The message a reply matches: outstanding in phase SENT with the reply timer running, with the reply's tag and station (R121). -/
def Rack.matching (r : Rack) (reply : RackReply) : Option RackMessage :=
  match r.message, r.replyTimer with
  | some m, some _ => if m.phase = .sent ∧ m.tag = reply.tag ∧ m.station = reply.station then some m else none
  | _, _ => none

/-- A wait ends: the timer stops and no message is outstanding (R121, R122). -/
def Rack.endWait (r : Rack) : Rack := { r with message := none, replyTimer := none }

/-- A reply that matches nothing: counted and raised (R121). -/
def lateReply (s : State) : State :=
  (s.setRack { s.rack with lateReplies := bump16 s.rack.lateReplies }).raise .lateRackReply .none 0

/-- A message that a frame's slot carries is withheld: the slot gets the empty payload (R120, R123). (log 27) -/
def withhold (f : CycleFrame) (slot : Nat) : CycleFrame :=
  { f with slots := f.slots.modify slot fun sl => { sl with payload := splice sl.payload 0 [0, 0, 0, 0] } }

/-- RESTART RUN at the rack channel: next tag and late-reply counter kept (R123). -/
def restartRack (r : Rack) : Rack :=
  { r with holder := none, waiting := none, message := none, replyTimer := none }

end Sys2Proof.Machine
end

