-- ==== Sys2Proof/Machine/Sequencer.lean ====
section
/-! DEFINITION. The change sequencers (chapter 7): acceptance, the phases, failure and the way back, and what grants, outcomes,
reports, stops and positions do to them. -/

namespace Sys2Proof.Machine

/-- The causes of a failed change (R141). -/
inductive FailureCause where
  | rackTimeout
  | rackRefused
  | stationOccupied
  | stationEmpty
  | dropNotSensed
  | wrongProbe
  | phaseTimeout
  | aborted
  | armStopped
  deriving DecidableEq, Repr

/-- The code of a failure cause (R186). -/
def failureCode : FailureCause → Nat
  | .rackTimeout => 1
  | .rackRefused => 2
  | .stationOccupied => 3
  | .stationEmpty => 4
  | .dropNotSensed => 5
  | .wrongProbe => 6
  | .phaseTimeout => 7
  | .aborted => 8
  | .armStopped => 9

/-- The eight phase states (7.2). -/
def SeqState.isPhase : SeqState → Bool
  | .dropOpening | .dropCorridor | .dropLeaving | .dropClosing => true
  | .pickOpening | .pickCorridor | .pickLeaving | .pickClosing => true
  | _ => false

/-! ### Moves -/

/-- Enter a phase state with the phase timer started at the SETUP change phase limit (R129). -/
def startPhase (s : State) (arm : Arm) (q : Sequencer) (st : SeqState) : State :=
  s.setSequencer arm { q with state := st, phaseTimer := s.after (s.setup.phaseLimit * 1000000) }

/-- Offer a message to the rack channel (R119). -/
def offer (s : State) (arm : Arm) (c : PortCommand) (station : Nat) : State :=
  s.setRack (offerMessage s.rack arm c station)

/-- Enter an opening state for a station: OPEN_PORT is offered and the port mark set (R128, R135). -/
def enterOpening (s : State) (arm : Arm) (st : SeqState) (station : Nat) : State :=
  startPhase (offer s arm .openPort station) arm { s.sequencer.get arm with portMark := some station } st

/-- The rack channel grants the rack to a sequencer in QUEUED (R128). -/
def grantOpening (s : State) (arm : Arm) : State :=
  let q := s.sequencer.get arm
  if q.state = .queued then
    match q.drop, q.target with
    | some d, _ => enterOpening s arm .dropOpening d.station
    | none, some t => enterOpening s arm .pickOpening t.station
    | none, none => s
  else s

/-- Release the rack; a waiting arm is granted in the same step (R118). -/
def releaseRack (s : State) (arm : Arm) : State :=
  let r := releaseHolder s.rack arm
  match r.2 with
  | some granted => grantOpening (s.setRack r.1) granted
  | none => s.setRack r.1

/-- Return to IDLE with the change record clear, and release the rack channel (R141, R142). -/
def endChange (s : State) (arm : Arm) : State := releaseRack (s.setSequencer arm Sequencer.initial) arm

/-- A change is complete: IDLE, CHANGE_DONE, release (R138). -/
def completeChange (s : State) (arm : Arm) : State :=
  releaseRack ((s.setSequencer arm Sequencer.initial).raise .changeDone (.arm arm) 0) arm

/-- Enter RECLOSING: CLOSE_PORT is offered for the port mark's station (R142). -/
def enterReclosing (s : State) (arm : Arm) : State :=
  let q := s.sequencer.get arm
  match q.portMark with
  | some station => (offer s arm .closePort station).setSequencer arm { q with state := .reclosing }
  | none => endChange s arm

/-- Enter CLEARING; with no open corridor go on at once to RECLOSING (R142). -/
def enterClearing (s : State) (arm : Arm) : State :=
  let q := s.sequencer.get arm
  let s' := s.setSequencer arm { q with state := .clearing }
  if q.corridor.isSome then s' else enterReclosing s' arm

/-- Cases 3 and 4 of a failure: CLEARING with the port mark set, otherwise IDLE (R141). -/
def wayBack (s : State) (arm : Arm) : State :=
  if (s.sequencer.get arm).portMark.isSome then enterClearing s arm else endChange s arm

/-- A change fails in a phase state: the phase timer stops, CHANGE_FAILED is raised, and the sequencer winds up a message outstanding
or goes back (R141). -/
def failPhase (s : State) (arm : Arm) (cause : FailureCause) : State :=
  let s1 := (s.setSequencer arm { s.sequencer.get arm with phaseTimer := none }).raise .changeFailed (.arm arm) (failureCode cause)
  if s1.rack.outstandingFor arm then s1.setSequencer arm { s1.sequencer.get arm with state := .winding }
  else wayBack s1 arm

/-- A change fails in QUEUED: CHANGE_FAILED is raised, the arm withdraws and enters IDLE (R141). -/
def failQueued (s : State) (arm : Arm) (cause : FailureCause) : State :=
  let s1 := s.raise .changeFailed (.arm arm) (failureCode cause)
  (s1.setRack (withdrawRack s1.rack arm)).setSequencer arm Sequencer.initial

/-- A change fails with a cause; a failure event in IDLE, WINDING, CLEARING or RECLOSING causes none (R141). -/
def failChange (s : State) (arm : Arm) (cause : FailureCause) : State :=
  match (s.sequencer.get arm).state with
  | .idle | .winding | .clearing | .reclosing => s
  | .queued => failQueued s arm cause
  | _ => failPhase s arm cause

/-! ### Accepting a change (R126, R127) -/

/-- The berth of an entry: its index and home station. -/
def berthOf (i : Nat) (e : LibraryEntry) : Option Berth := e.home.map (fun st => { index := i, station := st })

/-- An answer that changes nothing. -/
def refusal (o : ReplyOutcome) (r : Reason) : Answer := { outcome := o, reason := r, data := [] }

/-- DONE with reply data. -/
def doneWith (data : List Byte) : Answer := { outcome := .done, reason := .none, data := data }

/-- What a change needs, judged at acceptance: the probe to drop and the probe to pick. -/
structure ChangePlan where
  drop : Option Berth
  target : Option Berth
  deriving DecidableEq, Repr

/-- What the judgement of CHANGE PROBE gives: a refusal, nothing to do, or an accepted change (R126). -/
inductive ChangeVerdict where
  | refused (a : Answer)
  | nothing
  | accepted (p : ChangePlan)
  deriving DecidableEq, Repr

/-- Check 6: the target entry's location is not IN_RACK, or it is the target of the other arm's active change (R126). -/
def targetTaken (s : State) (arm : Arm) (i : Nat) (e : LibraryEntry) : Bool :=
  e.location != .inRack ||
    ((s.sequencer.get (otherArm arm)).state != .idle
      && ((s.sequencer.get (otherArm arm)).target.map (fun b => b.index)) == some i)

/-- Checks 7 and 8, the drop's and the pick's stations and corridors, for an optional target (R126). -/
def judgeStations (s : State) (arm : Arm) (target : Option (Nat × LibraryEntry)) : ChangeVerdict :=
  let drop : Option (Option Berth) := match s.active.get arm with
    | .none => some none
    | .unknown _ => none
    | .known i => ((Table.entry s.library i).bind (fun e => berthOf i e)).map some
  match drop with
  | none => .refused (refusal .state .noDropStation)
  | some d =>
    let pick := target.bind (fun p => berthOf p.1 p.2)
    let dropOk := match d with
      | some b => (corridorOf s arm b.station).isSome
      | none => true
    let pickOk := match target, pick with
      | none, _ => true
      | some _, some b => (corridorOf s arm b.station).isSome
      | some _, none => false
    if dropOk && pickOk then .accepted { drop := d, target := pick } else .refused (refusal .state .noCorridor)

/-- The checks of CHANGE PROBE in order; identity 0 means NONE (R126). -/
def judgeChange (s : State) (arm : Arm) (identity : Nat) : ChangeVerdict :=
  if (s.sequencer.get arm).state ≠ .idle then .refused (refusal .busy .none)
  else if (s.supervision.get arm).state = .stopped then .refused (refusal .state .armStopped)
  else if identity = 0 then
    if s.active.get arm = .none then .nothing else judgeStations s arm none
  else
    match findIdentity s identity with
    | none => .refused (refusal .badValue .probeUnknown)
    | some (i, e) =>
      if !e.allowed.covers arm then .refused (refusal .badValue .probeNotAllowed)
      else if s.active.get arm = .known i then .nothing
      else if targetTaken s arm i e then .refused (refusal .state .targetLocation)
      else judgeStations s arm (some (i, e))

/-- An accepted change: the change record is set, the sequencer enters QUEUED, the arm's capture is suspended (R147), and the rack is
asked for; a grant at once is carried out in the same step (R127, R128). -/
def acceptChange (s : State) (arm : Arm) (p : ChangePlan) : State :=
  let s1 := suspendCapture
    (s.setSequencer arm { Sequencer.initial with state := .queued, drop := p.drop, target := p.target }) arm
  let r := askRack s1.rack arm
  if r.2 then grantOpening (s1.setRack r.1) arm else s1.setRack r.1

/-- CHANGE PROBE as its sequencer carries it out (R126, R127). -/
def changeProbe (s : State) (arm : Arm) (identity : Nat) : State × Answer :=
  match judgeChange s arm identity with
  | .refused a => (s, a)
  | .nothing => (s.raise .changeDone (.arm arm) 0, doneWith [])
  | .accepted p => (acceptChange s arm p, doneWith [])

/-- ABORT CHANGE (R143). -/
def abortChange (s : State) (arm : Arm) : State × Answer :=
  if (s.sequencer.get arm).state = .idle then (s, refusal .state .notActive)
  else (failChange s arm .aborted, doneWith [])

/-! ### Outcomes of rack messages -/

/-- The port mark is cleared. -/
def clearPortMark (s : State) (arm : Arm) : State :=
  s.setSequencer arm { s.sequencer.get arm with portMark := none }

/-- Open the corridor of a station, unless the arm is STOPPED (R130). -/
def openCorridor (s : State) (arm : Arm) (st : SeqState) (ready : NoticeKind) (station : Nat) : State :=
  if (s.supervision.get arm).state = .stopped then failChange s arm .armStopped
  else (startPhase s arm { s.sequencer.get arm with corridor := some station } st).raise ready (.arm arm) 0

/-- The outcome of an OPEN_PORT in DROP_OPENING (R130). -/
def dropOpeningOutcome (s : State) (arm : Arm) (station : Nat) (o : RackOutcome) : State :=
  match o with
  | .ack false _ => failChange (clearPortMark s arm) arm .rackRefused
  | .ack true true => failChange s arm .stationOccupied
  | .ack true false => openCorridor s arm .dropCorridor .dropReady station
  | .nak _ => failChange s arm .rackRefused
  | .timeout => failChange s arm .rackTimeout

/-- The outcome of an OPEN_PORT in PICK_OPENING (R130). -/
def pickOpeningOutcome (s : State) (arm : Arm) (station : Nat) (o : RackOutcome) : State :=
  match o with
  | .ack false _ => failChange (clearPortMark s arm) arm .rackRefused
  | .ack true true => openCorridor s arm .pickCorridor .pickReady station
  | .ack true false => failChange s arm .stationEmpty
  | .nak _ => failChange s arm .rackRefused
  | .timeout => failChange s arm .rackTimeout

/-- An ACK for this station judges the drop: the drop-unconfirmed mark is set and the station is the drop station (R134). -/
def Sequencer.judgesDrop (q : Sequencer) (station : Nat) : Bool :=
  q.dropUnconfirmed && (q.drop.map (fun b => b.station)) == some station

/-- Judge the drop: the mark is cleared; with occupancy EMPTY the drop entry becomes LOST if it is still IN_RACK (R134). (log 21) -/
def judgeDrop (s : State) (arm : Arm) (sensed : Bool) : State :=
  let q := s.sequencer.get arm
  let s' := s.setSequencer arm { q with dropUnconfirmed := false }
  match sensed, q.drop with
  | false, some d => modifyEntry s' d.index (fun e => if e.location = .inRack then { e with location := .lost } else e)
  | _, _ => s'

/-- The drop is confirmed and its port closed: go on to the pick, or complete a drop alone (R135). -/
def afterDrop (s : State) (arm : Arm) : State :=
  match (s.sequencer.get arm).target with
  | some t => enterOpening s arm .pickOpening t.station
  | none => completeChange s arm

/-- The outcome of the CLOSE_PORT in DROP_CLOSING (R134, R135). (logs 19, 20) -/
def dropClosingOutcome (s : State) (arm : Arm) (station : Nat) (o : RackOutcome) : State :=
  let judges := (s.sequencer.get arm).judgesDrop station
  match o with
  | .ack false sensed =>
    let s1 := clearPortMark s arm
    if judges then
      if sensed then afterDrop (judgeDrop s1 arm true) arm else failChange (judgeDrop s1 arm false) arm .dropNotSensed
    else afterDrop s1 arm
  | .ack true sensed =>
    if judges then
      let s1 := failChange (judgeDrop s arm sensed) arm .rackRefused
      if sensed then s1 else s1.raise .probeLost (.arm arm) 0
    else failChange s arm .rackRefused
  | .nak _ => failChange s arm .rackRefused
  | .timeout => failChange s arm .rackTimeout

/-- The outcome of the CLOSE_PORT in PICK_CLOSING (R138). -/
def pickClosingOutcome (s : State) (arm : Arm) (o : RackOutcome) : State :=
  match o with
  | .ack false _ => completeChange (clearPortMark s arm) arm
  | .ack true _ => failChange s arm .rackRefused
  | .nak _ => failChange s arm .rackRefused
  | .timeout => failChange s arm .rackTimeout

/-- An ACK judges the drop after the change has failed: an EMPTY occupancy raises PROBE_LOST (R134). (log 21) -/
def judgeAfterFailure (s : State) (arm : Arm) (station : Nat) (o : RackOutcome) : State :=
  match o with
  | .ack _ sensed =>
    if (s.sequencer.get arm).judgesDrop station then
      let s1 := judgeDrop s arm sensed
      if sensed then s1 else s1.raise .probeLost (.arm arm) 0
    else s
  | _ => s

/-- The outcome taken in WINDING (R141). -/
def windingOutcome (s : State) (arm : Arm) (station : Nat) (o : RackOutcome) : State :=
  let s1 := match o with
    | .ack false _ => if (s.sequencer.get arm).portMark = some station then clearPortMark s arm else s
    | _ => s
  wayBack (judgeAfterFailure s1 arm station o) arm

/-- The outcome of the CLOSE_PORT in RECLOSING (R142). (log 20) -/
def reclosingOutcome (s : State) (arm : Arm) (station : Nat) (o : RackOutcome) : State :=
  let s1 := judgeAfterFailure s arm station o
  match o with
  | .ack false _ => endChange s1 arm
  | _ => endChange (s1.raise .rackPortUnknown (.arm arm) 0) arm

/-- The rack channel hands the outcome of a message to the sequencer that sent it (R121, R122). (log 22) -/
def takeOutcome (s : State) (m : RackMessage) (o : RackOutcome) : State :=
  match (s.sequencer.get m.sender).state with
  | .dropOpening => dropOpeningOutcome s m.sender m.station o
  | .pickOpening => pickOpeningOutcome s m.sender m.station o
  | .dropClosing => dropClosingOutcome s m.sender m.station o
  | .pickClosing => pickClosingOutcome s m.sender o
  | .winding => windingOutcome s m.sender m.station o
  | .reclosing => reclosingOutcome s m.sender m.station o
  | _ => s

/-- A rack reply: a matching one ends the wait and is handed on, any other is late (R121). -/
def takeReply (s : State) (r : RackReply) : State :=
  match s.rack.matching r with
  | some m => takeOutcome (s.setRack s.rack.endWait) m r.outcome
  | none => lateReply s

/-! ### Reports, stops and positions -/

/-- A DETACHED report in DROP_CORRIDOR: the drop entry is placed IN_RACK with the drop-unconfirmed mark set, or the library is left as
it stands when the record is already NONE (R132). (log 22) -/
def dropReleased (s : State) (arm : Arm) (r : ProbeReport) : State :=
  let q := s.sequencer.get arm
  match s.active.get arm with
  | .none => startPhase s arm q .dropLeaving
  | .known i =>
    if (q.drop.map (fun b => b.index)) = some i then
      startPhase (setActive (setLocation s i .inRack) arm .none) arm { q with dropUnconfirmed := true } .dropLeaving
    else failChange (mountChange s arm r) arm .wrongProbe
  | .unknown _ => failChange (mountChange s arm r) arm .wrongProbe

/-- The wrong-probe update (R137). -/
def wrongProbeUpdate (s : State) (arm : Arm) (target identity : Nat) : State :=
  let s1 := modifyEntry s target (fun e => if e.location = .mounted (otherArm arm) then e else { e with location := .lost })
  mountIdentity s1 arm identity

/-- An ATTACHED report in PICK_CORRIDOR (R136). -/
def pickAttached (s : State) (arm : Arm) (identity : Nat) : State :=
  let q := s.sequencer.get arm
  match q.target with
  | none => s
  | some t =>
    match Table.entry s.library t.index with
    | none => failChange (wrongProbeUpdate s arm t.index identity) arm .wrongProbe
    | some e =>
      if e.identity = identity then
        if e.location = .mounted (otherArm arm) then
          failChange ((takeFromOther s arm t.index identity).raise .probeMountedManual (.arm arm) 0) arm .wrongProbe
        else startPhase (setActive (setLocation s t.index (.mounted arm)) arm (.known t.index)) arm q .pickLeaving
      else failChange (wrongProbeUpdate s arm t.index identity) arm .wrongProbe

/-- The sequencer, not IDLE, takes its arm's PROBE report (R132, R136, R139); `agrees` is the library's comparison (R111). -/
def takeReport (s : State) (arm : Arm) (r : ProbeReport) (agrees : Bool) : State :=
  match (s.sequencer.get arm).state, r.identity with
  | .idle, _ => s
  | .dropCorridor, none => dropReleased s arm r
  | .pickCorridor, none => s
  | .pickCorridor, some x => if agrees then s else pickAttached s arm x
  | _, _ => if agrees then s else failChange (mountChange s arm r) arm .wrongProbe

/-- The PROBE slot at the library and the sequencer: an IDLE sequencer leaves a mount change to the library (R111), any other takes the
report itself. -/
def libraryReport (s : State) (arm : Arm) (r : ProbeReport) : State :=
  let agrees := reportAgrees s arm r
  if (s.sequencer.get arm).state = .idle then
    if agrees then s else mountChange s arm r
  else takeReport s arm r agrees

/-- The motion supervisor tells the sequencer that its arm has entered STOPPED (R140). -/
def toldStopped (s : State) (arm : Arm) : State :=
  match (s.sequencer.get arm).state with
  | .dropCorridor | .dropLeaving | .pickCorridor | .pickLeaving => failChange s arm .armStopped
  | _ => s

/-- The corridor is closed and the sequencer moves on from a state whose leaving test is met (R133). -/
def leaveCorridor (s : State) (arm : Arm) : State :=
  let q := { s.sequencer.get arm with corridor := none }
  let s1 := s.setSequencer arm q
  match q.state, q.drop, q.target with
  | .dropLeaving, some d, _ => startPhase (offer s1 arm .closePort d.station) arm q .dropClosing
  | .pickLeaving, _, some t => startPhase (offer s1 arm .closePort t.station) arm q .pickClosing
  | .clearing, _, _ => enterReclosing s1 arm
  | _, _, _ => s1

/-- The leaving test applies: DROP_LEAVING, PICK_LEAVING or CLEARING, with an open corridor (R133). -/
def SeqState.leaves : SeqState → Bool
  | .dropLeaving | .pickLeaving | .clearing => true
  | _ => false

/-- The arm box at the corrected head position lies outside the box of the open corridor (R133). -/
def leavingTestMet (s : State) (arm : Arm) : Bool :=
  match (s.sequencer.get arm).corridor with
  | none => false
  | some station =>
    match corridorOf s arm station, correctedHead s arm with
    | some z, some p => !((armBox s arm p).intersects (zoneBox z))
    | _, _ => false

/-- The leaving test after a POSITION slot whose three axes were computed (R133). -/
def leavingTest (s : State) (arm : Arm) : State :=
  if (s.sequencer.get arm).state.leaves && leavingTestMet s arm then leaveCorridor s arm else s

/-- The phase timer of an arm's sequencer expires: in a phase state the change fails with PHASE_TIMEOUT (R129). A stopped timer does not
expire. (logs 5, 22) -/
def phaseTimerExpires (s : State) (arm : Arm) : State :=
  match (s.sequencer.get arm).phaseTimer with
  | none => s
  | some t => if (s.sequencer.get arm).state.isPhase then failChange (s.reach t) arm .phaseTimeout else s

/-- The reply timer expires: the wait ends with TIMEOUT, handed to the sequencer that sent the message (R122). A stopped timer does not
expire. (log 5) -/
def replyTimerExpires (s : State) : State :=
  match s.rack.replyTimer, s.rack.message with
  | some t, some m => takeOutcome ((s.reach t).setRack s.rack.endWait) m .timeout
  | _, _ => s

end Sys2Proof.Machine
end

