-- ==== Sys2Proof/Machine/Plan.lean ====
section
/-! DEFINITION. The plan walker (chapter 9): walk commands, matching and write-back. -/

namespace Sys2Proof.Machine

/-! ### Walk commands -/

/-- PLAN START (R164). -/
def planStart (s : State) (arm : Arm) (first : Nat) (loop : Bool) : State × Answer :=
  if (s.walk.get arm).state = .running then (s, refusal .state .walkRunning)
  else (s.setWalk arm { state := .running, head := some first, loop := loop }, doneWith [])

/-- PLAN STOP (R165). -/
def planStop (s : State) (arm : Arm) : State × Answer := (s.setWalk arm Walk.initial, doneWith [])

/-- PLAN RESUME (R166). -/
def planResume (s : State) (arm : Arm) : State × Answer :=
  let w := s.walk.get arm
  if w.state = .parked ∧ w.head ≠ none then (s.setWalk arm { w with state := .running }, doneWith [])
  else (s, refusal .state .notParked)

/-- A walk holds the plan: RUNNING, or PARKED with a head (R33). -/
def Walk.holdsPlan (w : Walk) : Bool := w.state == .running || (w.state == .parked && w.head.isSome)

/-! ### Matching (R167 to R172) -/

/-- The largest magnitude of three differences. -/
def largestMagnitude (d : Triple Int) : Nat := max (max d.x.natAbs d.y.natAbs) d.z.natAbs

/-- W − N, axis by axis (R170). -/
def fromNominal (e : PlanEntry) (w : Triple Int) : Triple Int := Triple.zip (fun a b => a - b) w e.nominal

/-- A point lies within an entry's search radius on every axis (R170). -/
def withinSearch (e : PlanEntry) (w : Triple Int) : Bool := decide (largestMagnitude (fromNominal e w) ≤ e.search * 1000)

/-- The deviation along the approach (R171). -/
def planDeviation (e : PlanEntry) (w : Triple Int) (radius : Nat) : Int :=
  let d := fromNominal e w
  roundDiv (d.x * e.approach.x + d.y * e.approach.y + d.z * e.approach.z) 16384 + radius

/-- The verdict of a deviation (R171). -/
def planVerdict (e : PlanEntry) (d : Int) : Verdict := if d.natAbs ≤ e.tolerance * 1000 then .inTol else .outTol

/-- The walk after a match (R172). -/
def walkAfterMatch (w : Walk) (e : PlanEntry) : Walk :=
  match e.next with
  | some i => { w with head := some i }
  | none => { w with state := .parked, head := none }

/-- The entry after a match: results, and owner CONTROLLER unless the walk loops (R172). -/
def matchedEntry (w : Walk) (e : PlanEntry) (d : Int) (number : Option SequenceNumber) : PlanEntry :=
  { e with verdict := some (planVerdict e d), deviation := d, sequence := number,
           owner := if w.loop then e.owner else .controller }

/-- A record that the walker passes on with flags added. -/
def flagRecord (r : CaptureRecord) (planEmpty : Bool) : CaptureRecord :=
  { r with flags := { r.flags with unplanned := true, planEmpty := planEmpty } }

/-- A match at the head entry: write-back, ownership, head, then the queue and the sequence number (R172). -/
def matchRecord (s : State) (arm : Arm) (head : Nat) (e : PlanEntry) (r : CaptureRecord) (radius : Nat) : State :=
  let w := s.walk.get arm
  let d := planDeviation e r.point radius
  let s1 := s.setWalk arm (walkAfterMatch w e)
  let s2 := if e.next = none then s1.raise .planParked (.arm arm) 0 else s1
  let queued := enqueueRecord s2 { r with plan := some { index := head, deviation := d, verdict := planVerdict e d } }
  { queued.1 with plan := Table.store queued.1.plan head (matchedEntry w e d queued.2) }

/-- A TOUCH record reaches a RUNNING walk with its head at an index (R168 to R172). -/
def walkRecord (s : State) (arm : Arm) (head : Nat) (r : CaptureRecord) (radius : Nat) : State :=
  let w := s.walk.get arm
  let faulted : State :=
    (enqueueRecord ((s.setWalk arm { w with state := .fault }).raise .planFault (.arm arm) 0) (flagRecord r false)).1
  match Table.entry s.plan head with
  | none => faulted
  | some e =>
    if e.arm ≠ arm then faulted
    else if e.owner = .controller then
      (enqueueRecord ((s.setWalk arm { w with state := .parked }).raise .planParked (.arm arm) 0) (flagRecord r true)).1
    else if withinSearch e r.point then matchRecord s arm head e r radius
    else (enqueueRecord s (flagRecord r false)).1

/-- The capture engine hands a record to its arm's walk, which passes it on to the queue (R158, R167). -/
def handRecord (s : State) (r : CaptureRecord) (radius : Nat) : State :=
  let w := s.walk.get r.arm
  match r.kind, w.state, w.head with
  | .touch, .running, some head => walkRecord s r.arm head r radius
  | _, _, _ => (enqueueRecord s r).1

end Sys2Proof.Machine
end

