-- ==== Sys2Proof/Machine/Capture.lean ====
section
/-! DEFINITION. The capture engine (chapter 8): the frame-end evaluation of an arm, and the computation of a committed record. -/

namespace Sys2Proof.Machine

/-! ### Positions -/

/-- One axis of the corrected head position as capture keeps it (R146). -/
def sampleOf (h : HeadAxis) : Sample :=
  { value := h.last.getD 0, held := h.flags.thermalHeld, clamped := h.flags.clamped, stale := h.flags.stale }

/-- The corrected head position as it stands, with its flags (R149). -/
def currentPosition (s : State) (arm : Arm) : Triple Sample := (s.head.get arm).record.map sampleOf

/-- The previous position as the third step of an evaluation leaves it: absent if any axis has no last corrected value (R146). -/
def previousPosition (s : State) (arm : Arm) : Option (Triple Sample) :=
  match correctedHead s arm with
  | some _ => some (currentPosition s arm)
  | none => none

/-! ### The commit computation (R153 to R157) -/

/-- The head at the trigger instant, with the flags its judgement gives. -/
structure HeadPoint where
  point : Triple Int
  positionStale : Bool
  fast : Bool
  thermalHeld : Bool
  clamped : Bool
  deriving DecidableEq, Repr

/-- One axis between two samples at an edge offset k (R153). -/
def interpolate (k : Nat) (prev cur : Sample) : Int := prev.value + roundDiv ((cur.value - prev.value) * k) 1024

/-- The head fell back to the current position (R153). -/
def fallbackHead (cur : Triple Sample) : HeadPoint :=
  { point := cur.map (fun x => x.value), positionStale := true, fast := false,
    thermalHeld := cur.any (fun x => x.held), clamped := cur.any (fun x => x.clamped) }

/-- The head interpolated between the latched positions; FAST when the largest difference exceeds the speed limit (R153). -/
def interpolatedHead (limit k : Nat) (prev cur : Triple Sample) : HeadPoint :=
  { point := Triple.zip (interpolate k) prev cur, positionStale := false
    fast := decide (limit * 1000 < largestMagnitude (Triple.zip (fun p c => c.value - p.value) prev cur))
    thermalHeld := prev.any (fun x => x.held) || cur.any (fun x => x.held)
    clamped := prev.any (fun x => x.clamped) || cur.any (fun x => x.clamped) }

/-- The head at the trigger instant of a latched touch (R153). -/
def triggerHead (limit : Nat) (l : TouchLatch) : HeadPoint :=
  match l.previous with
  | some prev =>
    if prev.any (fun x => x.stale) || l.current.any (fun x => x.stale) then fallbackHead l.current
    else interpolatedHead limit l.edge prev l.current
  | none => fallbackHead l.current

/-- The head of a STUCK record: the current position, POSITION_STALE when any axis carries STALE (R157). -/
def stuckHead (cur : Triple Sample) : HeadPoint :=
  { fallbackHead cur with positionStale := cur.any (fun x => x.stale) }

/-- One axis of the tip offset stretched to the probe's temperature (R154). -/
def stretchedOffset (e : LibraryEntry) (temp offset : Int) : Int :=
  offset + roundDiv (offset * e.coefficient * (temp - e.calTemp)) (10 ^ 12)

/-- The tip centre in the common frame (R154). -/
def tipCentre (s : State) (arm : Arm) (e : LibraryEntry) (head : Triple Int) : Triple Int :=
  toCommon s.setup arm (Triple.zip (fun h o => h + stretchedOffset e (probeTemp s arm).1 o) head e.offset)

/-- One axis of the workpiece point before the clamp (R155). -/
def workpieceCoordinate (coefficient temp c datum : Int) : Int :=
  c - roundDiv ((c - datum) * coefficient * (temp - 20000)) (10 ^ 12)

/-- The workpiece point before the clamp (R155). -/
def workpiecePoint (s : State) (arm : Arm) (c : Triple Int) : Triple Int :=
  let f := s.setup.capture.get arm
  Triple.zip (workpieceCoordinate f.coefficient (workpieceTemp s arm).1) c f.datum

/-- The record of a head point, completed with W, the flags and the probe's identity (R154 to R157). -/
def formRecord (s : State) (arm : Arm) (e : LibraryEntry) (kind : RecordKind) (cycle : CycleNumber) (edge : Nat) (armHeld : Bool)
    (h : HeadPoint) : CaptureRecord :=
  let w := workpiecePoint s arm (tipCentre s arm e h.point)
  { arm := arm, kind := kind, cycle := cycle, edge := edge, point := w.map clampPosition, identity := e.identity, plan := none,
    flags :=
      { thermalHeld := (probeTemp s arm).2 || (workpieceTemp s arm).2 || h.thermalHeld
        positionStale := h.positionStale
        fast := h.fast
        probeSuspect := e.calibration != .calibrated
        clamped := h.clamped || !(w.all withinPosition)
        armHeld := armHeld } }

/-- Commit a latched touch (R153 to R156, R158). While capture is not SUSPENDED the capture probe's entry is in use (R147); in a state
that no run reaches, where it is not, nothing is committed. (log 22) -/
def commitTouch (s : State) (arm : Arm) (l : TouchLatch) : State :=
  match Table.entry s.library l.probe with
  | some e =>
    handRecord s
      (formRecord s arm e .touch l.cycle l.edge l.armHeld (triggerHead (s.setup.capture.get arm).speedLimit l)) e.radius
  | none => s

/-- Commit a STUCK record in the frame that brings the count to the stuck limit (R157, R158). -/
def commitStuck (s : State) (arm : Arm) (cycle : CycleNumber) : State :=
  match (s.capture.get arm).probe.bind (fun i => Table.entry s.library i) with
  | some e =>
    handRecord s
      (formRecord s arm e .stuck cycle 1023 ((s.supervision.get arm).state == .held) (stuckHead (currentPosition s arm))) e.radius
  | none => s

/-! ### The state steps (R148 to R152) -/

/-- No suspending condition holds (R147): the index of the arm's KNOWN probe. -/
def captureReady (s : State) (arm : Arm) : Option Nat :=
  if (s.supervision.get arm).state = .stopped then none
  else if (s.sequencer.get arm).state ≠ .idle then none
  else
    match s.active.get arm with
    | .known i => some i
    | _ => none

/-- Enter REARMING with the count at 0, or go on at once to ARMED when the rearm count is 0 (R148, R151). -/
def enterRearming (s : State) (arm : Arm) (c : Capture) : State :=
  s.setCapture arm
    { c with count := 0, state := if (s.setup.capture.get arm).rearm = 0 then .armed else .rearming }

/-- The suspension judgement (R148). -/
def leaveSuspended (s : State) (arm : Arm) : State :=
  let c := s.capture.get arm
  match c.state, captureReady s arm with
  | .suspended, some i => enterRearming s arm { c with probe := some i }
  | _, _ => s

/-- The touch latched by a deflected report in ARMED (R149). -/
def latchOf (s : State) (arm : Arm) (r : ProbeReport) (cycle : CycleNumber) (probe : Nat) : TouchLatch :=
  { edge := r.edge.getD 1023, current := currentPosition s arm, previous := (s.capture.get arm).previous, cycle := cycle,
    armHeld := (s.supervision.get arm).state == .held, probe := probe }

/-- The step in ARMED (R149). -/
def armedStep (s : State) (arm : Arm) (r : ProbeReport) (cycle : CycleNumber) : State :=
  let c := s.capture.get arm
  if r.deflected then
    let l := latchOf s arm r cycle (c.probe.getD 0)
    let d := (s.setup.capture.get arm).debounce
    if d = 0 then commitTouch (s.setCapture arm { c with state := .deflected, count := 0 }) arm l
    else s.setCapture arm { c with state := .confirming, count := d, latch := some l }
  else s

/-- A latched touch is discarded as a bounce (R150). -/
def bounceTouch (s : State) (arm : Arm) : State :=
  let c := s.capture.get arm
  s.setCapture arm { c with state := .armed, count := 0, latch := none, bounces := bump16 c.bounces }

/-- The step in CONFIRMING on a deflected report (R150). -/
def confirmTouch (s : State) (arm : Arm) : State :=
  let c := s.capture.get arm
  if c.count ≤ 1 then
    let s1 := s.setCapture arm { c with state := .deflected, count := 0, latch := none }
    match c.latch with
    | some l => commitTouch s1 arm l
    | none => s1
  else s.setCapture arm { c with count := c.count - 1 }

/-- The step in DEFLECTED on a report (R151, R159). (log 25) -/
def deflectedStep (s : State) (arm : Arm) (r : ProbeReport) (cycle : CycleNumber) : State :=
  let c := s.capture.get arm
  if r.deflected then
    let count := bump16 c.count
    if decide ((s.setup.capture.get arm).stuckLimit ≤ count) && !c.stuckCommitted then
      commitStuck (s.setCapture arm { c with count := count, stuckCommitted := true, stucks := bump16 c.stucks }) arm cycle
    else s.setCapture arm { c with count := count }
  else enterRearming s arm { c with stuckCommitted := false }

/-- The step in REARMING on a report (R152). The count 0 on entering ARMED is the model's choice. (log 29) -/
def rearmingStep (s : State) (arm : Arm) (r : ProbeReport) : State :=
  let c := s.capture.get arm
  if r.deflected then s.setCapture arm { c with count := 0 }
  else
    let count := bump16 c.count
    if (s.setup.capture.get arm).rearm ≤ count then s.setCapture arm { c with state := .armed, count := 0 }
    else s.setCapture arm { c with count := count }

/-- The state step of a frame for an arm, with the frame's report if it has one (R146, R149 to R152). -/
def captureStep (s : State) (arm : Arm) (report : Option ProbeReport) (cycle : CycleNumber) : State :=
  match (s.capture.get arm).state, report with
  | .armed, some r => armedStep s arm r cycle
  | .confirming, some r => if r.deflected then confirmTouch s arm else bounceTouch s arm
  | .confirming, none => bounceTouch s arm
  | .deflected, some r => deflectedStep s arm r cycle
  | .rearming, some r => rearmingStep s arm r
  | _, _ => s

/-- The third step: the previous position becomes the corrected head position as it now stands (R146). -/
def keepPrevious (s : State) (arm : Arm) : State :=
  s.setCapture arm { s.capture.get arm with previous := previousPosition s arm }

/-- The evaluation of a return frame for one arm: suspension judgement, state step, previous position (R146). -/
def evaluateArm (s : State) (arm : Arm) (report : Option ProbeReport) (cycle : CycleNumber) : State :=
  keepPrevious (captureStep (leaveSuspended s arm) arm report cycle) arm

/-- RESTART RUN at the capture engine: the counters kept (R160). -/
def restartCapture (c : Capture) : Capture := { Capture.initial with bounces := c.bounces, stucks := c.stucks }

end Sys2Proof.Machine
end

