-- ==== Sys2Proof/Machine/Supervisor.lean ====
section
/-! DEFINITION. The motion supervisor (chapter 5): stops, TARGET slots, overtravel, STOP ARM and RELEASE ARM. -/

namespace Sys2Proof.Machine

/-- A stop of an arm with a cause: a FREE or HELD arm enters STOPPED, ARM_STOPPED is raised, and the arm's sequencer and capture engine
are told; an arm already STOPPED stays as it is (R91, R140, R147). -/
def stopArm (s : State) (arm : Arm) (cause : StopCause) : State :=
  let v := s.supervision.get arm
  if v.state = .stopped then s
  else
    let s1 := (s.setSupervision arm { v with state := .stopped, cause := cause }).raise .armStopped (.arm arm) (stopCauseCode cause)
    suspendCapture (toldStopped s1 arm) arm

/-! ### TARGET slots (R92 to R97) -/

/-- The largest setpoint change of an axis in nm: max step × 1 000, or 0 for an empty AXIS record (R93). -/
def stepLimit (s : State) (arm : Arm) (ax : Axis) : Int :=
  match Table.entry s.axes (axisIndex arm ax) with
  | some e => (e.maxStep : Int) * 1000
  | none => 0

/-- The step clamp of one target (R93). -/
def clampStep (reference limit target : Int) : Int :=
  clampPosition (if target > reference + limit then reference + limit
    else if target < reference - limit then reference - limit
    else target)

/-- The clamped targets of an arm from its setpoint (R93). -/
def clampTargets (s : State) (arm : Arm) (reference target : Triple Int) : Triple Int :=
  ⟨clampStep reference.x (stepLimit s arm .x) target.x, clampStep reference.y (stepLimit s arm .y) target.y,
    clampStep reference.z (stepLimit s arm .z) target.z⟩

/-- How many of three targets the clamp changed (R93). -/
def clampChanges (target clamped : Triple Int) : Nat :=
  (if target.x = clamped.x then 0 else 1) + (if target.y = clamped.y then 0 else 1) + (if target.z = clamped.z then 0 else 1)

/-- The TARGET slot of a STOPPED arm: drive enable cleared, and the setpoint with the hold marker set when there is one (R92). -/
def stoppedTarget (v : Supervision) (payload : List Byte) : List Byte :=
  match v.setpoint with
  | some p => writeTarget payload false true p
  | none => writeTargetFlags payload false false

/-- A slot passes: the clamped targets are forwarded and become the setpoint, the arm is FREE, the run 0 (R96). -/
def passedSupervision (v : Supervision) (clamped : Triple Int) (changes : Nat) : Supervision :=
  { v with state := .free, setpoint := some clamped, holdRun := 0, clampCount := addUpTo 65535 v.clampCount changes }

/-- A slot is held: the arm is HELD, the hold counter and the run gain one (R97). -/
def heldSupervision (v : Supervision) (changes : Nat) : Supervision :=
  { v with state := .held, holdRun := bump16 v.holdRun, holdCount := bump16 v.holdCount,
           clampCount := addUpTo 65535 v.clampCount changes }

/-- The consecutive-hold run exceeds the arm's hold limit; 0 is no limit (R97). -/
def exceedsHoldLimit (s : State) (arm : Arm) (v : Supervision) : Bool :=
  let limit := s.setup.holdLimit.get arm
  limit != 0 && decide (limit < v.holdRun)

/-- The TARGET slot of a FREE or HELD arm with a setpoint: step clamp, zone check, pass or hold (R93 to R97). -/
def supervisedTarget (s : State) (arm : Arm) (reference : Triple Int) (payload : List Byte) : State × List Byte :=
  let v := s.supervision.get arm
  let target := targetPoint payload
  let clamped := clampTargets s arm reference target
  let changes := clampChanges target clamped
  if zoneCheck s arm clamped then
    (s.setSupervision arm (passedSupervision v clamped changes), writeTarget payload (targetEnable payload) false clamped)
  else
    let v' := heldSupervision v changes
    let s' := s.setSupervision arm v'
    if exceedsHoldLimit s arm v' then (stopArm s' arm .holdLimit, writeTarget payload false true reference)
    else (s', writeTarget payload (targetEnable payload) true reference)

/-- The motion supervisor handles a TARGET slot of an arm (R92). Every FREE or HELD arm has a setpoint (R83); a state in which one has
none is reached by no run, and the slot then is that of a STOPPED arm. (log 22) -/
def targetSlot (s : State) (arm : Arm) (payload : List Byte) : State × List Byte :=
  let v := s.supervision.get arm
  match v.state, v.setpoint with
  | .stopped, _ => (s, stoppedTarget v payload)
  | _, some p => supervisedTarget s arm p payload
  | _, none => (s, stoppedTarget v payload)

/-- A TARGET slot of an originated frame: the hold position with the hold marker set, drive enable cleared for a STOPPED arm and as the
template carries it otherwise; no supervision (R23, R103). -/
def originatedTarget (v : Supervision) (payload : List Byte) : List Byte :=
  match v.setpoint with
  | some p => writeTarget payload (targetEnable payload && v.state != .stopped) true p
  | none => writeTargetFlags payload false false

/-! ### Overtravel and requests -/

/-- The PROBE slot at the motion supervisor: the latest overtravel, and a stop when it is set (R99). -/
def overtravelReport (s : State) (arm : Arm) (r : ProbeReport) : State :=
  let s1 := s.setSupervision arm { s.supervision.get arm with overtravel := some r.overtravel }
  if r.overtravel then stopArm s1 arm .overtravel else s1

/-- An acted-on PROBE slot: kept as the arm's latest report, then the library, the sequencer and the supervisor act on it (R11, R111,
R99). (log 28) -/
def probeSlot (s : State) (arm : Arm) (r : ProbeReport) : State :=
  overtravelReport (libraryReport { s with latestReport := s.latestReport.put arm (some r) } arm r) arm r

/-- STOP ARM (R100). -/
def stopRequest (s : State) (arm : Arm) : State × Answer := (stopArm s arm .request, doneWith [])

/-- An arm is released at its corrected head position (R102). -/
def releasedSupervision (v : Supervision) (p : Triple Int) : Supervision :=
  { v with state := .free, setpoint := some p, holdRun := 0 }

/-- RELEASE ARM: the conditions in order, then the release (R101, R102). -/
def releaseArm (s : State) (arm : Arm) : State × Answer :=
  let v := s.supervision.get arm
  if v.state ≠ .stopped then (s, refusal .state .notStopped)
  else if s.link.watch ≠ .watching then (s, refusal .state .link)
  else if v.overtravel = some true then (s, refusal .state .overtravel)
  else
    match correctedHead s arm with
    | none => (s, refusal .state .noPosition)
    | some p =>
      if zoneCheck s arm p then (s.setSupervision arm (releasedSupervision v p), doneWith [])
      else (s, refusal .state .zone)

/-- RESTART RUN at an arm: STOPPED with cause RESTART, the run 0, the rest kept (R106). -/
def restartSupervision (v : Supervision) : Supervision := { v with state := .stopped, cause := .restart, holdRun := 0 }

end Sys2Proof.Machine
end

