-- ==== Sys2Proof/Machine/Codec.lean ====
section
/-! DEFINITION. Table entries as TABLE DATA and TABLE READ carry them (R17, R32, R46, R62, R64, R88, R107, R161): reading an entry with
its value checks, and writing it out. -/

namespace Sys2Proof.Machine

/-- The entry length of a table as carried (R31). -/
def entryLength : TableCode → Nat
  | .setup => 128
  | .channel => 32
  | .axis => 48
  | .map => 4
  | .zone => 32
  | .library => 40
  | .plan => 48

/-- A value lies from low to high, both included. -/
def inBounds (low high v : Int) : Bool := decide (low ≤ v) && decide (v ≤ high)

/-- A natural value lies from low to high, both included. -/
def inNat (low high v : Nat) : Bool := decide (low ≤ v) && decide (v ≤ high)

/-- Zero bytes up to an entry's length (R32). (log 16) -/
def padTo (n : Nat) (bs : List Byte) : List Byte := bs ++ List.replicate (n - bs.length) 0

/-- The value bytes of an absent optional field: free bytes, by their offsets (log 6). -/
def freeBytes (fill : Nat → Byte) (offset width : Nat) : List Byte := (List.range width).map (fun i => fill (offset + i))

/-- An optional field as carried: present byte, then the value's bytes, free when absent (R32). -/
def optionalBytes (fill : Nat → Byte) (offset width : Nat) (v : Option (List Byte)) : List Byte :=
  match v with
  | some bs => 1 :: bs
  | none => 0 :: freeBytes fill (offset + 1) width

/-! ### SETUP (R16, R17, R80, R84, R116, R125, R145, R184) -/

/-- A node address, present: 1 to 60 (R16). -/
def addressOk (v : Nat) : Bool := inNat 1 60 v

/-- A hub address: absent, or 1 to 60 (R16). -/
def hubOk (h : Option Nat) : Bool :=
  match h with
  | none => true
  | some v => addressOk v

/-- Read a hub field: present byte and address; `none` for another present byte (R17). -/
def readHub (b : List Byte) (offset : Nat) : Option (Option Nat) := optionalOf (uField b offset 1) (uField b (offset + 1) 1)

/-- The sign of a sign byte: 0 for +, 1 for − (R17). -/
def signOf (v : Nat) : Option Sign :=
  match v with
  | 0 => some .plus
  | 1 => some .minus
  | _ => none

/-- The capture fields of an arm from their group of 23 bytes (R17). -/
def readCaptureSetup (b : List Byte) (o : Nat) : CaptureSetup :=
  { debounce := uField b o 1, rearm := uField b (o + 1) 1, stuckLimit := uField b (o + 2) 2, speedLimit := uField b (o + 4) 2,
    datum := ⟨sField b (o + 6) 5, sField b (o + 11) 5, sField b (o + 16) 5⟩, coefficient := sField b (o + 21) 2 }

/-- The ranges of the capture fields (R145). -/
def captureSetupOk (c : CaptureSetup) : Bool :=
  inNat 0 7 c.debounce && inNat 0 255 c.rearm && inNat 1 65535 c.stuckLimit && inNat 1 65535 c.speedLimit
    && c.datum.all withinPosition && inBounds (-1000) 30000 c.coefficient

/-- The range and step of each SETUP field (R16, R80, R84, R116, R125, R145, R184). -/
def setupFieldsOk (e : Setup) : Bool :=
  addressOk e.armNode.a && addressOk e.armNode.b && addressOk e.headNode.a && addressOk e.headNode.b && addressOk e.rackNode
    && hubOk e.hubs.h0 && hubOk e.hubs.h1 && hubOk e.hubs.h2 && hubOk e.hubs.h3
    && inNat 250 4000 e.cyclePeriod && e.cyclePeriod % 50 == 0 && inNat 1 100 e.watchTime
    && inNat 0 2000 e.bridgeTime && e.bridgeTime % 10 == 0
    && inNat 1 255 e.scaleFailLimit.a && inNat 1 255 e.scaleFailLimit.b
    && inNat 0 255 e.holdLimit.a && inNat 0 255 e.holdLimit.b && e.offsetB.all withinPosition
    && inNat 0 2000 e.headRadius && inNat 0 500 e.unknownEnvelope && inNat 0 2000 e.margin
    && (e.replyWait == 10 || e.replyWait == 100 || e.replyWait == 800) && inNat 1 600 e.phaseLimit
    && captureSetupOk e.capture.a && captureSetupOk e.capture.b && inNat 1 64 e.captureLevel && inNat 1 255 e.stallCycles

/-- The hubs' addresses that are present. -/
def Hubs.present (h : Hubs) : List Nat := [h.h0, h.h1, h.h2, h.h3].filterMap id

/-- The present node addresses of SETUP (R16). -/
def setupAddresses (e : Setup) : List Nat :=
  [e.armNode.a, e.armNode.b, e.headNode.a, e.headNode.b, e.rackNode] ++ e.hubs.present

/-- No number stands twice in a list. -/
def allDistinct : List Nat → Bool
  | [] => true
  | x :: xs => !xs.contains x && allDistinct xs

/-- Read a SETUP entry: FIELD for a field outside its encoding or range, ENTRY for two equal addresses (R17, R32). -/
def readSetup (b : List Byte) : Except Reason Setup :=
  match readHub b 5, readHub b 7, readHub b 9, readHub b 11, signOf (uField b 37 1), signOf (uField b 38 1), signOf (uField b 39 1) with
  | some h0, some h1, some h2, some h3, some sx, some sy, some sz =>
    let e : Setup :=
      { armNode := ⟨uField b 0 1, uField b 1 1⟩, headNode := ⟨uField b 2 1, uField b 3 1⟩, rackNode := uField b 4 1,
        hubs := ⟨h0, h1, h2, h3⟩, cyclePeriod := uField b 13 2, watchTime := uField b 15 1, bridgeTime := uField b 16 2,
        scaleFailLimit := ⟨uField b 18 1, uField b 19 1⟩, holdLimit := ⟨uField b 20 1, uField b 21 1⟩,
        offsetB := ⟨sField b 22 5, sField b 27 5, sField b 32 5⟩, signB := ⟨sx, sy, sz⟩, headRadius := uField b 40 2,
        unknownEnvelope := uField b 42 2, margin := uField b 44 2, replyWait := uField b 46 2, phaseLimit := uField b 48 2,
        capture := ⟨readCaptureSetup b 50, readCaptureSetup b 73⟩, captureLevel := uField b 96 1, stallCycles := uField b 97 1 }
    if !setupFieldsOk e then .error .field
    else if !allDistinct (setupAddresses e) then .error .entry
    else .ok e
  | _, _, _, _, _, _, _ => .error .field

/-- A hub field as carried (R17). -/
def hubBytes (fill : Nat → Byte) (offset : Nat) (h : Option Nat) : List Byte :=
  optionalBytes fill offset 1 (h.map (fun v => [byteOf v]))

/-- A sign byte (R17). -/
def signByte (s : Sign) : Byte :=
  match s with
  | .plus => 0
  | .minus => 1

/-- The 23 bytes of an arm's capture fields (R17). -/
def captureSetupBytes (c : CaptureSetup) : List Byte :=
  [byteOf c.debounce, byteOf c.rearm] ++ leBytes 2 c.stuckLimit ++ leBytes 2 c.speedLimit ++ tripleBytes c.datum
    ++ leIntBytes 2 c.coefficient

/-- The SETUP entry as carried (R17). -/
def setupBytes (fill : Nat → Byte) (e : Setup) : List Byte :=
  padTo 128
    ([byteOf e.armNode.a, byteOf e.armNode.b, byteOf e.headNode.a, byteOf e.headNode.b, byteOf e.rackNode]
      ++ hubBytes fill 5 e.hubs.h0 ++ hubBytes fill 7 e.hubs.h1 ++ hubBytes fill 9 e.hubs.h2 ++ hubBytes fill 11 e.hubs.h3
      ++ leBytes 2 e.cyclePeriod ++ [byteOf e.watchTime] ++ leBytes 2 e.bridgeTime
      ++ [byteOf e.scaleFailLimit.a, byteOf e.scaleFailLimit.b, byteOf e.holdLimit.a, byteOf e.holdLimit.b]
      ++ tripleBytes e.offsetB ++ [signByte e.signB.x, signByte e.signB.y, signByte e.signB.z]
      ++ leBytes 2 e.headRadius ++ leBytes 2 e.unknownEnvelope ++ leBytes 2 e.margin ++ leBytes 2 e.replyWait ++ leBytes 2 e.phaseLimit
      ++ captureSetupBytes e.capture.a ++ captureSetupBytes e.capture.b ++ [byteOf e.captureLevel, byteOf e.stallCycles])

/-! ### CHANNEL (R46) -/

/-- The role of a role and parameter byte; `none` outside their values. Role 0, UNUSED, is the empty entry and is not asked here. -/
def roleOf (role parameter : Nat) : Option Role :=
  match role with
  | 1 => if parameter ≤ 5 then some (.scale parameter) else none
  | 2 => (armOf parameter).map Role.workpiece
  | 3 => (armOf parameter).map Role.probeArm
  | 4 => if parameter = 0 then some .air else none
  | _ => none

/-- The direction of an alarm (R46). -/
def directionOf (v : Nat) : Option AlarmDirection :=
  match v with
  | 0 => some .above
  | 1 => some .below
  | _ => none

/-- The alarm field: absent, or a threshold in range with its direction; `none` outside the values (R46). -/
def readAlarm (b : List Byte) : Option (Option (Int × AlarmDirection)) :=
  match uField b 14 1 with
  | 0 => some none
  | 1 =>
    match directionOf (uField b 18 1) with
    | some d => if inBounds (-20000) 80000 (sField b 15 3) then some (some (sField b 15 3, d)) else none
    | none => none
  | _ => none

/-- The ranges of the CHANNEL fields, but for role and alarm (R46). -/
def channelFieldsOk (e : ChannelEntry) : Bool :=
  inBounds (-20000) 80000 e.low && inBounds (-20000) 80000 e.high && inBounds (-2000) 2000 e.trim && inNat 1 15 e.settle
    && inNat 1 255 e.staleLimit && inNat 1 8 e.debounce && inNat 0 7 e.shift

/-- Read a CHANNEL entry; role UNUSED is the empty entry (R46). -/
def readChannel (b : List Byte) : Except Reason (Option ChannelEntry) :=
  if uField b 0 1 = 0 then .ok none
  else
    match roleOf (uField b 0 1) (uField b 1 1), readAlarm b with
    | some role, some alarm =>
      let e : ChannelEntry :=
        { role := role, low := sField b 2 3, high := sField b 5 3, trim := sField b 8 2, settle := uField b 10 1,
          staleLimit := uField b 11 1, debounce := uField b 12 1, shift := uField b 13 1, alarm := alarm }
      if !channelFieldsOk e then .error .field
      else if e.low < e.high then .ok (some e)
      else .error .entry
    | _, _ => .error .field

/-- The role and role parameter bytes (R46). -/
def roleBytes (r : Role) : List Byte :=
  match r with
  | .scale ax => [1, byteOf ax]
  | .workpiece arm => [2, byteOf (armCode arm)]
  | .probeArm arm => [3, byteOf (armCode arm)]
  | .air => [4, 0]

/-- The code of a used channel's state (R46). -/
def channelStateCode : ChannelState → Nat
  | .settling => 1
  | .valid => 2
  | .stale => 3
  | .fault => 4

/-- The direction byte (R46). -/
def directionByte (d : AlarmDirection) : Byte :=
  match d with
  | .above => 0
  | .below => 1

/-- A CHANNEL entry as carried, with its read-only fields; an empty entry is all zero (R42, R46, R56). -/
def channelBytes (fill : Nat → Byte) (c : Option Channel) : List Byte :=
  match c with
  | none => padTo 32 []
  | some c =>
    let e := c.entry
    let t := workingTemp c.run
    padTo 32
      (roleBytes e.role ++ leIntBytes 3 e.low ++ leIntBytes 3 e.high ++ leIntBytes 2 e.trim
        ++ [byteOf e.settle, byteOf e.staleLimit, byteOf e.debounce, byteOf e.shift]
        ++ optionalBytes fill 14 4 (e.alarm.map (fun a => leIntBytes 3 a.1 ++ [directionByte a.2]))
        ++ [byteOf (channelStateCode c.run.state)] ++ leIntBytes 3 t.1 ++ [markByte t.2])

/-! ### AXIS (R62, R63) and MAP (R64) -/

/-- An optional index: absent, or within a bound; `none` outside the values. -/
def readIndex (b : List Byte) (offset bound : Nat) : Option (Option Nat) :=
  match uField b offset 1 with
  | 0 => some none
  | 1 => if uField b (offset + 1) 1 ≤ bound then some (some (uField b (offset + 1) 1)) else none
  | _ => none

/-- The ranges of the AXIS fields, but for the optional ones and the map flag (R62). -/
def axisFieldsOk (e : AxisEntry) : Bool :=
  inNat 50 100000 e.resolution && withinPosition e.anchor && inBounds (-1000) 30000 e.coefficient && withinPosition e.mapStart
    && inNat 1 65535 e.mapPitch && inNat 2 256 e.mapCount && inBounds (-500000) 500000 e.coupling && inNat 1 65535 e.maxStep

/-- The rules that join AXIS fields: the coupled axis is another one of the same arm, and an enabled map ends within the limit (R63). -/
def axisJoined (index : Nat) (e : AxisEntry) : Bool :=
  (match e.coupled with
    | some c => c != index && c / 3 == index / 3
    | none => true)
    && (!e.mapEnabled || decide (e.mapStart + ((e.mapCount - 1) * e.mapPitch * 1000 : Nat) ≤ Config.positionLimit))

/-- Read an AXIS entry for an index (R62, R63). -/
def readAxis (index : Nat) (b : List Byte) : Except Reason (Option AxisEntry) :=
  match uField b 0 1 with
  | 0 => .ok none
  | 1 =>
    match readIndex b 16 31, flagOf (uField b 18 1), readIndex b 28 5 with
    | some channel, some mapEnabled, some coupled =>
      let e : AxisEntry :=
        { resolution := uField b 1 3, origin := sField b 4 5, anchor := sField b 9 5, coefficient := sField b 14 2, channel := channel,
          mapEnabled := mapEnabled, mapStart := sField b 19 5, mapPitch := uField b 24 2, mapCount := uField b 26 2, coupled := coupled,
          coupling := sField b 30 3, maxStep := uField b 33 2 }
      if !axisFieldsOk e then .error .field
      else if !axisJoined index e then .error .entry
      else .ok (some e)
    | _, _, _ => .error .field
  | _ => .error .field

/-- An AXIS entry as carried (R62). -/
def axisBytes (fill : Nat → Byte) (e : Option AxisEntry) : List Byte :=
  match e with
  | none => padTo 48 []
  | some e =>
    padTo 48
      ([1] ++ leBytes 3 e.resolution ++ leIntBytes 5 e.origin ++ leIntBytes 5 e.anchor ++ leIntBytes 2 e.coefficient
        ++ optionalBytes fill 16 1 (e.channel.map (fun c => [byteOf c])) ++ [markByte e.mapEnabled] ++ leIntBytes 5 e.mapStart
        ++ leBytes 2 e.mapPitch ++ leBytes 2 e.mapCount ++ optionalBytes fill 28 1 (e.coupled.map (fun c => [byteOf c]))
        ++ leIntBytes 3 e.coupling ++ leBytes 2 e.maxStep)

/-- Read a MAP entry (R64). -/
def readMap (b : List Byte) : Except Reason Int :=
  if inBounds (-8388607) 8388607 (sField b 0 4) then .ok (sField b 0 4) else .error .field

/-! ### ZONE (R88) -/

/-- The kind of a zone kind code (R88). -/
def zoneKindOf (v : Nat) : Option ZoneKind :=
  match v with
  | 1 => some .envelope
  | 2 => some .keepOut
  | 3 => some .rack
  | 4 => some .corridor
  | _ => none

/-- The code of a zone kind (R88). -/
def zoneKindCode : ZoneKind → Nat
  | .envelope => 1
  | .keepOut => 2
  | .rack => 3
  | .corridor => 4

/-- The scope of a scope code (R88, R107). -/
def scopeOf (v : Nat) : Option Scope :=
  match v with
  | 0 => some .onlyA
  | 1 => some .onlyB
  | 2 => some .both
  | _ => none

/-- The code of a scope (R88, R107). -/
def scopeCode : Scope → Nat
  | .onlyA => 0
  | .onlyB => 1
  | .both => 2

/-- The range of a zone bound in µm (R88). -/
def zoneBoundOk (v : Int) : Bool := inBounds (-549755813) 549755813 v

/-- The ranges of the ZONE fields, but for the coded ones (R88). -/
def zoneFieldsOk (e : ZoneEntry) : Bool :=
  inNat 0 24 e.station && e.minimum.all zoneBoundOk && e.maximum.all zoneBoundOk

/-- The rules that join ZONE fields: minimum not above maximum, and a station for a CORRIDOR zone alone (R88). -/
def zoneJoined (e : ZoneEntry) : Bool :=
  decide (e.minimum.x ≤ e.maximum.x) && decide (e.minimum.y ≤ e.maximum.y) && decide (e.minimum.z ≤ e.maximum.z)
    && (if e.kind = .corridor then decide (1 ≤ e.station) else e.station == 0)

/-- Read a ZONE entry (R88). -/
def readZone (b : List Byte) : Except Reason (Option ZoneEntry) :=
  match uField b 0 1 with
  | 0 => .ok none
  | 1 =>
    match zoneKindOf (uField b 1 1), scopeOf (uField b 3 1), flagOf (uField b 4 1) with
    | some kind, some scope, some enabled =>
      let e : ZoneEntry :=
        { kind := kind, station := uField b 2 1, scope := scope, enabled := enabled,
          minimum := ⟨sField b 5 4, sField b 9 4, sField b 13 4⟩, maximum := ⟨sField b 17 4, sField b 21 4, sField b 25 4⟩ }
      if !zoneFieldsOk e then .error .field
      else if !zoneJoined e then .error .entry
      else .ok (some e)
    | _, _, _ => .error .field
  | _ => .error .field

/-- A ZONE entry as carried (R88). -/
def zoneBytes (e : Option ZoneEntry) : List Byte :=
  match e with
  | none => padTo 32 []
  | some e =>
    padTo 32
      ([1, byteOf (zoneKindCode e.kind), byteOf e.station, byteOf (scopeCode e.scope), markByte e.enabled]
        ++ leIntBytes 4 e.minimum.x ++ leIntBytes 4 e.minimum.y ++ leIntBytes 4 e.minimum.z
        ++ leIntBytes 4 e.maximum.x ++ leIntBytes 4 e.maximum.y ++ leIntBytes 4 e.maximum.z)

/-! ### LIBRARY (R107, R108) -/

/-- The calibration state of a code (R107). -/
def calibrationOf (v : Nat) : Option Calibration :=
  match v with
  | 0 => some .uncalibrated
  | 1 => some .calibrated
  | 2 => some .suspect
  | _ => none

/-- The code of a calibration state (R107). -/
def calibrationCode : Calibration → Nat
  | .uncalibrated => 0
  | .calibrated => 1
  | .suspect => 2

/-- The location of a written location code: MOUNTED is refused, the part alone decides that a probe is mounted (R108). -/
def writtenLocation (v : Nat) : Option Location :=
  match v with
  | 0 => some .inRack
  | 3 => some .outside
  | 4 => some .lost
  | _ => none

/-- The code of a location (R107). -/
def locationCode : Location → Nat
  | .inRack => 0
  | .mounted .a => 1
  | .mounted .b => 2
  | .outside => 3
  | .lost => 4

/-- An optional home station: absent, or 1 to 24; `none` outside the values (R107). -/
def readHome (b : List Byte) : Option (Option Nat) :=
  match uField b 4 1 with
  | 0 => some none
  | 1 => if inNat 1 24 (uField b 5 1) then some (some (uField b 5 1)) else none
  | _ => none

/-- The range of a tip offset (R107). -/
def offsetOk (v : Int) : Bool := inBounds (-2000000000) 2000000000 v

/-- The ranges of the LIBRARY fields, but for the coded ones (R107). -/
def libraryFieldsOk (e : LibraryEntry) : Bool :=
  inNat 1 16777215 e.identity && e.offset.all offsetOk && inNat 0 10000000 e.radius && inBounds (-1000) 30000 e.coefficient
    && inBounds (-20000) 80000 e.calTemp && inNat 0 500 e.envelope

/-- Read a LIBRARY entry; IN_RACK without a home station is refused (R107, R108). -/
def readLibrary (b : List Byte) : Except Reason (Option LibraryEntry) :=
  match uField b 0 1 with
  | 0 => .ok none
  | 1 =>
    match readHome b, scopeOf (uField b 6 1), calibrationOf (uField b 27 1), writtenLocation (uField b 30 1) with
    | some home, some allowed, some calibration, some location =>
      let e : LibraryEntry :=
        { identity := uField b 1 3, home := home, allowed := allowed, offset := ⟨sField b 7 4, sField b 11 4, sField b 15 4⟩,
          radius := uField b 19 3, coefficient := sField b 22 2, calTemp := sField b 24 3, calibration := calibration,
          envelope := uField b 28 2, location := location }
      if !libraryFieldsOk e then .error .field
      else if e.location = .inRack ∧ e.home = none then .error .entry
      else .ok (some e)
    | _, _, _, _ => .error .field
  | _ => .error .field

/-- A LIBRARY entry as carried (R107). -/
def libraryBytes (fill : Nat → Byte) (e : Option LibraryEntry) : List Byte :=
  match e with
  | none => padTo 40 []
  | some e =>
    padTo 40
      ([1] ++ leBytes 3 e.identity ++ optionalBytes fill 4 1 (e.home.map (fun st => [byteOf st])) ++ [byteOf (scopeCode e.allowed)]
        ++ leIntBytes 4 e.offset.x ++ leIntBytes 4 e.offset.y ++ leIntBytes 4 e.offset.z ++ leBytes 3 e.radius
        ++ leIntBytes 2 e.coefficient ++ leIntBytes 3 e.calTemp ++ [byteOf (calibrationCode e.calibration)] ++ leBytes 2 e.envelope
        ++ [byteOf (locationCode e.location)])

/-! ### PLAN (R161, R162) -/

/-- The owner of an owner byte (R161). -/
def ownerOf (v : Nat) : Option Owner :=
  match v with
  | 0 => some .controller
  | 1 => some .device
  | _ => none

/-- The next index: 0 to 511, or 0xFFFF for END; `none` outside the values (R161). -/
def nextOf (v : Nat) : Option (Option Nat) :=
  if v ≤ 511 then some (some v) else if v = 0xFFFF then some none else none

/-- The ranges of the PLAN fields, but for the coded ones (R161). -/
def planFieldsOk (e : PlanEntry) : Bool :=
  e.nominal.all withinPosition && e.approach.all (inBounds (-32768) 32767) && inNat 1 1000000 e.search && inNat 0 1000000 e.tolerance

/-- The rule that joins PLAN fields: the squared length of the approach (R162). -/
def planJoined (e : PlanEntry) : Bool :=
  inBounds 265751102 271119810
    (e.approach.x * e.approach.x + e.approach.y * e.approach.y + e.approach.z * e.approach.z)

/-- Read a PLAN entry: its results are cleared whatever the written bytes hold (R161, R162). -/
def readPlan (b : List Byte) : Except Reason (Option PlanEntry) :=
  match uField b 0 1 with
  | 0 => .ok none
  | 1 =>
    match armOf (uField b 1 1), ownerOf (uField b 2 1), nextOf (uField b 30 2) with
    | some arm, some owner, some next =>
      let e : PlanEntry :=
        { arm := arm, owner := owner, nominal := ⟨sField b 3 5, sField b 8 5, sField b 13 5⟩,
          approach := ⟨sField b 18 2, sField b 20 2, sField b 22 2⟩, search := uField b 24 3, tolerance := uField b 27 3, next := next,
          verdict := none, sequence := none, deviation := 0 }
      if !planFieldsOk e then .error .field
      else if !planJoined e then .error .entry
      else .ok (some e)
    | _, _, _ => .error .field
  | _ => .error .field

/-- The owner byte (R161). -/
def ownerByte (o : Owner) : Byte :=
  match o with
  | .controller => 0
  | .device => 1

/-- The verdict byte: 0 none, 1 IN_TOL, 2 OUT_TOL (R161). -/
def verdictByte (v : Option Verdict) : Byte :=
  match v with
  | none => 0
  | some .inTol => 1
  | some .outTol => 2

/-- A PLAN entry as carried, with its results (R161). -/
def planBytes (fill : Nat → Byte) (e : Option PlanEntry) : List Byte :=
  match e with
  | none => padTo 48 []
  | some e =>
    padTo 48
      ([1, byteOf (armCode e.arm), ownerByte e.owner] ++ tripleBytes e.nominal
        ++ leIntBytes 2 e.approach.x ++ leIntBytes 2 e.approach.y ++ leIntBytes 2 e.approach.z
        ++ leBytes 3 e.search ++ leBytes 3 e.tolerance ++ leBytes 2 (e.next.getD 0xFFFF) ++ [verdictByte e.verdict]
        ++ optionalBytes fill 33 2 (e.sequence.map (fun n => leBytes 2 n.toNat)) ++ leIntBytes 5 e.deviation)

/-! ### Any table -/

/-- Read an entry of a table for an index, with the value checks of R32. (log 16) -/
def readEntry (t : TableCode) (index : Nat) (b : List Byte) : Except Reason Entry :=
  match t with
  | .setup => (readSetup b).map Entry.setup
  | .channel => (readChannel b).map Entry.channel
  | .axis => (readAxis index b).map Entry.axis
  | .map => (readMap b).map Entry.map
  | .zone => (readZone b).map Entry.zone
  | .library => (readLibrary b).map Entry.library
  | .plan => (readPlan b).map Entry.plan

/-- The entry at an index of a table as TABLE READ carries it (R32, R42). -/
def entryBytes (s : State) (fill : Nat → Byte) (t : TableCode) (index : Nat) : List Byte :=
  match t with
  | .setup => setupBytes fill s.setup
  | .channel => channelBytes fill (Table.entry s.channels index)
  | .axis => axisBytes fill (Table.entry s.axes index)
  | .map => leIntBytes 4 (mapPoint s.map index)
  | .zone => zoneBytes (Table.entry s.zones index)
  | .library => libraryBytes fill (Table.entry s.library index)
  | .plan => planBytes fill (Table.entry s.plan index)

end Sys2Proof.Machine
end

