-- ==== Sys2Proof/Machine/Tables.lean ====
section
/-! DEFINITION. The owners' state rules for a table entry (R33), and the writing of an entry to its table (R32, R39). -/

namespace Sys2Proof.Machine

/-! ### State rules (R33) -/

/-- The two arms, A first. -/
def bothArms : List Arm := [.a, .b]

/-- Arm A or arm B is not STOPPED. -/
def someArmActive (s : State) : Bool := bothArms.any (fun arm => (s.supervision.get arm).state != .stopped)

/-- Two SETUP records agree in every node address and in the arm B transform. -/
def sameGeometry (e f : Setup) : Bool :=
  e.armNode == f.armNode && e.headNode == f.headNode && e.rackNode == f.rackNode && e.hubs == f.hubs
    && e.offsetB == f.offsetB && e.signB == f.signB

/-- A station is the drop station, or the home station of the target, of a change whose sequencer is not IDLE. -/
def stationInUse (s : State) (station : Nat) : Bool :=
  bothArms.any (fun arm =>
    let q := s.sequencer.get arm
    q.state != .idle
      && ((q.drop.map (fun b => b.station)) == some station || (q.target.map (fun b => b.station)) == some station))

/-- A ZONE entry is a CORRIDOR zone for a station in use by a change. -/
def corridorInUse (s : State) (e : Option ZoneEntry) : Bool :=
  match e with
  | some z => z.kind == .corridor && stationInUse s z.station
  | none => false

/-- A location is MOUNTED on either arm. -/
def Location.isMounted : Location → Bool
  | .mounted _ => true
  | _ => false

/-- A stored LIBRARY entry is the target of an active change, or has its drop station as home station. -/
def berthInUse (s : State) (index : Nat) (e : LibraryEntry) : Bool :=
  bothArms.any (fun arm =>
    let q := s.sequencer.get arm
    q.state != .idle
      && ((q.target.map (fun b => b.index)) == some index
        || (e.home.isSome && e.home == q.drop.map (fun b => b.station))))

/-- The stored LIBRARY entry is MOUNTED, or belongs to an active change. -/
def probeInvolved (s : State) (index : Nat) : Bool :=
  match Table.entry s.library index with
  | some e => e.location.isMounted || berthInUse s index e
  | none => false

/-- The written LIBRARY entry has the identity or a present home station of another entry in use. -/
def notUnique (s : State) (index : Nat) (e : Option LibraryEntry) : Bool :=
  match e with
  | some e => s.library.any (fun p =>
      p.1 != index && (p.2.identity == e.identity || (e.home.isSome && p.2.home == e.home)))
  | none => false

/-- The stored PLAN entry is owned by DEVICE. -/
def deviceOwned (s : State) (index : Nat) : Bool :=
  match Table.entry s.plan index with
  | some e => e.owner == .device
  | none => false

/-- The walk of either arm holds the plan. -/
def someWalkHolds (s : State) : Bool := bothArms.any (fun arm => (s.walk.get arm).holdsPlan)

/-- The state rule that refuses an entry for an index of its table, if one does (R33). R33 does not say which of PROBE_INVOLVED and
NOT_UNIQUE is answered where both apply; the model answers PROBE_INVOLVED. (log 17) -/
def judgeEntry (s : State) (index : Nat) (e : Entry) : Option Reason :=
  match e with
  | .setup f => if someArmActive s && !sameGeometry s.setup f then some .armsActive else none
  | .channel _ => none
  | .axis _ => none
  | .map _ => none
  | .zone z => if corridorInUse s (Table.entry s.zones index) || corridorInUse s z then some .zoneInUse else none
  | .library l =>
    if probeInvolved s index then some .probeInvolved
    else if notUnique s index l then some .notUnique
    else none
  | .plan _ => if deviceOwned s index && someWalkHolds s then some .planActive else none

/-! ### Writing an entry -/

/-- A written CHANNEL entry restarts the channel's run state (R47). -/
def freshChannel (e : ChannelEntry) : Channel := { entry := e, run := freshRun }

/-- Write an entry at an index of its table. A CHANNEL write restarts the channel (R47), a LIBRARY write may bind (R110). -/
def writeEntry (s : State) (index : Nat) (e : Entry) : State :=
  match e with
  | .setup f => { s with setup := f }
  | .channel c => { s with channels := Table.write s.channels index (c.map freshChannel) }
  | .axis a => { s with axes := Table.write s.axes index a }
  | .map v => { s with map := writeMapPoint s.map index v }
  | .zone z => { s with zones := Table.write s.zones index z }
  | .library l => writeLibrary s index l
  | .plan p => { s with plan := Table.write s.plan index p }

/-- Writes to the table wait while a return frame is in processing (R31, R39, R40). -/
def TableCode.heldBack : TableCode → Bool
  | .setup | .channel | .axis | .map => true
  | .zone | .library | .plan => false

end Sys2Proof.Machine
end

