-- ==== Sys2Proof/Machine/Window.lean ====
section
/-! DEFINITION. The write window and the four table requests (chapter 2): each takes the part's state and the request's parameter
bytes, whose length has been found right where R26 asks for it, and gives the state and the answer. -/

namespace Sys2Proof.Machine

/-! ### The window (2.4) -/

/-- Break the window if it is OPEN, its values saved (R38). -/
def Window.broke : Window → Window
  | .opened w => .broken w
  | w => w

/-- A request other than TABLE DATA is taken: an OPEN window is broken (R26, R38). -/
def breakWindow (s : State) : State := s.setService { s.service with window := s.service.window.broke }

/-- The code of a window state: 0 CLOSED, 1 OPEN, 2 BROKEN (R37). -/
def windowCode : Window → Nat
  | .closed => 0
  | .opened _ => 1
  | .broken _ => 2

/-- The pointer a TABLE DATA reply gives: the window's, saved or not, and 0 for a CLOSED window (R37). -/
def windowPointer : Window → Nat
  | .closed => 0
  | .opened w => w.pointer
  | .broken w => w.pointer

/-- The data of a TABLE DATA reply: written, past the end, failing position, pointer, window state (R37). -/
def tableDataReply (w : Window) (written past position : Nat) : List Byte :=
  [byteOf written, byteOf past, byteOf position] ++ leBytes 2 (windowPointer w) ++ [byteOf (windowCode w)]

/-- The data of a TABLE DATA refused with NO_WINDOW or with BUSY (R37). -/
def nothingWritten (s : State) : List Byte := tableDataReply s.service.window 0 0 0

/-! ### TABLE OPEN, TABLE CONTINUE, TABLE READ -/

/-- A range of indices lies in a table, its start not above its end (R30). -/
def rangeOk (t : TableCode) (start last : Nat) : Bool := decide (start ≤ last) && decide (last < tableSize t)

/-- TABLE OPEN: the parameter values, then the new window with the pointer at start (R29, R30, R34). (log 17) -/
def openWindow (s : State) (p : List Byte) : State × Answer :=
  match tableOf (uField p 0 1), methodOf (uField p 5 1) with
  | some t, some m =>
    let start := uField p 1 2
    let last := uField p 3 2
    if rangeOk t start last then
      (s.setService { s.service with window := .opened { table := t, start := start, last := last, method := m, pointer := start } },
        doneWith [])
    else (s, refusal .badValue .range)
  | _, _ => (s, refusal .badValue .parameter)

/-- TABLE CONTINUE, judged by the window as the request found it (R38). -/
def continueWindow (found : Window) (s : State) : State × Answer :=
  match found with
  | .broken w =>
    (s.setService { s.service with window := .opened w }, doneWith (byteOf (tableCode w.table) :: leBytes 2 w.pointer))
  | _ => (s, refusal .state .notBroken)

/-- The free bytes of the reply that is being composed, by their offsets in its data (log 6). -/
def replyFill (s : State) : Nat → Byte := Config.absentByte s.freeIndex

/-- The entries that a TABLE READ returns, the first one at an offset of the reply data (R42). -/
def readEntries (s : State) (t : TableCode) (offset start : Nat) : Nat → List Byte
  | 0 => []
  | n + 1 =>
    entryBytes s (fun i => replyFill s (offset + i)) t start
      ++ readEntries s t (offset + entryLength t) (start + 1) n

/-- The reply has drawn on the free values: the next one draws on others (log 6). -/
def State.drawn (s : State) : State := { s with freeIndex := s.freeIndex + 1 }

/-- TABLE READ (R29, R30, R42). (log 17) -/
def readTable (s : State) (p : List Byte) : State × Answer :=
  match tableOf (uField p 0 1) with
  | none => (s, refusal .badValue .parameter)
  | some t =>
    let start := uField p 1 2
    let count := uField p 3 1
    if !inNat 1 16 count then (s, refusal .badValue .parameter)
    else if tableSize t < start + count then (s, refusal .badValue .range)
    else (s.drawn, doneWith (byteOf (tableCode t) :: (leBytes 2 start ++ byteOf count :: readEntries s t 4 start count)))

/-! ### TABLE DATA (R35 to R37, R40) -/

/-- A TABLE DATA as its entries are handled: the state, the window, the counts of R37 and the outcome so far. -/
structure DataRun where
  state : State
  window : WindowValues
  written : Nat
  past : Nat
  position : Nat
  outcome : ReplyOutcome
  reason : Reason
  deriving DecidableEq, Repr

/-- No entry has been handled yet. -/
def DataRun.start (s : State) (w : WindowValues) : DataRun :=
  { state := s, window := w, written := 0, past := 0, position := 0, outcome := .done, reason := .none }

/-- The outcome of a refused entry by its reason: FIELD and ENTRY are BAD_VALUE, a state rule's reason is STATE (R28, R33, R36). -/
def refusalOutcome : Reason → ReplyOutcome
  | .field | .entry => .badValue
  | _ => .state

/-- The pointer after an entry was written (R36). -/
def WindowValues.advanced (w : WindowValues) : WindowValues :=
  match w.method with
  | .wrap => { w with pointer := if w.pointer + 1 > w.last then w.start else w.pointer + 1 }
  | .stop => { w with pointer := w.pointer + 1 }

/-- In method STOP the pointer stands one past the end index (R36). -/
def WindowValues.atEnd (w : WindowValues) : Bool := w.method == .stop && decide (w.last < w.pointer)

/-- An entry that passes is written at the pointer, or placed in the deferred-write buffer (R36, R40). -/
def placeEntry (held : Bool) (s : State) (index : Nat) (e : Entry) : State :=
  if held then s.setService { s.service with deferred := s.service.deferred ++ [(index, e)] } else writeEntry s index e

/-- The value checks and the state rules of an entry for an index (R32, R33). (log 17) -/
def checkEntry (s : State) (t : TableCode) (index : Nat) (b : List Byte) : Except Reason Entry :=
  match readEntry t index b with
  | .error r => .error r
  | .ok e =>
    match judgeEntry s index e with
    | some r => .error r
    | none => .ok e

/-- Handle the entries of a TABLE DATA one by one, the next one at a position of the request (R36). -/
def handleEntries (held : Bool) : Nat → List (List Byte) → DataRun → DataRun
  | _, [], d => d
  | k, b :: bs, d =>
    if d.window.atEnd then handleEntries held (k + 1) bs { d with past := d.past + 1 }
    else
      match checkEntry d.state d.window.table d.window.pointer b with
      | .error r => { d with position := k, outcome := refusalOutcome r, reason := r }
      | .ok e =>
        handleEntries held (k + 1) bs
          { d with state := placeEntry held d.state d.window.pointer e, window := d.window.advanced, written := d.written + 1 }

/-- Cut bytes into a number of entries of a length. -/
def cutEntries (length : Nat) : Nat → List Byte → List (List Byte)
  | 0, _ => []
  | n + 1, b => b.take length :: cutEntries length n (b.drop length)

/-- A TABLE DATA in an OPEN window (R35, R36, R37). -/
def dataInWindow (held : Bool) (s : State) (w : WindowValues) (p : List Byte) : State × Answer :=
  match p with
  | [] => (s, refusal .badFormat .none)
  | countByte :: rest =>
    let count := countByte.toNat
    if rest.length ≠ count * entryLength w.table then (s, refusal .badFormat .none)
    else if !inNat 1 16 count then (s, { outcome := .badValue, reason := .parameter, data := nothingWritten s })
    else
      let d := handleEntries held 1 (cutEntries (entryLength w.table) count rest) (DataRun.start s w)
      (d.state.setService { d.state.service with window := .opened d.window },
        { outcome := d.outcome, reason := d.reason, data := tableDataReply (.opened d.window) d.written d.past d.position })

/-- What a taken TABLE DATA gives: an answer at once, or an answer that is held back until the return frame in processing has left
(R40). -/
inductive DataResult where
  | answered (a : Answer)
  | held (a : Answer)
  deriving DecidableEq, Repr

/-- A taken TABLE DATA (R35, R39, R40, R41). (log 13) -/
def tableDataTaken (s : State) (p : List Byte) : State × DataResult :=
  if s.service.heldReply.isSome then (s, .answered { outcome := .busy, reason := .none, data := nothingWritten s })
  else
    match s.service.window with
    | .opened w =>
      if w.table.heldBack && s.link.returnInProcessing then
        let r := dataInWindow true s w p
        (r.1, .held r.2)
      else
        let r := dataInWindow false s w p
        (r.1, .answered r.2)
    | _ => (s, .answered { outcome := .state, reason := .noWindow, data := nothingWritten s })

end Sys2Proof.Machine
end

