-- ==== Sys2Proof/Machine/Status.lean ====
section
/-! DEFINITION. The requests on the notice list and the status record (chapter 11). -/

namespace Sys2Proof.Machine

/-! ### READ NOTICES (R189) -/

/-- The subject kind and value of a notice (R189). -/
def subjectBytes : Subject → List Byte
  | .none => [0, 0]
  | .arm which => [1, byteOf (armCode which)]
  | .channel i => [2, byteOf i]

/-- A notice entry as carried (R189). -/
def noticeBytes (e : Notice) : List Byte :=
  byteOf (noticeCode e.kind) :: byteOf (noticeClass e.kind)
    :: (subjectBytes e.subject ++ byteOf e.detail :: (leBytes 2 e.firstCycle.toNat ++ [byteOf e.repeats]))

/-- Take up to a number of the oldest entries of a class: the entries taken, and the entries that stay (R189). -/
def takeClass (c : Nat) : Nat → List Notice → List Notice × List Notice
  | 0, es => ([], es)
  | _ + 1, [] => ([], [])
  | n + 1, e :: es =>
    if noticeClass e.kind = c then
      let r := takeClass c n es
      (e :: r.1, r.2)
    else
      let r := takeClass c (n + 1) es
      (r.1, e :: r.2)

/-- READ NOTICES (R30, R189). -/
def readNotices (s : State) (p : List Byte) : State × Answer :=
  let count := uField p 0 1
  if inNat 1 8 count then
    let r := takeClass (topClass s.notices.entries) count s.notices.entries
    (s.setNotices { s.notices with entries := r.2 }, doneWith (byteOf r.1.length :: r.1.flatMap noticeBytes))
  else (s, refusal .badValue .parameter)

/-! ### SET NOTICE MASK (R190) -/

/-- SET NOTICE MASK: positions 20 to 31 are disregarded, a mask of a class 1 kind is refused. -/
def setNoticeMask (s : State) (p : List Byte) : State × Answer :=
  let mask := BitVec.ofNat 20 (uField p 0 4)
  if mask.getLsbD 0 || mask.getLsbD 1 then (s, refusal .badValue .maskSafety)
  else (s.setNotices { s.notices with mask := mask }, doneWith [])

/-! ### READ STATUS (R191) -/

/-- An axis of the corrected head position: present byte, last corrected value, flags (R191). -/
def headAxisBytes (fill : Nat → Byte) (offset : Nat) (h : HeadAxis) : List Byte :=
  optionalBytes fill offset 5 (h.last.map (leIntBytes 5)) ++ [byteOf (axisFlagCode h.flags)]

/-- The ms to expiry of a timer, rounded to nearest (R191). -/
def remainingMs (s : State) (expiry : Nat) : Nat := (roundDiv ((expiry - s.now : Nat) : Int) 1000).toNat

/-- The active probe record: kind, library index, identity (R191). -/
def activeBytes : ActiveProbe → List Byte
  | .none => [0, 0] ++ leBytes 3 0
  | .known i => [1, byteOf i] ++ leBytes 3 0
  | .unknown x => [2, 0] ++ leBytes 3 x

/-- The 64 bytes of an arm in the status record, from an offset of the record (R191). -/
def armStatusBytes (s : State) (arm : Arm) (offset : Nat) : List Byte :=
  let fill := replyFill s
  let v := s.supervision.get arm
  let h := (s.head.get arm).record
  let c := s.capture.get arm
  let q := s.sequencer.get arm
  let w := s.walk.get arm
  [byteOf (armStateCode v.state), byteOf (stopCauseCode v.cause)]
    ++ optionalBytes fill (offset + 2) 15 (v.setpoint.map tripleBytes)
    ++ headAxisBytes fill (offset + 18) h.x ++ headAxisBytes fill (offset + 25) h.y ++ headAxisBytes fill (offset + 32) h.z
    ++ leBytes 2 v.holdRun ++ leBytes 2 v.clampCount ++ leBytes 2 v.holdCount ++ leBytes 2 c.bounces ++ leBytes 2 c.stucks
    ++ [byteOf (seqStateCode q.state)]
    ++ optionalBytes fill (offset + 50) 4 (q.phaseTimer.map (fun t => leBytes 4 (remainingMs s t)))
    ++ [byteOf (walkCode w)] ++ optionalBytes fill (offset + 56) 2 (w.head.map (leBytes 2))
    ++ activeBytes (s.active.get arm)

/-- The 139 bytes of the status record (R191). -/
def statusRecord (s : State) : List Byte :=
  armStatusBytes s .a 0 ++ armStatusBytes s .b 64
    ++ [byteOf (watchCode s.link.watch)] ++ leBytes 2 s.link.badU ++ leBytes 2 s.link.badD ++ leBytes 2 s.rack.lateReplies
    ++ leBytes 2 s.queue.overruns ++ leBytes 2 s.notices.lost

/-- The counters zeroed by a READ STATUS with the clear flag set (R191). -/
def clearCounters (s : State) : State :=
  { s with
    supervision :=
      ⟨{ s.supervision.a with clampCount := 0, holdCount := 0 }, { s.supervision.b with clampCount := 0, holdCount := 0 }⟩
    capture := ⟨{ s.capture.a with bounces := 0, stucks := 0 }, { s.capture.b with bounces := 0, stucks := 0 }⟩
    link := { s.link with badU := 0, badD := 0 }
    rack := { s.rack with lateReplies := 0 }
    queue := { s.queue with overruns := 0 }
    notices := { s.notices with lost := 0 } }

/-- READ STATUS (R30, R191). -/
def readStatus (s : State) (p : List Byte) : State × Answer :=
  match flagOf (uField p 0 1) with
  | none => (s, refusal .badValue .parameter)
  | some clear =>
    (if clear then clearCounters s.drawn else s.drawn, doneWith (statusRecord s))

end Sys2Proof.Machine
end

