-- ==== Sys2Proof/Machine/Service.lean ====
section
/-! DEFINITION. The service block (chapter 2): the request queue, the checks of a taken request, its reply, the held-back TABLE DATA, and
RESTART RUN. -/

namespace Sys2Proof.Machine

/-! ### The request list (1.9, R29) -/

def codeTableOpen : Byte := 0x20
def codeTableData : Byte := 0x21
def codeTableContinue : Byte := 0x22
def codeTableRead : Byte := 0x23
def codeChangeProbe : Byte := 0x30
def codeAbortChange : Byte := 0x31
def codeStopArm : Byte := 0x32
def codeReleaseArm : Byte := 0x33
def codePlanStart : Byte := 0x40
def codePlanStop : Byte := 0x41
def codePlanResume : Byte := 0x42
def codeSetCredits : Byte := 0x50
def codeAddCredits : Byte := 0x51
def codeReadNotices : Byte := 0x60
def codeSetNoticeMask : Byte := 0x61
def codeReadStatus : Byte := 0x62
def codeRestartRun : Byte := 0x70

/-- The parameter length in bytes of each request of the list but TABLE DATA, whose length its window gives (R29, R35). -/
def requestLengths : List (Byte × Nat) :=
  [(codeTableOpen, 6), (codeTableContinue, 0), (codeTableRead, 4), (codeChangeProbe, 4), (codeAbortChange, 1), (codeStopArm, 1),
    (codeReleaseArm, 1), (codePlanStart, 4), (codePlanStop, 1), (codePlanResume, 1), (codeSetCredits, 1), (codeAddCredits, 1),
    (codeReadNotices, 1), (codeSetNoticeMask, 4), (codeReadStatus, 1), (codeRestartRun, 0)]

/-- The code is one of the request list (R29). -/
def listedCode (c : Byte) : Bool := c == codeTableData || requestLengths.any (fun p => p.1 == c)

/-- The form of a request other than TABLE DATA: a listed code and that request's parameter length (R26). -/
def formOk (c : Byte) (p : List Byte) : Bool := requestLengths.any (fun q => q.1 == c && q.2 == p.length)

/-! ### The requests on one arm, and the credits -/

/-- A request whose first parameter is an arm: PARAMETER for any other value (R30). -/
def withArm (s : State) (p : List Byte) (f : Arm → State × Answer) : State × Answer :=
  match armOf (uField p 0 1) with
  | some arm => f arm
  | none => (s, refusal .badValue .parameter)

/-- PLAN START: arm and loop flag, then the first index (R29, R30, R164). (log 17) -/
def planStartRequest (s : State) (p : List Byte) : State × Answer :=
  withArm s p fun arm =>
    match flagOf (uField p 3 1) with
    | none => (s, refusal .badValue .parameter)
    | some loop => if 511 < uField p 1 2 then (s, refusal .badValue .range) else planStart s arm (uField p 1 2) loop

/-- The credit count as reply data (R27, R177). -/
def creditData (s : State) : List Byte := [byteOf s.queue.credits]

/-- SET CREDITS and ADD CREDITS answer the count they leave (R177). -/
def creditAnswer (s : State) : State × Answer := (s, doneWith (creditData s))

/-! ### RESTART RUN (R43) -/

/-- The notice list is emptied; mask, lost counter and current cycle number are kept (R192). -/
def restartNotices (s : State) : State := s.setNotices { s.notices with entries := [] }

/-- An arm is set STOPPED with cause RESTART; ARM_STOPPED is raised for an arm that was FREE or HELD (R106). -/
def restartArm (s : State) (arm : Arm) : State :=
  let v := s.supervision.get arm
  let s1 := s.setSupervision arm (restartSupervision v)
  if v.state = .stopped then s1 else s1.raise .armStopped (.arm arm) (stopCauseCode .restart)

/-- A frame waiting on the D port carries no message any more: a carried message is not sent (R123). (log 27) -/
def TxFrame.withheld : TxFrame → TxFrame
  | .out f (some slot) => .out (withhold f slot) none
  | t => t

/-- RESTART RUN: every block's effects as one action, the notice list first (R43, R44, R61, R82, R106, R115, R123, R144, R160, R173, R185,
R192). The order of two ARM_STOPPED raises, arm A first, is the model's choice. (logs 20, 27) -/
def restartRun (s : State) : State :=
  let s1 := restartArm (restartArm (restartNotices s) .a) .b
  { s1 with
    service := { s1.service with window := .closed, deferred := [] }
    link := { s1.link with txD := s1.link.txD.map TxFrame.withheld }
    channels := restartChannels s1.channels
    head := ⟨endFailRun s1.head.a, endFailRun s1.head.b⟩
    sequencer := ⟨Sequencer.initial, Sequencer.initial⟩
    rack := restartRack s1.rack
    capture := ⟨restartCapture s1.capture.a, restartCapture s1.capture.b⟩
    walk := ⟨Walk.initial, Walk.initial⟩
    queue := restartQueue s1.queue }

/-! ### Carrying out a taken request (R26) -/

/-- The request rules of each listed request but TABLE DATA, its form found good; `found` is the window as the request found it. A code
that is not listed is BAD_FORMAT. -/
def carryOutListed (found : Window) (s : State) (code : Byte) (p : List Byte) : State × Answer :=
  if code = codeTableOpen then openWindow s p
  else if code = codeTableContinue then continueWindow found s
  else if code = codeTableRead then readTable s p
  else if code = codeChangeProbe then withArm s p (fun arm => changeProbe s arm (uField p 1 3))
  else if code = codeAbortChange then withArm s p (abortChange s)
  else if code = codeStopArm then withArm s p (stopRequest s)
  else if code = codeReleaseArm then withArm s p (releaseArm s)
  else if code = codePlanStart then planStartRequest s p
  else if code = codePlanStop then withArm s p (planStop s)
  else if code = codePlanResume then withArm s p (planResume s)
  else if code = codeSetCredits then creditAnswer (setCredits s (uField p 0 1))
  else if code = codeAddCredits then creditAnswer (addCredits s (uField p 0 1))
  else if code = codeReadNotices then readNotices s p
  else if code = codeSetNoticeMask then setNoticeMask s p
  else if code = codeReadStatus then readStatus s p
  else if code = codeRestartRun then (restartRun s, doneWith [])
  else (s, refusal .badFormat .none)

/-- A taken request other than TABLE DATA: the form decides first, the window is broken whatever the form, then the request's own rules
(R26, R38). -/
def carryOut (s : State) (code : Byte) (p : List Byte) : State × Answer :=
  if formOk code p then carryOutListed s.service.window (breakWindow s) code p
  else (breakWindow s, refusal .badFormat .none)

/-! ### Replies and the request queue (R25, R27) -/

/-- The reply to a request is composed and placed on the U port's transmit queue; a full queue loses it without a count (R8, R14, R27). -/
def replyTo (s : State) (r : Request) (a : Answer) : State :=
  s.placeTx .u (.reply { tag := r.tag, code := r.code, answer := a })

/-- The reply to a held-back TABLE DATA is fixed but not composed yet (R40). -/
def holdReply (s : State) (r : Request) (a : Answer) : State :=
  s.setService { s.service with heldReply := some { tag := r.tag, code := r.code, answer := a } }

/-- A taken request is carried out and answered (R26, R27, R40). -/
def completeRequest (s : State) (r : Request) : State :=
  if r.code = codeTableData then
    let d := tableDataTaken s r.params
    match d.2 with
    | .answered a => replyTo d.1 r a
    | .held a => holdReply d.1 r a
  else
    let c := carryOut s r.code r.params
    replyTo c.1 r c.2

/-- A request waits while a held-back TABLE DATA is pending, unless it is a TABLE DATA itself (R41). -/
def mustWait (s : State) (r : Request) : Bool := s.service.heldReply.isSome && r.code != codeTableData

/-- The service block takes the oldest waiting request, if there is one and it need not wait (R25, R41). -/
def serveOldest (s : State) : State :=
  match s.service.requests with
  | [] => s
  | r :: rest =>
    if mustWait s r then s else completeRequest (s.setService { s.service with requests := rest }) r

/-- The data of a BUSY reply to a request that met a full queue (R25, R27). -/
def busyData (s : State) (code : Byte) : List Byte :=
  if code = codeTableData then nothingWritten s
  else if code = codeSetCredits ∨ code = codeAddCredits then creditData s
  else []

/-- The request queue already holds 4 requests (R25). -/
def requestsFull (s : State) : Bool := decide (Config.requestDepth ≤ s.service.requests.length)

/-- A request enters the queue at the back (R25). -/
def enqueueRequest (s : State) (r : Request) : State := s.setService { s.service with requests := s.service.requests ++ [r] }

/-- A request is handed over: it enters the queue, or is answered BUSY at once when the queue holds 4 (R25). -/
def handOver (s : State) (r : Request) : State :=
  if requestsFull s then replyTo s r { outcome := .busy, reason := .none, data := busyData s r.code } else enqueueRequest s r

/-- A request reaches the service block as one step: taken and carried out at once when nothing waits before it; taken from the front
of the queue when it stands there; otherwise handed over to wait its turn (R25, R41; log 11). -/
def requestStep (s : State) (r : Request) : State :=
  if s.service.requests = [] ∧ !mustWait s r then completeRequest s r
  else if s.service.requests.head? = some r then serveOldest s
  else handOver s r

/-! ### The end of return-frame processing (R40) -/

/-- The buffered entries are written in order of placement. -/
def writeDeferred (s : State) : State :=
  (s.service.deferred.foldl (fun s p => writeEntry s p.1 p.2) s).setService { s.service with deferred := [] }

/-- The held-back reply is composed. -/
def releaseHeldReply (s : State) : State :=
  match s.service.heldReply with
  | none => s
  | some r => (s.setService { s.service with heldReply := none }).placeTx .u (.reply r)

/-- The return frame leaves processing: the buffered entries are written and the held-back reply is composed (R40). -/
def leaveProcessing (s : State) : State :=
  releaseHeldReply (writeDeferred (s.setLink { s.link with returnInProcessing := false }))

end Sys2Proof.Machine
end

