-- ==== Sys2Proof/Machine/LinkWatch.lean ====
section
/-! DEFINITION. The link watch and originated frames (1.7, 1.8), the routing of outbound slots (R10, R12), and the frame that leaves a
port (R14). -/

namespace Sys2Proof.Machine

/-! ### Routing of outbound slots (R10, R12) -/

/-- The owner of an outbound slot. -/
inductive OutRoute where
  | target (arm : Arm)
  | rackOut
  deriving DecidableEq, Repr

/-- The arm whose address of two a slot carries. -/
def armAt (addresses : PerArm Nat) (address : Byte) : Option Arm :=
  if address.toNat = addresses.a then some .a else if address.toNat = addresses.b then some .b else none

/-- The row of R10 that a slot matches, by its kind and address (R10, R16). -/
def outRoute (setup : Setup) (sl : Slot) : Option OutRoute :=
  if sl.kind = kindTarget then (armAt setup.armNode sl.address).map OutRoute.target
  else if sl.kind = kindRackOut ∧ sl.address.toNat = setup.rackNode then some .rackOut
  else none

/-- The words that the layout of an outbound row takes (1.9). -/
def OutRoute.words : OutRoute → Nat
  | .target _ => 4
  | .rackOut => 1

/-- An outbound frame whose slots are being handled: the slots done, the rows already matched with their addresses, and the tags of the
rack messages written into it with the numbers of their slots. -/
structure OutRun where
  done : List Slot
  matched : List (Byte × Byte)
  carried : List (RackTag × Nat)
  deriving DecidableEq, Repr

/-- No slot has been handled yet. -/
def OutRun.start : OutRun := { done := [], matched := [], carried := [] }

/-- The kind and address with which a slot matches its row. -/
def slotRow (sl : Slot) : Byte × Byte := (sl.kind, sl.address)

/-- A slot that matches a row is acted on: the first of its kind and address, and long enough (R12). (log 12) -/
def actedOut (matched : List (Byte × Byte)) (r : OutRoute) (sl : Slot) : Bool :=
  !(matched.contains (slotRow sl)) && longEnough r.words sl.payload

/-- A slot is passed on with its payload replaced. -/
def OutRun.pass (d : OutRun) (sl : Slot) (payload : List Byte) : OutRun :=
  { d with done := d.done ++ [{ sl with payload := payload }] }

/-- Handle one outbound slot, with what the motion supervisor does to an acted-on TARGET slot (R10, R12, R23). -/
def outSlot (supervise : State → Arm → List Byte → State × List Byte) (s : State) (d : OutRun) (sl : Slot) : State × OutRun :=
  match outRoute s.setup sl with
  | none => (s, d.pass sl sl.payload)
  | some r =>
    let seen := { d with matched := slotRow sl :: d.matched }
    if actedOut d.matched r sl then
      match r with
      | .target arm =>
        let t := supervise s arm sl.payload
        (t.1, seen.pass sl t.2)
      | .rackOut =>
        let m := rackOutSlot s sl.payload
        (m.1, { seen with carried := d.carried ++ m.2.2.toList.map fun tag => (tag, d.done.length) }.pass sl m.2.1)
    else (s, seen.pass sl sl.payload)

/-- Handle outbound slots in order. -/
def outSlots (supervise : State → Arm → List Byte → State × List Byte) : State → OutRun → List Slot → State × OutRun
  | s, d, [] => (s, d)
  | s, d, sl :: rest =>
    let r := outSlot supervise s d sl
    outSlots supervise r.1 r.2 rest

/-! ### Placing an outbound frame -/

/-- The message with a tag is still the one being carried: RESTART RUN has not discarded it (R120, R123). (log 24) -/
def stillCarried (r : Rack) (tag : RackTag) : Bool :=
  match r.message with
  | some m => m.phase == .carried && m.tag == tag
  | none => false

/-- The slot of a frame that carries the outstanding message, of those that messages were written into. (log 24) -/
def carryingSlot (r : Rack) (carried : List (RackTag × Nat)) : Option Nat :=
  (carried.find? fun c => stillCarried r c.1).map Prod.snd

/-- The frame as it is placed: a message that was discarded since it was written is withheld (R123). (log 27) -/
def withholdDiscarded (r : Rack) (carried : List (RackTag × Nat)) (f : CycleFrame) : CycleFrame :=
  (carried.filter fun c => !stillCarried r c.1).foldl (fun f c => withhold f c.2) f

/-- An outbound frame is placed on the D port's transmit queue, or discarded from it; a discarded frame's message counts as sent (R14,
R22, R120). (log 24) -/
def placeOut (s : State) (f : CycleFrame) (carried : List (RackTag × Nat)) : State :=
  let s1 := s.setLink { s.link with lastOutbound := some f.cycle }
  if s.txFull .d then (if (carryingSlot s.rack carried).isSome then messageSent s1 else s1)
  else s1.placeTx .d (.out (withholdDiscarded s.rack carried f) (carryingSlot s.rack carried))

/-! ### Originated frames (R23, R24) -/

/-- The cycle number of an originated frame: the last outbound number plus one; a free number follows when there is none (R23, log 7). -/
def originatedNumber (l : Link) : CycleNumber := l.lastOutbound.getD Config.numberBeforeFirst + 1

/-- A number enters the list of outstanding originated cycles: at most 16, each at most once, oldest first (R24). (log 23) -/
def listNumber (list : List CycleNumber) (c : CycleNumber) : List CycleNumber :=
  let rest := list.filter (fun x => x != c)
  rest.drop (rest.length + 1 - Config.outstandingDepth) ++ [c]

/-- The slots of an originated frame (R23). -/
def originatedSlots (s : State) (template : CycleFrame) : State × OutRun :=
  outSlots (fun s arm payload => (s, originatedTarget (s.supervision.get arm) payload)) s OutRun.start template.slots

/-- Originate one cycle frame: composed, placed on the D port's transmit queue and listed, or lost to a full queue with its number used
(R14, R23, R24). Without a template nothing is originated. -/
def originate (s : State) : State :=
  match s.link.template with
  | none => s
  | some t =>
    let number := originatedNumber s.link
    let d := originatedSlots (s.setCurrentCycle number) t
    let placed := placeOut d.1 { cycle := number, slots := d.2.done } d.2.carried
    if s.txFull .d then placed
    else placed.setLink { placed.link with outstanding := listNumber placed.link.outstanding number }

/-- One frame is originated and the origination timer started at the SETUP cycle period (R19, R20). -/
def originateAndStart (s : State) : State :=
  let s1 := originate s
  s1.setLink { s1.link with originationTimer := s1.after s1.setup.cyclePeriod }

/-! ### The link watch (R18 to R21) -/

/-- Both arms are stopped with cause LINK_LOSS, and the watch is HALTED with its bridge timer stopped (R20). -/
def enterHalted (s : State) : State :=
  stopArm (stopArm (s.setLink { s.link with watch := .halted, bridgeTimer := none }) .a .linkLoss) .b .linkLoss

/-- BRIDGING is entered: the bridge timer starts, one frame is originated, the origination timer starts (R19). -/
def enterBridging (s : State) : State :=
  originateAndStart (s.setLink { s.link with watch := .bridging, bridgeTimer := s.after (s.setup.bridgeTime * 1000) })

/-- The watch timer runs out with a template: LINK_LOSS, then BRIDGING, or HALTED when the bridge time is 0 (R18, R20). -/
def loseController (s : State) : State :=
  let s1 := s.raise .linkLoss .none 0
  if s.setup.bridgeTime = 0 then originateAndStart (enterHalted s1) else enterBridging s1

/-- The watch timer runs out without a template: LINK_LOSS once, and the watch stays (R18). -/
def loseWithoutTemplate (s : State) : State :=
  if s.link.lossMark then s else (s.setLink { s.link with lossMark := true }).raise .linkLoss .none 0

/-- The watch timer expires (R18). A stopped timer does not expire. (log 5) -/
def watchTimerExpires (s : State) : State :=
  match s.link.watchTimer with
  | none => s
  | some t =>
    let s1 := (s.reach t).setLink { s.link with watchTimer := none }
    if s.link.template.isSome then loseController s1 else loseWithoutTemplate s1

/-- The origination timer expires: one frame, and the timer again (R19, R20). A stopped timer does not expire. (log 5) -/
def originationTimerExpires (s : State) : State :=
  match s.link.originationTimer with
  | none => s
  | some t => originateAndStart (s.reach t)

/-- The bridge timer expires: HALTED is entered (R19, R20). A stopped timer does not expire. (log 5) -/
def bridgeTimerExpires (s : State) : State :=
  match s.link.bridgeTimer with
  | none => s
  | some t => enterHalted (s.reach t)

/-- A good controller CYCLE_OUT at the link watch: WATCHING, the other timers stopped, the watch timer restarted, the mark cleared, the
template replaced, its number off the outstanding list (R18, R21, R22, R24). -/
def watchFrame (s : State) (f : CycleFrame) : State :=
  s.setLink
    { s.link with watch := .watching, watchTimer := s.after (s.setup.watchTime * 1000), originationTimer := none, bridgeTimer := none,
                  template := some f, lossMark := false, outstanding := s.link.outstanding.filter (fun c => c != f.cycle) }

/-! ### A frame leaves a port (R14, R120) -/

/-- The frame carries the outstanding rack message. -/
def TxFrame.carriesMessage : TxFrame → Bool
  | .out _ carries => carries.isSome
  | _ => false

/-- The oldest frame of a transmit queue leaves its port; the message it carries becomes SENT (R14, R120). (log 3) -/
def frameLeaves (s : State) (p : Port) : State :=
  match s.link.tx p with
  | [] => s
  | t :: rest =>
    let s1 := s.setLink (s.link.setTx p rest)
    if t.carriesMessage then messageSent s1 else s1

end Sys2Proof.Machine
end

