-- ==== Sys2Proof/Machine/Cycle.lean ====
section
/-! DEFINITION. Cycle frames in processing (1.4): outbound frames, return frames with their frame-end work, any frame by its bytes (R2 to
R7), and the two receive sides at work at the same time (R1). -/

namespace Sys2Proof.Machine

/-! ### Outbound frames (R7, R9, R10) -/

/-- The frame is forwarded on the D port (R9, R14). -/
def forwardOut (s : State) (f : CycleFrame) (carried : List (RackTag × Nat)) : State :=
  if s.txFull .d then placeOut (s.countBadFrame .u) f carried else placeOut s f carried

/-- An outbound cycle frame in processing: its number, the slots still to be handled, and what the others left (R9). -/
structure OutFrame where
  cycle : CycleNumber
  todo : List Slot
  run : OutRun
  deriving DecidableEq, Repr

/-- An outbound cycle frame is taken into processing: the link watch, the template and the current cycle number (R18, R21, R22, R187). -/
def startOut (s : State) (f : CycleFrame) : State × OutFrame :=
  ((watchFrame s f).setCurrentCycle f.cycle, { cycle := f.cycle, todo := f.slots, run := OutRun.start })

/-- Its slots done, the frame is forwarded (R9). -/
def endOut (s : State) (g : OutFrame) : State := forwardOut s { cycle := g.cycle, slots := g.run.done } g.run.carried

/-- The next piece of an outbound frame: its next slot, or the forwarding (R9). -/
def handleOut (s : State) (g : OutFrame) : State × Option OutFrame :=
  match g.todo with
  | [] => (endOut s g, none)
  | sl :: rest =>
    let r := outSlot targetSlot s g.run sl
    (r.1, some { g with todo := rest, run := r.2 })

/-- The rest of an outbound frame with nothing between its pieces (R9). -/
def finishOut (s : State) (g : OutFrame) : State :=
  let r := outSlots targetSlot s g.run g.todo
  endOut r.1 { g with todo := [], run := r.2 }

/-! ### Return frames: the slots (R11, R12) -/

/-- The owner of a return slot that is handled where it stands. -/
inductive BackRoute where
  | thermal (hub : Nat)
  | position (arm : Arm)
  | probe (arm : Arm)
  | rackIn
  deriving DecidableEq, Repr

/-- The hub whose present address a slot carries. -/
def hubAt (h : Hubs) (address : Byte) : Option Nat :=
  if h.h0 = some address.toNat then some 0
  else if h.h1 = some address.toNat then some 1
  else if h.h2 = some address.toNat then some 2
  else if h.h3 = some address.toNat then some 3
  else none

/-- The row of R11 that a slot matches, but for REPORT, which is handled at frame end (R11, R16). -/
def backRoute (setup : Setup) (sl : Slot) : Option BackRoute :=
  if sl.kind = kindThermal then (hubAt setup.hubs sl.address).map BackRoute.thermal
  else if sl.kind = kindPosition then (armAt setup.armNode sl.address).map BackRoute.position
  else if sl.kind = kindProbe then (armAt setup.headNode sl.address).map BackRoute.probe
  else if sl.kind = kindRackIn ∧ sl.address.toNat = setup.rackNode then some .rackIn
  else none

/-- A return frame whose slots are being handled: the slots done, the rows already matched with their addresses, the channels that had a
reading, and per arm whether a POSITION slot was acted on and which report was. -/
structure BackRun where
  done : List Slot
  matched : List (Byte × Byte)
  readings : List Nat
  positions : PerArm Bool
  reports : PerArm (Option ProbeReport)
  deriving DecidableEq, Repr

/-- No slot has been handled yet. -/
def BackRun.start : BackRun :=
  { done := [], matched := [], readings := [], positions := ⟨false, false⟩, reports := ⟨none, none⟩ }

/-- A slot is passed on with its payload replaced. -/
def BackRun.pass (d : BackRun) (sl : Slot) (payload : List Byte) : BackRun :=
  { d with done := d.done ++ [{ sl with payload := payload }] }

/-- A FAIL cycle of an arm is counted, and the stop it may ask for (R77, R79). -/
def countFail (s : State) (arm : Arm) : State :=
  let h := failCycle (s.setup.scaleFailLimit.get arm) (s.head.get arm)
  let s1 := s.setHead arm h.1
  if h.2 then stopArm s1 arm .scaleFail else s1

/-- A POSITION slot at the correction engine: the record, the FAIL run, and after a fully computed slot the sequencer's leaving test
(R75, R77, R79, R133). -/
def positionSlot (s : State) (arm : Arm) (payload : List Byte) : State :=
  let s1 := updateRecord s arm payload
  if allComputed s arm payload then leavingTest (s1.setHead arm (endFailRun (s1.head.get arm))) arm else countFail s1 arm

/-- Hand an acted-on return slot of a row to its owner; a slot whose payload is outside its layout is not acted on (R11, R12). -/
def handleBack (s : State) (d : BackRun) (r : BackRoute) (sl : Slot) : State × BackRun :=
  match r with
  | .thermal hub =>
    if longEnough 6 sl.payload then
      (thermalSlot s hub sl.payload, { d with readings := d.readings ++ channelsRead hub sl.payload }.pass sl sl.payload)
    else (s, d.pass sl sl.payload)
  | .position arm =>
    if longEnough 9 sl.payload then
      (positionSlot s arm sl.payload, { d with positions := d.positions.put arm true }.pass sl (correctedPayload s arm sl.payload))
    else (s, d.pass sl sl.payload)
  | .probe arm =>
    match longEnough 2 sl.payload, readProbe sl.payload with
    | true, some report =>
      (probeSlot s arm report, { d with reports := d.reports.put arm (some report) }.pass sl sl.payload)
    | _, _ => (s, d.pass sl sl.payload)
  | .rackIn =>
    match longEnough 2 sl.payload, readRackIn sl.payload with
    | true, .reply reply => (takeReply s reply, d.pass sl sl.payload)
    | _, _ => (s, d.pass sl sl.payload)

/-- Handle one return slot: only the first slot of a row and address is acted on (R11, R12). (log 12) -/
def backSlot (s : State) (d : BackRun) (sl : Slot) : State × BackRun :=
  match backRoute s.setup sl with
  | none => (s, d.pass sl sl.payload)
  | some r =>
    let seen := { d with matched := slotRow sl :: d.matched }
    if d.matched.contains (slotRow sl) then (s, seen.pass sl sl.payload) else handleBack s seen r sl

/-- Handle return slots in order (R9). -/
def backSlots : State → BackRun → List Slot → State × BackRun
  | s, d, [] => (s, d)
  | s, d, sl :: rest =>
    let r := backSlot s d sl
    backSlots r.1 r.2 rest

/-! ### Return frames: the frame-end work (R11) -/

/-- An arm whose POSITION slot the frame lacks (R78). -/
def missingPosition (s : State) (arm : Arm) (present : Bool) : State :=
  if present then s
  else countFail (s.setHead arm { s.head.get arm with record := missingRecord (s.head.get arm).record }) arm

/-- The stages of the frame-end work before the REPORT slot: ageing with the missing POSITION slots, then the capture evaluation of each
arm (R11). -/
inductive EndStage where
  | ageing
  | capture (arm : Arm)
  deriving DecidableEq, Repr

/-- The stages in order, arm A before arm B (R11, R146). -/
def endStages : List EndStage := [.ageing, .capture .a, .capture .b]

/-- One stage of the frame-end work (R11, R54, R78, R146). Which arm is dealt with first when the frame lacks both arms' POSITION slots is
the model's choice, arm A. (log 20) -/
def endStage (d : BackRun) (cycle : CycleNumber) (s : State) (g : EndStage) : State :=
  match g with
  | .ageing => missingPosition (missingPosition (ageChannels s d.readings) .a d.positions.a) .b d.positions.b
  | .capture arm => evaluateArm s arm (d.reports.get arm) cycle

/-- The slot is a REPORT slot addressed to the part (R11). -/
def isReport (sl : Slot) : Bool := sl.kind == kindReport && sl.address.toNat == Config.ownAddress

/-- The frame has a REPORT slot that is acted on: its first one is at least the status header long (R11, R12). -/
def reportActedOn (slots : List Slot) : Bool :=
  match slots.find? isReport with
  | some sl => longEnough 4 sl.payload
  | none => false

/-- Replace the payload of the first REPORT slot of a frame. -/
def replaceReport (payload : List Byte) : List Slot → List Slot
  | [] => []
  | sl :: rest => if isReport sl then { sl with payload := payload } :: rest else sl :: replaceReport payload rest

/-- The REPORT slot of a frame that is to be forwarded: the state, the frame's slots and the number of records delivered (R11, R178). -/
def writeReport (s : State) (slots : List Slot) : State × List Slot × Nat :=
  match slots.find? isReport with
  | some sl =>
    if longEnough 4 sl.payload then
      let r := reportSlot s sl.payload
      (r.1, replaceReport r.2.1 slots, r.2.2)
    else (s, slots, 0)
  | none => (s, slots, 0)

/-- The frame end of a frame that is forwarded on the U port: REPORT slot, missing-slot mark, stall judgement, forwarding (R9, R14, R178,
R182, R183). (log 26) -/
def finishForwarded (s : State) (cycle : CycleNumber) (slots : List Slot) : State :=
  let r := writeReport s slots
  (judgeStall (judgeMissing r.1 (reportActedOn slots)) r.2.2).forward .d (.back { cycle := cycle, slots := r.2.1 })

/-- The frame end of the return of an originated cycle: nothing is delivered and nothing forwarded (R24, R181, R183). -/
def finishOriginated (s : State) : State := judgeStall s 0

/-- The return frame enters processing: its number leaves the outstanding list and becomes the current cycle number (R9, R24, R187). -/
def enterProcessing (s : State) (cycle : CycleNumber) : State :=
  (s.setLink { s.link with returnInProcessing := true, outstanding := s.link.outstanding.filter (fun c => c != cycle) }).setCurrentCycle
    cycle

/-- A return cycle frame in processing: its number, whether it is the return of an originated cycle, the slots and the stages still to be
handled, and what the others left (R9, R11, R24). -/
structure BackFrame where
  cycle : CycleNumber
  originated : Bool
  todo : List Slot
  stages : List EndStage
  run : BackRun
  deriving DecidableEq, Repr

/-- A return cycle frame is taken into processing (R9, R24). -/
def startBack (s : State) (f : CycleFrame) : State × BackFrame :=
  (enterProcessing s f.cycle,
    { cycle := f.cycle, originated := s.link.outstanding.contains f.cycle, todo := f.slots, stages := endStages, run := BackRun.start })

/-- The frame leaves processing: REPORT slot, judgements and forwarding, or none of them for the return of an originated cycle, and then the
held-back writes (R9, R24, R40). -/
def endBack (s : State) (b : BackFrame) : State :=
  leaveProcessing (if b.originated then finishOriginated s else finishForwarded s b.cycle b.run.done)

/-- The next piece of a return frame: its next slot, the next stage of its frame-end work, or its end (R9, R11). -/
def handleReturn (s : State) (b : BackFrame) : State × Option BackFrame :=
  match b.todo, b.stages with
  | sl :: rest, _ =>
    let r := backSlot s b.run sl
    (r.1, some { b with todo := rest, run := r.2 })
  | [], g :: rest => (endStage b.run b.cycle s g, some { b with stages := rest })
  | [], [] => (endBack s b, none)

/-- The rest of a return frame with nothing between its pieces (R9, R11). -/
def finishReturn (s : State) (b : BackFrame) : State :=
  let r := backSlots s b.run b.todo
  endBack (b.stages.foldl (endStage r.2 b.cycle) r.1) { b with todo := [], stages := [], run := r.2 }

/-! ### Any frame by its bytes (R2 to R8) -/

/-- An outbound cycle frame with nothing between its pieces. -/
def plainOutbound (s : State) (f : CycleFrame) : State :=
  let p := startOut s f
  finishOut p.1 p.2

/-- A return cycle frame with nothing between its pieces. -/
def plainReturn (s : State) (f : CycleFrame) : State :=
  let p := startBack s f
  finishReturn p.1 p.2

/-- A frame that is not acted on is counted on its port and forwarded unchanged on the other (R4, R5, R6). (log 14) -/
def forwardBad (s : State) (p : Port) (bytes : List Byte) : State := (s.countBadFrame p).forward p (.asTaken bytes)

/-- A service request to the part as the U port takes it; one that a frame of 1 536 bytes cannot hold is discarded with its frame (R2,
R8, R25). (log 4) -/
def takeRequest (s : State) (r : Request) : State :=
  if r.params.length + 8 ≤ Config.maxFrameBytes then handOver s r else s.countBadFrame .u

/-- A well-formed frame by its kind and port (R7). -/
def takeGood (s : State) (p : Port) (f : Frame) (bytes : List Byte) : State :=
  if passesThrough p f then s.forward p (.asTaken bytes)
  else
    match f with
    | .cycleOut c => plainOutbound s c
    | .cycleBack c => plainReturn s c
    | .serviceReq _ tag code params => takeRequest s { tag := tag, code := code, params := params }
    | .serviceRep .. => s

/-- The bytes of one frame as a receive side takes them (R2 to R7). (log 4) -/
def takeFrame (s : State) (p : Port) (bytes : List Byte) : State :=
  match classify bytes with
  | .discarded => s.countBadFrame p
  | .badCheck => forwardBad s p bytes
  | .notWellFormed => forwardBad s p bytes
  | .good f => takeGood s p f bytes

/-! ### The two receive sides (R1, R27, log 10) -/

/-- The part while cycle frames are in processing: its state, and the frame that each receive side has in processing (R1). (log 10) -/
structure Mid where
  state : State
  out : Option OutFrame
  back : Option BackFrame
  deriving DecidableEq, Repr

/-- Neither side has a frame in processing. -/
def Mid.idle (s : State) : Mid := { state := s, out := none, back := none }

/-- Something that is no piece of a frame in processing. -/
def Mid.on (m : Mid) (f : State → State) : Mid := { m with state := f m.state }

/-- A receive side handles the next piece of its frame. -/
def Mid.handle (m : Mid) (p : Port) : Mid :=
  match p with
  | .u =>
    match m.out with
    | none => m
    | some g => { m with state := (handleOut m.state g).1, out := (handleOut m.state g).2 }
  | .d =>
    match m.back with
    | none => m
    | some b => { m with state := (handleReturn m.state b).1, back := (handleReturn m.state b).2 }

/-- A receive side handles the rest of its frame. -/
def Mid.finish (m : Mid) (p : Port) : Mid :=
  match p with
  | .u =>
    match m.out with
    | none => m
    | some g => { m with state := finishOut m.state g, out := none }
  | .d =>
    match m.back with
    | none => m
    | some b => { m with state := finishReturn m.state b, back := none }

/-- The kind in which a receive side processes a cycle frame (R7). -/
def cycleFrameOf (p : Port) (f : CycleFrame) : Frame :=
  match p with
  | .u => .cycleOut f
  | .d => .cycleBack f

/-- A receive side takes a cycle frame into processing, its handling of the frame before finished (R1); a frame that the line cannot carry
is taken as its bytes are (R2, R5; log 4). -/
def Mid.takes (m : Mid) (p : Port) (f : CycleFrame) : Mid :=
  let m1 := m.finish p
  if cycleFits f then
    match p with
    | .u => { m1 with state := (startOut m1.state f).1, out := some (startOut m1.state f).2 }
    | .d => { m1 with state := (startBack m1.state f).1, back := some (startBack m1.state f).2 }
  else m1.on fun s => takeFrame s p (frameBytes (cycleFrameOf p f))

/-- A timer expires (R18, R19, R122, R129). -/
def timerExpires (s : State) (t : Timer) : State :=
  match t with
  | .watch => watchTimerExpires s
  | .origination => originationTimerExpires s
  | .bridge => bridgeTimerExpires s
  | .reply => replyTimerExpires s
  | .phase arm => phaseTimerExpires s arm

/-- What comes between two pieces of a frame. What arrives on a port is taken when the port's receive side has finished its handling of the
frame before (R1). (log 10) -/
def midEvent (m : Mid) (e : MidEvent) : Mid :=
  match e with
  | .handOver tag code params => (m.finish .u).on fun s => takeRequest s { tag := tag, code := code, params := params }
  | .serve => m.on serveOldest
  | .takes p f => m.takes p f
  | .handles p => m.handle p
  | .bytes p frame => (m.finish p).on fun s => takeFrame s p frame
  | .discards p => (m.finish p).on fun s => s.countBadFrame p
  | .expiry t => m.on fun s => timerExpires s t
  | .leaves p => m.on fun s => frameLeaves s p

/-- The events of a list that fall where a test holds, in list order. -/
def eventsWhere (during : List Interleaved) (here : Nat → Bool) (m : Mid) : Mid :=
  (during.filter fun e => here e.slot).foldl (fun m e => midEvent m e.event) m

/-- A number of pieces of a port's frame, from the piece with a number on, each with the events that fall before it. (log 10) -/
def framePieces (p : Port) (during : List Interleaved) : Nat → Nat → Mid → Mid
  | _, 0, m => m
  | n, k + 1, m => framePieces p during (n + 1) k ((eventsWhere during (fun i => i == n) m).handle p)

/-- How many pieces a cycle frame has: its slots, the stages of a return frame, and its end (R9, R11). -/
def pieceCount (p : Port) (f : CycleFrame) : Nat :=
  match p with
  | .u => f.slots.length + 1
  | .d => f.slots.length + endStages.length + 1

/-- A cycle frame taken on a port, with what comes between its pieces and after it; a frame still in processing at the end of the list is
finished. (log 10) -/
def cycleFrameWith (p : Port) (s : State) (f : CycleFrame) (during : List Interleaved) : State :=
  let n := pieceCount p f
  let m := eventsWhere during (fun i => decide (n ≤ i)) (framePieces p during 0 n ((Mid.idle s).takes p f))
  ((m.finish .u).finish .d).state

end Sys2Proof.Machine
end

