-- ==== Sys2Proof/Machine/FrameCommands.lean ====
section
/-! DEFINITION. The meanings of the frame rows. A part held in reset takes no frame (R15). -/

namespace Sys2Proof.Machine

/-- FRAME_DISCARDED: a frame too long or cut short is counted on its port and gone (R2, R6). -/
def execFrameDiscarded (port : Port) (s : State) : Host.Outcome State Fault Refusal :=
  .next (s.unlessReset fun s => s.countBadFrame port)

/-- BAD_CHECK_FRAME: the bytes as a receive side takes them; with a bad check they are counted and forwarded unchanged (R4, R6). -/
def execBadCheckFrame (port : Port) (bytes : List Byte) (s : State) : Host.Outcome State Fault Refusal :=
  .next (s.unlessReset fun s => takeFrame s port bytes)

/-- NOT_WELL_FORMED_FRAME: the bytes as a receive side takes them; a good check over a wrong form is counted and forwarded unchanged (R5,
R6). -/
def execNotWellFormedFrame (port : Port) (bytes : List Byte) (s : State) : Host.Outcome State Fault Refusal :=
  .next (s.unlessReset fun s => takeFrame s port bytes)

/-- FORWARD_UNCHANGED: the bytes as a receive side takes them; a well-formed frame of R7 that is not acted on is forwarded (R7, R14). -/
def execForwardUnchanged (port : Port) (bytes : List Byte) (s : State) : Host.Outcome State Fault Refusal :=
  .next (s.unlessReset fun s => takeFrame s port bytes)

/-- OUTBOUND_CYCLE_FRAME (R7, R9, R10, R18, R21, R22). -/
def execOutboundCycleFrame (frame : CycleFrame) (during : List Interleaved) (s : State) : Host.Outcome State Fault Refusal :=
  .next (s.unlessReset fun s => cycleFrameWith .u s frame during)

/-- RETURN_CYCLE_FRAME (R7, R9, R11, R24, R40). -/
def execReturnCycleFrame (frame : CycleFrame) (during : List Interleaved) (s : State) : Host.Outcome State Fault Refusal :=
  .next (s.unlessReset fun s => cycleFrameWith .d s frame during)

/-- SERVICE_REQ_HANDED_OVER (R8, R25). -/
def execServiceReqHandedOver (tag code : Byte) (params : List Byte) (s : State) : Host.Outcome State Fault Refusal :=
  .next (s.unlessReset fun s => takeRequest s { tag := tag, code := code, params := params })

/-- FRAME_LEAVES_PORT (R14, R120). -/
def execFrameLeavesPort (port : Port) (s : State) : Host.Outcome State Fault Refusal :=
  .next (s.unlessReset fun s => frameLeaves s port)

end Sys2Proof.Machine
end

