-- ==== Sys2Proof/Machine/RequestCommands.lean ====
section
/-! DEFINITION. The meanings of the request rows: the named request reaches the service block with a tag and parameter bytes, and is taken
and carried out as one step unless requests wait before it (R25, R26, R41; log 11). -/

namespace Sys2Proof.Machine

/-- A request reaches the service block; one that a frame of 1 536 bytes cannot hold is discarded with its frame (R2, R8). (logs 4, 11) -/
def arriveRequest (s : State) (r : Request) : State :=
  if r.params.length + 8 ≤ Config.maxFrameBytes then requestStep s r else s.countBadFrame .u

/-- TABLE_OPEN (R34). -/
def execTableOpen (tag : Byte) (params : List Byte) (s : State) : Host.Outcome State Fault Refusal :=
  .next (s.unlessReset fun s => arriveRequest s { tag := tag, code := codeTableOpen, params := params })

/-- TABLE_DATA (R35 to R37, R40). -/
def execTableData (tag : Byte) (params : List Byte) (s : State) : Host.Outcome State Fault Refusal :=
  .next (s.unlessReset fun s => arriveRequest s { tag := tag, code := codeTableData, params := params })

/-- TABLE_CONTINUE (R38). -/
def execTableContinue (tag : Byte) (params : List Byte) (s : State) : Host.Outcome State Fault Refusal :=
  .next (s.unlessReset fun s => arriveRequest s { tag := tag, code := codeTableContinue, params := params })

/-- TABLE_READ (R42). -/
def execTableRead (tag : Byte) (params : List Byte) (s : State) : Host.Outcome State Fault Refusal :=
  .next (s.unlessReset fun s => arriveRequest s { tag := tag, code := codeTableRead, params := params })

/-- CHANGE_PROBE (R126, R127). -/
def execChangeProbe (tag : Byte) (params : List Byte) (s : State) : Host.Outcome State Fault Refusal :=
  .next (s.unlessReset fun s => arriveRequest s { tag := tag, code := codeChangeProbe, params := params })

/-- ABORT_CHANGE (R143). -/
def execAbortChange (tag : Byte) (params : List Byte) (s : State) : Host.Outcome State Fault Refusal :=
  .next (s.unlessReset fun s => arriveRequest s { tag := tag, code := codeAbortChange, params := params })

/-- STOP_ARM (R100). -/
def execStopArm (tag : Byte) (params : List Byte) (s : State) : Host.Outcome State Fault Refusal :=
  .next (s.unlessReset fun s => arriveRequest s { tag := tag, code := codeStopArm, params := params })

/-- RELEASE_ARM (R101, R102). -/
def execReleaseArm (tag : Byte) (params : List Byte) (s : State) : Host.Outcome State Fault Refusal :=
  .next (s.unlessReset fun s => arriveRequest s { tag := tag, code := codeReleaseArm, params := params })

/-- PLAN_START (R164). -/
def execPlanStart (tag : Byte) (params : List Byte) (s : State) : Host.Outcome State Fault Refusal :=
  .next (s.unlessReset fun s => arriveRequest s { tag := tag, code := codePlanStart, params := params })

/-- PLAN_STOP (R165). -/
def execPlanStop (tag : Byte) (params : List Byte) (s : State) : Host.Outcome State Fault Refusal :=
  .next (s.unlessReset fun s => arriveRequest s { tag := tag, code := codePlanStop, params := params })

/-- PLAN_RESUME (R166). -/
def execPlanResume (tag : Byte) (params : List Byte) (s : State) : Host.Outcome State Fault Refusal :=
  .next (s.unlessReset fun s => arriveRequest s { tag := tag, code := codePlanResume, params := params })

/-- SET_CREDITS (R177). -/
def execSetCredits (tag : Byte) (params : List Byte) (s : State) : Host.Outcome State Fault Refusal :=
  .next (s.unlessReset fun s => arriveRequest s { tag := tag, code := codeSetCredits, params := params })

/-- ADD_CREDITS (R177). -/
def execAddCredits (tag : Byte) (params : List Byte) (s : State) : Host.Outcome State Fault Refusal :=
  .next (s.unlessReset fun s => arriveRequest s { tag := tag, code := codeAddCredits, params := params })

/-- READ_NOTICES (R189). -/
def execReadNotices (tag : Byte) (params : List Byte) (s : State) : Host.Outcome State Fault Refusal :=
  .next (s.unlessReset fun s => arriveRequest s { tag := tag, code := codeReadNotices, params := params })

/-- SET_NOTICE_MASK (R190). -/
def execSetNoticeMask (tag : Byte) (params : List Byte) (s : State) : Host.Outcome State Fault Refusal :=
  .next (s.unlessReset fun s => arriveRequest s { tag := tag, code := codeSetNoticeMask, params := params })

/-- READ_STATUS (R191). -/
def execReadStatus (tag : Byte) (params : List Byte) (s : State) : Host.Outcome State Fault Refusal :=
  .next (s.unlessReset fun s => arriveRequest s { tag := tag, code := codeReadStatus, params := params })

/-- RESTART_RUN (R43). -/
def execRestartRun (tag : Byte) (params : List Byte) (s : State) : Host.Outcome State Fault Refusal :=
  .next (s.unlessReset fun s => arriveRequest s { tag := tag, code := codeRestartRun, params := params })

/-- UNLISTED_REQUEST_CODE: BAD_FORMAT, and an OPEN window is broken (R26). -/
def execUnlistedRequestCode (tag code : Byte) (params : List Byte) (s : State) : Host.Outcome State Fault Refusal :=
  .next (s.unlessReset fun s => arriveRequest s { tag := tag, code := code, params := params })

end Sys2Proof.Machine
end

