-- ==== Sys2Proof/Machine/ResetCommands.lean ====
section
/-! DEFINITION. The meanings of the power and reset rows, and what the part does between commands. -/

namespace Sys2Proof.Machine

/-- Every block in its reset state: what is outside the part (the waiting commands, the level of the RESET pin) and the model's count of
replies that drew on free values stay (R15, R44; logs 6, 9). -/
def State.cleared (s : State) (pin : Bool) : State :=
  { State.reset with pending := s.pending, freeIndex := s.freeIndex, resetPin := pin }

/-- POWER_UP: every frame and request is discarded, every block is in its reset state (R15, R44). -/
def execPowerUp (s : State) : Host.Outcome State Fault Refusal := .next (s.cleared s.resetPin)

/-- RESET_PIN: the same, and the part is held in reset until RESET_END (R15). (log 9) -/
def execResetPin (s : State) : Host.Outcome State Fault Refusal := .next (s.cleared true)

/-- RESET_END: the RESET pin is deasserted, and the receive sides take frames again (R15). (log 9) -/
def execResetEnd (s : State) : Host.Outcome State Fault Refusal := .next { s with resetPin := false }

/-! ### Between commands (log 8) -/

/-- The service block can take its oldest waiting request (R25, R41). -/
def canServe (s : State) : Bool :=
  match s.service.requests with
  | [] => false
  | r :: _ => !mustWait s r

/-- The expiries of the running timers. -/
def runningTimers (s : State) : List Nat :=
  [s.link.watchTimer, s.link.originationTimer, s.link.bridgeTimer, s.rack.replyTimer, s.sequencer.a.phaseTimer,
    s.sequencer.b.phaseTimer].filterMap id

/-- A running timer has reached its expiry, which its row is to take. -/
def timerDue (s : State) : Bool := (runningTimers s).any (fun t => decide (t ≤ s.now))

/-- DESIGN CHOICE (log 8), unsafe. With no command waiting the service block takes its oldest request; otherwise the part's reference
advances by 1 µs, but not past the expiry of a running timer. A part held in reset does nothing. -/
def idleStep (s : State) : State :=
  if s.resetPin then s
  else if canServe s then serveOldest s
  else if timerDue s then s
  else { s with now := s.now + 1 }

end Sys2Proof.Machine
end

