-- ==== Sys2Proof/Machine/TimerCommands.lean ====
section
/-! DEFINITION. The meanings of the timer rows. The expiry of a timer brings the part's reference to it; a stopped timer does not
expire. -/

namespace Sys2Proof.Machine

/-- WATCH_TIMER_EXPIRY (R18, R19, R20). -/
def execWatchTimerExpiry (s : State) : Host.Outcome State Fault Refusal := .next (s.unlessReset watchTimerExpires)

/-- ORIGINATION_TIMER_EXPIRY (R19, R20, R23). -/
def execOriginationTimerExpiry (s : State) : Host.Outcome State Fault Refusal := .next (s.unlessReset originationTimerExpires)

/-- BRIDGE_TIMER_EXPIRY (R19, R20). -/
def execBridgeTimerExpiry (s : State) : Host.Outcome State Fault Refusal := .next (s.unlessReset bridgeTimerExpires)

/-- REPLY_TIMER_EXPIRY (R122). -/
def execReplyTimerExpiry (s : State) : Host.Outcome State Fault Refusal := .next (s.unlessReset replyTimerExpires)

/-- PHASE_TIMER_EXPIRY (R129). -/
def execPhaseTimerExpiry (arm : Arm) (s : State) : Host.Outcome State Fault Refusal :=
  .next (s.unlessReset fun s => phaseTimerExpires s arm)

end Sys2Proof.Machine
end

