-- ==== Sys2Proof/Machine/Dispatch.lean ====
section
/-! DEFINITION. The meaning of every command, one arm for each row of the table. -/

namespace Sys2Proof.Machine

def exec (i : Instr) (s : State) : Host.Outcome State Fault Refusal :=
  match i with
  | .powerUp => Sys2Proof.Machine.execPowerUp s
  | .resetPin => Sys2Proof.Machine.execResetPin s
  | .frameDiscarded port => Sys2Proof.Machine.execFrameDiscarded port s
  | .badCheckFrame port bytes => Sys2Proof.Machine.execBadCheckFrame port bytes s
  | .notWellFormedFrame port bytes => Sys2Proof.Machine.execNotWellFormedFrame port bytes s
  | .forwardUnchanged port bytes => Sys2Proof.Machine.execForwardUnchanged port bytes s
  | .outboundCycleFrame frame during => Sys2Proof.Machine.execOutboundCycleFrame frame during s
  | .returnCycleFrame frame during => Sys2Proof.Machine.execReturnCycleFrame frame during s
  | .serviceReqHandedOver tag code params => Sys2Proof.Machine.execServiceReqHandedOver tag code params s
  | .frameLeavesPort port => Sys2Proof.Machine.execFrameLeavesPort port s
  | .watchTimerExpiry => Sys2Proof.Machine.execWatchTimerExpiry s
  | .originationTimerExpiry => Sys2Proof.Machine.execOriginationTimerExpiry s
  | .bridgeTimerExpiry => Sys2Proof.Machine.execBridgeTimerExpiry s
  | .replyTimerExpiry => Sys2Proof.Machine.execReplyTimerExpiry s
  | .phaseTimerExpiry arm => Sys2Proof.Machine.execPhaseTimerExpiry arm s
  | .tableOpen tag params => Sys2Proof.Machine.execTableOpen tag params s
  | .tableData tag params => Sys2Proof.Machine.execTableData tag params s
  | .tableContinue tag params => Sys2Proof.Machine.execTableContinue tag params s
  | .tableRead tag params => Sys2Proof.Machine.execTableRead tag params s
  | .changeProbe tag params => Sys2Proof.Machine.execChangeProbe tag params s
  | .abortChange tag params => Sys2Proof.Machine.execAbortChange tag params s
  | .stopArm tag params => Sys2Proof.Machine.execStopArm tag params s
  | .releaseArm tag params => Sys2Proof.Machine.execReleaseArm tag params s
  | .planStart tag params => Sys2Proof.Machine.execPlanStart tag params s
  | .planStop tag params => Sys2Proof.Machine.execPlanStop tag params s
  | .planResume tag params => Sys2Proof.Machine.execPlanResume tag params s
  | .setCredits tag params => Sys2Proof.Machine.execSetCredits tag params s
  | .addCredits tag params => Sys2Proof.Machine.execAddCredits tag params s
  | .readNotices tag params => Sys2Proof.Machine.execReadNotices tag params s
  | .setNoticeMask tag params => Sys2Proof.Machine.execSetNoticeMask tag params s
  | .readStatus tag params => Sys2Proof.Machine.execReadStatus tag params s
  | .restartRun tag params => Sys2Proof.Machine.execRestartRun tag params s
  | .unlistedRequestCode tag code params => Sys2Proof.Machine.execUnlistedRequestCode tag code params s
  | .resetEnd => Sys2Proof.Machine.execResetEnd s

end Sys2Proof.Machine
end

