-- ==== Sys2Proof/WellFormed.lean ====
section
/-! DEFINITION. Which commands are well-formed: a command whose operands are those its row names. `exec` has a meaning for the others too:
what the line or the service block makes of such bytes. -/

namespace Sys2Proof

open Sys2Proof.Machine

/-- Parameters that a frame of 1 536 bytes can carry (R2, 1.9). -/
def paramsFit (params : List Byte) : Bool := decide (params.length + 8 ≤ Config.maxFrameBytes)

/-- What comes between two pieces of a frame is something the line can carry. -/
def MidEvent.wellFormed (e : MidEvent) : Bool :=
  match e with
  | .handOver _ _ params => paramsFit params
  | .serve => true
  | .takes _ f => cycleFits f
  | .handles _ => true
  | .bytes _ frame => classify frame != .discarded
  | .discards _ => true
  | .expiry _ => true
  | .leaves _ => true

/-- The port whose receive side an event is work of, if there is one. -/
def MidEvent.port : MidEvent → Option Port
  | .handOver _ _ _ => some .u
  | .takes p _ => some p
  | .handles p => some p
  | .bytes p _ => some p
  | .discards p => some p
  | .serve | .expiry _ | .leaves _ => none

/-- What comes between the pieces of a frame falls at one of them or after the frame, and is no work of the frame's own receive side, which
has one frame at a time (R1). -/
def interleavedFits (p : Port) (pieces : Nat) (during : List Interleaved) : Bool :=
  during.all fun e => decide (e.slot ≤ pieces) && e.event.wellFormed && (e.slot == pieces || e.event.port != some p)

/-- The frame by its bytes is one that its port forwards unchanged (R7). -/
def forwardedAsTaken (port : Port) (bytes : List Byte) : Bool :=
  match classify bytes with
  | .good f => passesThrough port f
  | _ => false

/-- The operands are those the command's row names. -/
def Instr.wellFormed (i : Instr) : Bool :=
  match i with
  | .powerUp => true
  | .resetPin => true
  | .frameDiscarded _ => true
  | .badCheckFrame _ bytes => classify bytes == .badCheck
  | .notWellFormedFrame _ bytes => classify bytes == .notWellFormed
  | .forwardUnchanged port bytes => forwardedAsTaken port bytes
  | .outboundCycleFrame frame during => cycleFits frame && interleavedFits .u (pieceCount .u frame) during
  | .returnCycleFrame frame during => cycleFits frame && interleavedFits .d (pieceCount .d frame) during
  | .serviceReqHandedOver _ _ params => paramsFit params
  | .frameLeavesPort _ => true
  | .watchTimerExpiry => true
  | .originationTimerExpiry => true
  | .bridgeTimerExpiry => true
  | .replyTimerExpiry => true
  | .phaseTimerExpiry _ => true
  | .tableOpen _ params => paramsFit params
  | .tableData _ params => paramsFit params
  | .tableContinue _ params => paramsFit params
  | .tableRead _ params => paramsFit params
  | .changeProbe _ params => paramsFit params
  | .abortChange _ params => paramsFit params
  | .stopArm _ params => paramsFit params
  | .releaseArm _ params => paramsFit params
  | .planStart _ params => paramsFit params
  | .planStop _ params => paramsFit params
  | .planResume _ params => paramsFit params
  | .setCredits _ params => paramsFit params
  | .addCredits _ params => paramsFit params
  | .readNotices _ params => paramsFit params
  | .setNoticeMask _ params => paramsFit params
  | .readStatus _ params => paramsFit params
  | .restartRun _ params => paramsFit params
  | .unlistedRequestCode _ code params => !listedCode code && paramsFit params
  | .resetEnd => true

end Sys2Proof
end

