-- ==== Sys2Proof/Safety.lean ====
section
/-! DEFINITION. What counts as a safe state, in the terms the claims use: the invariants the chapters state, and the vocabulary of the
claims about requests, replies and frames. -/

namespace Sys2Proof.Machine

/-! ### Vocabulary of the claims -/

/-- The part takes commands, no request waits and no TABLE DATA is held back: a request is taken as it arrives. -/
abbrev State.Ready (s : State) : Prop := s.resetPin = false ∧ s.service.requests = [] ∧ s.service.heldReply = none

/-- A port's transmit queue has room (R14). -/
abbrev State.Room (s : State) (p : Port) : Prop :=
  (match p with | .u => s.link.txU | .d => s.link.txD).length < 8

/-- The OPEN window broken, its values saved (R38). -/
def State.windowBroken (s : State) : State :=
  { s with service := { s.service with window := match s.service.window with | .opened w => .broken w | w => w } }

/-- The reply at the back of the U port's transmit queue, or lost to a full one (R14, R27). -/
def State.answered (s : State) (tag code : Byte) (outcome : ReplyOutcome) (reason : Reason) (data : List Byte) : State :=
  { s with link := { s.link with
      txU := if s.link.txU.length < 8 then
          s.link.txU ++ [.reply { tag := tag, code := code, answer := { outcome := outcome, reason := reason, data := data } }]
        else s.link.txU } }

/-- A bad frame counted on its port, with BAD_FRAME raised (R6). -/
def State.badFrameOn (s : State) (p : Port) : State :=
  { s with
    link := match p with
      | .u => { s.link with badU := min 65535 (s.link.badU + 1) }
      | .d => { s.link with badD := min 65535 (s.link.badD + 1) }
    notices := s.notices.enter .badFrame .none 0 }

/-- The request that a request row hands to the service block (R29); the other rows hand none. -/
def requestOf : Instr → Option Request
  | .tableOpen tag params => some { tag := tag, code := 0x20, params := params }
  | .tableData tag params => some { tag := tag, code := 0x21, params := params }
  | .tableContinue tag params => some { tag := tag, code := 0x22, params := params }
  | .tableRead tag params => some { tag := tag, code := 0x23, params := params }
  | .changeProbe tag params => some { tag := tag, code := 0x30, params := params }
  | .abortChange tag params => some { tag := tag, code := 0x31, params := params }
  | .stopArm tag params => some { tag := tag, code := 0x32, params := params }
  | .releaseArm tag params => some { tag := tag, code := 0x33, params := params }
  | .planStart tag params => some { tag := tag, code := 0x40, params := params }
  | .planStop tag params => some { tag := tag, code := 0x41, params := params }
  | .planResume tag params => some { tag := tag, code := 0x42, params := params }
  | .setCredits tag params => some { tag := tag, code := 0x50, params := params }
  | .addCredits tag params => some { tag := tag, code := 0x51, params := params }
  | .readNotices tag params => some { tag := tag, code := 0x60, params := params }
  | .setNoticeMask tag params => some { tag := tag, code := 0x61, params := params }
  | .readStatus tag params => some { tag := tag, code := 0x62, params := params }
  | .restartRun tag params => some { tag := tag, code := 0x70, params := params }
  | .unlistedRequestCode tag code params => some { tag := tag, code := code, params := params }
  | .powerUp | .resetPin | .frameDiscarded _ | .badCheckFrame _ _ | .notWellFormedFrame _ _ | .forwardUnchanged _ _ => none
  | .outboundCycleFrame _ _ | .returnCycleFrame _ _ | .serviceReqHandedOver _ _ _ | .frameLeavesPort _ => none
  | .watchTimerExpiry | .originationTimerExpiry | .bridgeTimerExpiry | .replyTimerExpiry | .phaseTimerExpiry _ | .resetEnd => none

/-- A frame at the back of a port's transmit queue. -/
def State.sentOn (s : State) (p : Port) (t : TxFrame) : State :=
  match p with
  | .u => { s with link := { s.link with txU := s.link.txU ++ [t] } }
  | .d => { s with link := { s.link with txD := s.link.txD ++ [t] } }

/-- The frames that a port forwards unchanged, kind by kind (R7). -/
def unchangedOn (p : Port) (f : Frame) : Prop :=
  match p, f with
  | .u, .cycleOut _ => False
  | .u, .cycleBack _ => True
  | .u, .serviceReq destination _ _ _ => destination ≠ 62
  | .u, .serviceRep .. => True
  | .d, .cycleOut _ => True
  | .d, .cycleBack _ => False
  | .d, .serviceReq .. => True
  | .d, .serviceRep .. => True

/-- The data of a TABLE DATA reply that wrote nothing: three zeros, the pointer (0 for a CLOSED window) and the window state (R37). -/
def State.nothingWrittenData (s : State) : List Byte :=
  match s.service.window with
  | .closed => [0, 0, 0, 0, 0, 0]
  | .opened w => [0, 0, 0] ++ leBytes 2 w.pointer ++ [1]
  | .broken w => [0, 0, 0] ++ leBytes 2 w.pointer ++ [2]

/-- The parameter lengths of the requests of the list, TABLE DATA apart, by code (1.9, R29). -/
def listedLengths : List (Byte × Nat) :=
  [(0x20, 6), (0x22, 0), (0x23, 4), (0x30, 4), (0x31, 1), (0x32, 1), (0x33, 1), (0x40, 4), (0x41, 1), (0x42, 1), (0x50, 1), (0x51, 1),
    (0x60, 1), (0x61, 4), (0x62, 1), (0x70, 0)]

/-- One bit of one byte is inverted. -/
def flipBit (bytes : List Byte) (i k : Nat) : List Byte := bytes.modify i (fun b => b ^^^ (1 <<< k))

/-- The events between the pieces of a frame let the service block take no request. -/
def noServe (during : List Interleaved) : Bool := during.all (fun e => e.event != .serve)

/-- The command brings no RELEASE ARM to be carried out (R101): no such request, and no waiting request taken within a frame. -/
def bringsNoRelease (c : Instr) : Bool :=
  match c with
  | .outboundCycleFrame _ during => noServe during
  | .returnCycleFrame _ during => noServe during
  | c => match requestOf c with
    | some r => r.code != 0x33
    | none => true

/-- The loaded tables and the SETUP record stand as they stood. -/
def State.SameTables (s t : State) : Prop :=
  t.setup = s.setup ∧ t.channels = s.channels ∧ t.axes = s.axes ∧ t.map = s.map ∧ t.zones = s.zones ∧ t.library = s.library
    ∧ t.plan = s.plan

/-- A sequencer is on the way back of a failed change, or IDLE (R141). -/
def SeqState.failed : SeqState → Bool
  | .idle | .winding | .clearing | .reclosing => true
  | _ => false

/-- The slots of two frames agree in number, order, address, kind and length (R9). -/
def sameShape (f g : List Slot) : Bool :=
  f.map (fun sl => (sl.address, sl.kind, sl.payload.length)) == g.map (fun sl => (sl.address, sl.kind, sl.payload.length))

/-- A frame's slots as the part leaves them: the same in number, order, address, kind and length, and rewritten only where their kind is
one of some kinds (R9, R13). -/
def onlyRewrites (kinds : List Byte) (f g : List Slot) : Prop :=
  sameShape f g = true ∧ List.Forall₂ (fun a b => a.kind ∉ kinds → b = a) f g

/-- Up to a piece of a port's frame, the events of a list are no work of that port's receive side, which has one frame at a time (R1). -/
abbrev othersOnly (p : Port) (piece : Nat) (during : List Interleaved) : Prop :=
  ∀ e ∈ during, e.slot ≤ piece → e.event.port ≠ some p

/-- The part when all pieces of a command's cycle frame but its end are handled, and what falls before its end has come (R9, R11). -/
def beforeEnd (p : Port) (s : State) (f : CycleFrame) (during : List Interleaved) : Mid :=
  eventsWhere during (fun i => i == pieceCount p f - 1) (framePieces p during 0 (pieceCount p f - 1) ((Mid.idle s).takes p f))

/-- What the command leaves: the end of its frame, what falls after it, and the rest of frames still in processing (R1; log 10). -/
def afterEnd (p : Port) (f : CycleFrame) (during : List Interleaved) (m : Mid) : State :=
  (((eventsWhere during (fun i => decide (pieceCount p f ≤ i)) (m.handle p)).finish .u).finish .d).state

/-- A forwarded return frame of one REPORT slot, from the state in which the slot is written to the state it leaves: the smallest of depth,
credits and record spaces is delivered, the oldest records in order; credits and depth as they then stand, and the number delivered, are in
the header; undelivered spaces are zero, and the bytes after the spaces stay as taken (R178, R179; log 15 for the length of a space). -/
def State.Delivered (s t : State) (cycle : CycleNumber) (payload : List Byte) : Prop :=
  ∃ written,
    t.link.txU = s.link.txU ++ [.back { cycle := cycle, slots := [{ address := 62, kind := 0x16, payload := written }] }] ∧
    let spaces := if payload.length < 52 then 0 else if payload.length < 88 then 1 else 2
    let n := min (min s.queue.records.length s.queue.credits) spaces
    t.queue.records = s.queue.records.drop n ∧ t.queue.credits = s.queue.credits - n ∧
    t.queue.nextSequence = s.queue.nextSequence ∧ t.queue.missingMark = false ∧
    written.length = payload.length ∧
    written.getD 2 0 = byteOf (s.queue.records.length - n) ∧ written.getD 3 0 = byteOf (s.queue.credits - n) ∧
    written.getD 12 0 = byteOf n ∧
    (written.drop 16).take (36 * n) = (s.queue.records.take n).flatMap recordBytes ∧
    (written.drop (16 + 36 * n)).take (36 * (spaces - n)) = List.replicate (36 * (spaces - n)) 0 ∧
    written.drop (16 + 36 * spaces) = payload.drop (16 + 36 * spaces)

/-- The scale position of an axis plus its thermal term, for an axis that is computed in a POSITION slot: head OK or WEAK, and an AXIS entry
in use (R66 to R68). -/
def State.thermalPosition (s : State) (arm : Arm) (payload : List Byte) (ax : Axis) : Option Int :=
  match Table.entry s.axes (axisIndex arm ax) with
  | none => none
  | some e =>
    if 2 ≤ (payload.getD 15 0).toNat / 4 ^ axisCode ax % 4 then none
    else
      let ps := roundDiv ((sField payload (5 * axisCode ax) 5 - e.origin) * e.resolution) 1000
      some (ps + roundDiv ((ps - e.anchor) * e.coefficient * ((axisTemp s (axisIndex arm ax) e).1 - 20000)) (10 ^ 12))

/-- The coupling term of an axis and whether it flags STALE: from the coupled axis's thermal position in the slot, else from the one the
record holds, else 0 (R70). -/
def State.couplingOf (s : State) (arm : Arm) (payload : List Byte) (e : AxisEntry) : Int × Bool :=
  match e.coupled with
  | none => (0, false)
  | some c =>
    match s.thermalPosition arm payload (axisOf c), ((s.head.get arm).record.get (axisOf c)).thermal with
    | some p, _ => (roundDiv (e.coupling * p) (10 ^ 9), false)
    | none, some p => (roundDiv (e.coupling * p) (10 ^ 9), true)
    | none, none => (0, true)

/-- A FAIL cycle of an arm: the run gains one up to 255; at or above the arm's limit with the mark clear the mark is set and an arm that is
not STOPPED is stopped with cause SCALE_FAIL; an axis record is as given (R77, R79). -/
def State.FailCounted (s t : State) (arm : Arm) (record : Triple HeadAxis) : Prop :=
  let run := min 255 ((s.head.get arm).failRun + 1)
  let due := s.setup.scaleFailLimit.get arm ≤ run ∧ (s.head.get arm).stopRequested = false
  (t.head.get arm).record = record ∧ (t.head.get arm).failRun = run ∧
  (due → (t.head.get arm).stopRequested = true ∧
    t.supervision.get arm =
      if (s.supervision.get arm).state = .stopped then s.supervision.get arm
      else { s.supervision.get arm with state := .stopped, cause := .scaleFail }) ∧
  (¬ due → (t.head.get arm).stopRequested = (s.head.get arm).stopRequested ∧ t.supervision = s.supervision)

/-! ### TARGET and RACK_OUT slots as they leave (R12, R13, R23, R92 to R97, R120) -/

/-- A TARGET payload as the part leaves it: drive enable, hold marker, and the three targets, or the targets as taken; every other bit as
taken (R13). -/
def TargetWritten (taken written : List Byte) (enable marker : Bool) (targets : Option (Triple Int)) : Prop :=
  written.length = taken.length ∧ bitOf (written.headD 0) 0 = enable ∧ bitOf (written.headD 0) 1 = marker ∧
  (written.headD 0).toNat / 4 = (taken.headD 0).toNat / 4 ∧
  (match targets with
    | some p => (written.drop 1).take 15 = leIntBytes 5 p.x ++ leIntBytes 5 p.y ++ leIntBytes 5 p.z
    | none => (written.drop 1).take 15 = (taken.drop 1).take 15) ∧
  written.drop 16 = taken.drop 16

/-- A slot is the first of its kind and address in a frame, so that it is the one acted on (R12). -/
abbrev firstOfRow (slots : List Slot) (n : Nat) (sl : Slot) : Prop :=
  slots[n]? = some sl ∧ ∀ x ∈ slots.take n, x.kind = sl.kind → x.address ≠ sl.address

/-- A slot is the TARGET slot of an arm that is acted on (R10, R12). -/
abbrev State.ActsOnTarget (s : State) (arm : Arm) (slots : List Slot) (n : Nat) (sl : Slot) : Prop :=
  s.setup.armNode.a ≠ s.setup.armNode.b ∧ firstOfRow slots n sl ∧ sl.kind = 0x10 ∧ sl.address.toNat = s.setup.armNode.get arm ∧
    16 ≤ sl.payload.length

/-- A slot is the RACK_OUT slot that is acted on (R10, R12). -/
abbrev State.ActsOnRackOut (s : State) (slots : List Slot) (n : Nat) (sl : Slot) : Prop :=
  firstOfRow slots n sl ∧ sl.kind = 0x14 ∧ sl.address.toNat = s.setup.rackNode ∧ 4 ≤ sl.payload.length

/-- A frame has been placed at the back of the D queue with a TARGET slot so written, if the queue had room. -/
def State.SentTarget (s t : State) (n : Nat) (sl : Slot) (enable marker : Bool) (targets : Option (Triple Int)) : Prop :=
  s.Room .d → ∃ g carries w, t.link.txD = s.link.txD ++ [.out g carries] ∧ g.slots[n]? = some { sl with payload := w } ∧
    TargetWritten sl.payload w enable marker targets

/-- The TARGET slot of an arm in an originated frame: the hold position with the hold marker set, drive enable cleared for a STOPPED arm
and as the template has it otherwise; without a hold position the template's targets, drive enable and hold marker clear (R23). -/
def State.SentOriginated (s t : State) (n : Nat) (sl : Slot) (v : Supervision) : Prop :=
  match v.setpoint with
  | some p => s.SentTarget t n sl (bitOf (sl.payload.headD 0) 0 && v.state != .stopped) true (some p)
  | none => s.SentTarget t n sl false false none

/-- The RACK_OUT slot of a frame composed with a rack channel: a PENDING message is written and carried, or SENT with the reply timer
started when the frame meets a full queue; otherwise the empty payload is written and nothing is carried (R120). -/
def State.SentRackOut (s t : State) (r : Rack) (n : Nat) (sl : Slot) : Prop :=
  (∀ m, r.message = some m → m.phase = .pending →
    (s.Room .d → ∃ g, t.link.txD = s.link.txD ++ [.out g (some n)] ∧
      g.slots[n]? = some { sl with payload :=
        [1, byteOf m.tag.toNat, match m.command with | .openPort => 1 | .closePort => 2, byteOf m.station] ++ sl.payload.drop 4 } ∧
      t.rack.message = some { m with phase := .carried }) ∧
    (¬ s.Room .d → t.rack.message = some { m with phase := .sent } ∧ t.rack.replyTimer = some (t.now + s.setup.replyWait * 1000))) ∧
  ((∀ m, r.message = some m → m.phase ≠ .pending) → s.Room .d → ∃ g, t.link.txD = s.link.txD ++ [.out g none] ∧
    g.slots[n]? = some { sl with payload := [0, 0, 0, 0] ++ sl.payload.drop 4 })

/-- The part as a slot of an outbound frame with nothing between its slots finds it. -/
def State.atSlot (s : State) (f : CycleFrame) (n : Nat) : State := (framePieces .u [] 0 n ((Mid.idle s).takes .u f)).state

/-- A target of a TARGET payload, axis by axis (1.9). -/
def targetOn (payload : List Byte) (ax : Axis) : Int := sField payload (1 + 5 * axisCode ax) 5

/-- The clamped target of an axis: within the max step of the setpoint, then within ±(2^39 − 1) nm (R93). -/
def State.clampedOn (s : State) (arm : Arm) (reference : Triple Int) (payload : List Byte) (ax : Axis) : Int :=
  let step : Int := match Table.entry s.axes (axisIndex arm ax) with
    | some e => e.maxStep * 1000
    | none => 0
  max (-549755813887) (min 549755813887 (max (reference.get ax - step) (min (reference.get ax + step) (targetOn payload ax))))

/-- The clamped targets (R93). -/
def State.clampedAll (s : State) (arm : Arm) (reference : Triple Int) (payload : List Byte) : Triple Int :=
  ⟨s.clampedOn arm reference payload .x, s.clampedOn arm reference payload .y, s.clampedOn arm reference payload .z⟩

/-- How many targets the clamp changes (R93). -/
def State.clampsOn (s : State) (arm : Arm) (reference : Triple Int) (payload : List Byte) : Nat :=
  ([Axis.x, .y, .z].filter fun ax => s.clampedOn arm reference payload ax != targetOn payload ax).length

/-! ### The zone check, axis by axis (R85 to R90, R94, R95) -/

/-- A coordinate of an arm's point in the common frame (R85). -/
def State.commonOn (s : State) (arm : Arm) (p : Triple Int) (ax : Axis) : Int :=
  match arm, s.setup.signB.get ax with
  | .a, _ => p.get ax
  | .b, .plus => s.setup.offsetB.get ax + p.get ax
  | .b, .minus => s.setup.offsetB.get ax - p.get ax

/-- Half the edge of an arm box in nm: head radius plus the envelope radius that the active probe record gives (R86). -/
def State.reachOf (s : State) (arm : Arm) : Int :=
  (s.setup.headRadius + (match s.active.get arm with
    | .none => 0
    | .unknown _ => s.setup.unknownEnvelope
    | .known i => match Table.entry s.library i with
      | some e => e.envelope
      | none => 0) : Nat) * 1000000

/-- The lower bound of an arm box at a point of the arm's own frame (R86). -/
def State.lowOn (s : State) (arm : Arm) (p : Triple Int) (ax : Axis) : Int := s.commonOn arm p ax - s.reachOf arm

/-- Its upper bound (R86). -/
def State.highOn (s : State) (arm : Arm) (p : Triple Int) (ax : Axis) : Int := s.commonOn arm p ax + s.reachOf arm

/-- A zone of a kind applies to an arm (R89). -/
def ZoneEntry.isFor (z : ZoneEntry) (arm : Arm) (kind : ZoneKind) : Prop :=
  z.kind = kind ∧ z.enabled = true ∧ (z.scope = .both ∨ (z.scope = .onlyA ∧ arm = .a) ∨ (z.scope = .onlyB ∧ arm = .b))

/-- An arm box lies within a zone (R87). -/
def State.boxInside (s : State) (arm : Arm) (p : Triple Int) (z : ZoneEntry) : Prop :=
  ∀ ax, z.minimum.get ax * 1000 ≤ s.lowOn arm p ax ∧ s.highOn arm p ax ≤ z.maximum.get ax * 1000

/-- An arm box meets a zone, a touched face included (R87). -/
def State.boxMeets (s : State) (arm : Arm) (p : Triple Int) (z : ZoneEntry) : Prop :=
  ∀ ax, s.lowOn arm p ax ≤ z.maximum.get ax * 1000 ∧ z.minimum.get ax * 1000 ≤ s.highOn arm p ax

/-- The box lies within the corridor that the arm's sequencer holds open: the first that applies to the arm for its station (R89, R90). -/
def State.inOpenCorridor (s : State) (arm : Arm) (p : Triple Int) : Prop :=
  ∃ station before q after, (s.sequencer.get arm).corridor = some station ∧ s.zones = before ++ q :: after ∧
    q.2.isFor arm .corridor ∧ q.2.station = station ∧ (∀ x ∈ before, ¬ (x.2.isFor arm .corridor ∧ x.2.station = station)) ∧
    s.boxInside arm p q.2

/-- Where an arm's box stands: at its setpoint, else at its corrected head position (R95). -/
def State.standsAt (s : State) (arm : Arm) (p : Triple Int) : Prop :=
  (s.supervision.get arm).setpoint = some p ∨
    ((s.supervision.get arm).setpoint = none ∧ ∀ ax, ((s.head.get arm).record.get ax).last = some (p.get ax))

/-- The zone check of an arm at a point: within an ENVELOPE zone, meeting no KEEP_OUT zone, meeting no RACK zone unless it lies within the
open corridor, and at least the margin from the other arm's box on an axis, if that arm's box stands anywhere (R94, R95). -/
def State.ZonesPass (s : State) (arm : Arm) (p : Triple Int) : Prop :=
  (∃ q ∈ s.zones, q.2.isFor arm .envelope ∧ s.boxInside arm p q.2) ∧
  (∀ q ∈ s.zones, q.2.isFor arm .keepOut → ¬ s.boxMeets arm p q.2) ∧
  (s.inOpenCorridor arm p ∨ ∀ q ∈ s.zones, q.2.isFor arm .rack → ¬ s.boxMeets arm p q.2) ∧
  (∀ c, s.standsAt (otherArm arm) c → ∃ ax, (s.setup.margin : Int) * 1000000 ≤
    max (s.lowOn arm p ax - s.highOn (otherArm arm) c ax) (s.lowOn (otherArm arm) c ax - s.highOn arm p ax))

/-! ### The sequencer and the rack channel (R119, R129) -/

/-- The phase timer started now at the SETUP change phase limit (R129). -/
def State.phaseExpiry (s : State) : Option Nat := some (s.now + s.setup.phaseLimit * 1000000)

/-- A message that an arm's sequencer has just given to the rack channel (R119). -/
def State.offered (s : State) (arm : Arm) (c : PortCommand) (station : Nat) : Rack :=
  { s.rack with
    message := some { sender := arm, tag := s.rack.nextTag, command := c, station := station, phase := .pending }
    nextTag := s.rack.nextTag + 1 }

/-! ### The end and the failure of a change (R118, R128, R134, R141, R142) -/

/-- A change of the rack's holder ends: IDLE with the record clear, and the rack released. A waiting sequencer is granted it in the same
step: it offers OPEN_PORT for its first station and enters its opening state (R118, R128, R129, R141, R142). -/
def State.EndsChange (s t : State) (arm : Arm) : Prop :=
  s.rack.holder = some arm →
  (s.rack.waiting = none → t = { s with
    sequencer := s.sequencer.put arm Sequencer.initial
    rack := { s.rack with holder := none } }) ∧
  (∀ next b, s.rack.waiting = some next → next ≠ arm → s.rack.message = none →
    let q := s.sequencer.get next
    q.state = .queued → q.drop.or q.target = some b → t = { s with
      sequencer := (s.sequencer.put arm Sequencer.initial).put next { q with
        state := if q.drop.isSome then .dropOpening else .pickOpening, portMark := some b.station, phaseTimer := s.phaseExpiry }
      rack := { s.offered next .openPort b.station with holder := some next, waiting := none } })

/-- The way back of a failed change with no message outstanding: with the port mark set CLEARING, and with no open corridor at once
RECLOSING, where CLOSE_PORT is offered for the port mark's station; otherwise the end (R141, R142). -/
def State.GoesBack (s t : State) (arm : Arm) : Prop :=
  let q := s.sequencer.get arm
  (∀ mark, q.portMark = some mark →
    (q.corridor ≠ none → t = { s with sequencer := s.sequencer.put arm { q with state := .clearing } }) ∧
    (q.corridor = none → s.rack.message = none → s.rack.holder = some arm → t = { s with
      sequencer := s.sequencer.put arm { q with state := .reclosing }
      rack := s.offered arm .closePort mark })) ∧
  (q.portMark = none → s.EndsChange t arm)

/-- A change fails in a phase state with a cause: the phase timer stops and CHANGE_FAILED is raised; with a message of the arm outstanding
the sequencer enters WINDING, otherwise it goes back (R141). -/
def State.ChangeFails (s t : State) (arm : Arm) (cause : Nat) : Prop :=
  let q := { s.sequencer.get arm with phaseTimer := none }
  let u : State := { s with sequencer := s.sequencer.put arm q, notices := s.notices.enter .changeFailed (.arm arm) cause }
  (∀ m, s.rack.message = some m → m.sender = arm → t = { u with sequencer := s.sequencer.put arm { q with state := .winding } }) ∧
  ((∀ m, s.rack.message = some m → m.sender ≠ arm) → u.GoesBack t arm)

/-- An outcome taken after the change has failed, at the drop: an ACK for the drop station clears a set drop-unconfirmed mark, and with
occupancy EMPTY makes the entry LOST if it is still IN_RACK and raises PROBE_LOST (R134; log 21). -/
def State.dropJudged (s : State) (arm : Arm) (station : Nat) (o : RackOutcome) : State :=
  let q := s.sequencer.get arm
  let u : State := { s with sequencer := s.sequencer.put arm { q with dropUnconfirmed := false } }
  match o, q.drop with
  | .ack _ sensed, some d =>
    if q.dropUnconfirmed = true ∧ d.station = station then
      if sensed then u
      else { u with
        notices := s.notices.enter .probeLost (.arm arm) 0
        library := match Table.entry s.library d.index with
          | some e => Table.store s.library d.index (if e.location = .inRack then { e with location := .lost } else e)
          | none => s.library }
    else s
  | _, _ => s

/-! ### Capture: suspension, positions and records (R146, R147, R153 to R157) -/

/-- What capture becomes when a suspending condition arises: SUSPENDED, the latch emptied, the count 0 and the stuck-committed mark clear,
and from CONFIRMING one bounce more; capture that is SUSPENDED stays as it is (R147, R159). -/
def Capture.suspendedNow (c : Capture) : Capture :=
  if c.state = .suspended then c
  else { c with
    state := .suspended, count := 0, latch := none, stuckCommitted := false
    bounces := if c.state = .confirming then min 65535 (c.bounces + 1) else c.bounces }

/-- The corrected head position with its flags, as an evaluation keeps it; absent if an axis has no last corrected value (R146). -/
def State.positionKept (s : State) (arm : Arm) : Option (Triple Sample) :=
  let record := (s.head.get arm).record
  if record.all (fun h => h.last.isSome) then
    some (record.map fun h => { value := h.last.getD 0, held := h.flags.thermalHeld, clamped := h.flags.clamped, stale := h.flags.stale })
  else none

/-- The latched previous position where it enters the head at the trigger: present, and no axis of either position STALE (R153). -/
def TouchLatch.interpolates (l : TouchLatch) : Option (Triple Sample) :=
  match l.previous with
  | some p => if p.any (fun x => x.stale) || l.current.any (fun x => x.stale) then none else some p
  | none => none

/-- The head at the trigger on an axis (R153). -/
def TouchLatch.headOn (l : TouchLatch) (ax : Axis) : Int :=
  match l.interpolates with
  | some p => (p.get ax).value + roundDiv (((l.current.get ax).value - (p.get ax).value) * l.edge) 1024
  | none => (l.current.get ax).value

/-- The tip centre on an axis of the arm's own frame: the head plus the stretched tip offset (R154). -/
def State.tipOn (s : State) (arm : Arm) (e : LibraryEntry) (head : Axis → Int) (ax : Axis) : Int :=
  head ax + (e.offset.get ax + roundDiv (e.offset.get ax * e.coefficient * ((probeTemp s arm).1 - e.calTemp)) (10 ^ 12))

/-- The workpiece point on an axis of the common frame, before the clamp (R154, R155). -/
def State.workpieceOn (s : State) (arm : Arm) (e : LibraryEntry) (head : Axis → Int) (ax : Axis) : Int :=
  let c := s.commonOn arm ⟨s.tipOn arm e head .x, s.tipOn arm e head .y, s.tipOn arm e head .z⟩ ax
  let f := s.setup.capture.get arm
  c - roundDiv ((c - f.datum.get ax) * f.coefficient * ((workpieceTemp s arm).1 - 20000)) (10 ^ 12)

/-- The stored workpiece point: within ±(2^39 − 1) nm (R155). -/
def State.pointOf (s : State) (arm : Arm) (e : LibraryEntry) (head : Axis → Int) : Triple Int :=
  let clamp (ax : Axis) : Int := max (-549755813887) (min 549755813887 (s.workpieceOn arm e head ax))
  ⟨clamp .x, clamp .y, clamp .z⟩

/-- W lies beyond ±(2^39 − 1) nm on some axis (R155, R156). -/
def State.pointClamped (s : State) (arm : Arm) (e : LibraryEntry) (head : Axis → Int) : Bool :=
  [Axis.x, .y, .z].any fun ax => decide (549755813887 < (s.workpieceOn arm e head ax).natAbs)

/-- The TOUCH record of a latched touch, as the walk gets it (R153 to R156). -/
def State.touchRecord (s : State) (arm : Arm) (l : TouchLatch) (e : LibraryEntry) : CaptureRecord :=
  let used : List Sample := [l.current.x, l.current.y, l.current.z] ++
    match l.interpolates with
    | some p => [p.x, p.y, p.z]
    | none => []
  { arm := arm, kind := .touch, cycle := l.cycle, edge := l.edge, point := s.pointOf arm e l.headOn, identity := e.identity, plan := none
    flags :=
      { thermalHeld := (probeTemp s arm).2 || (workpieceTemp s arm).2 || used.any (fun x => x.held)
        positionStale := l.interpolates.isNone
        fast := match l.interpolates with
          | some p => [Axis.x, .y, .z].any fun ax =>
              decide ((s.setup.capture.get arm).speedLimit * 1000 < ((l.current.get ax).value - (p.get ax).value).natAbs)
          | none => false
        probeSuspect := e.calibration != .calibrated
        clamped := used.any (fun x => x.clamped) || s.pointClamped arm e l.headOn
        armHeld := l.armHeld } }

/-- The STUCK record of a frame: the corrected head position as it stands, edge 1 023 (R157). -/
def State.stuckRecord (s : State) (arm : Arm) (e : LibraryEntry) (cycle : CycleNumber) : CaptureRecord :=
  let record := (s.head.get arm).record
  let head (ax : Axis) : Int := (record.get ax).last.getD 0
  { arm := arm, kind := .stuck, cycle := cycle, edge := 1023, point := s.pointOf arm e head, identity := e.identity, plan := none
    flags :=
      { thermalHeld := (probeTemp s arm).2 || (workpieceTemp s arm).2 || record.any (fun h => h.flags.thermalHeld)
        positionStale := record.any (fun h => h.flags.stale)
        probeSuspect := e.calibration != .calibrated
        clamped := record.any (fun h => h.flags.clamped) || s.pointClamped arm e head
        armHeld := (s.supervision.get arm).state == .held } }

/-- The library and the active probe records have come from one state to another: an arm whose record changed to anything but KNOWN with
its capture probe's index has its capture SUSPENDED, and no capture changed otherwise (R147). -/
def State.SuspendsByProbe (s t : State) : Prop :=
  ∀ arm,
    (t.active.get arm ≠ s.active.get arm → (∀ i, t.active.get arm = .known i → (s.capture.get arm).probe ≠ some i) →
      t.capture.get arm = (s.capture.get arm).suspendedNow) ∧
    (t.capture.get arm = s.capture.get arm ∨ t.capture.get arm = (s.capture.get arm).suspendedNow)

/-! ### Invariant: tables, window and buffer (R31, R34 to R36, R40) -/

/-- The window's range lies in its table, and the pointer in the range or, in method STOP, one past it. -/
def WindowValues.wf (w : WindowValues) : Bool :=
  decide (w.start ≤ w.pointer) && decide (w.start ≤ w.last) && decide (w.last < tableSize w.table)
    && decide (w.pointer ≤ match w.method with | .stop => w.last + 1 | .wrap => w.last)

/-- The write window, OPEN or BROKEN, is well-formed. -/
def Window.wf : Window → Bool
  | .closed => true
  | .opened w => w.wf
  | .broken w => w.wf

/-- The table of an entry. -/
def Entry.table : Entry → TableCode
  | .setup _ => .setup
  | .channel _ => .channel
  | .axis _ => .axis
  | .map _ => .map
  | .zone _ => .zone
  | .library _ => .library
  | .plan _ => .plan

/-- Every buffered entry has an index of its table. -/
def deferredWf (d : List (Nat × Entry)) : Bool := d.all (fun p => decide (p.1 < tableSize p.2.table))

/-- The loadable tables are in canonical form, the window lies in its table, and so do the buffered entries. -/
def State.tableInv (s : State) : Bool := s.tablesWf && s.service.window.wf && deferredWf s.service.deferred

/-- Between two steps no return frame is in processing, nothing is buffered and no reply is held back: a frame is one command, which the
model finishes before the command ends. (log 10) -/
def State.betweenFrames (s : State) : Bool :=
  !s.link.returnInProcessing && s.service.deferred.isEmpty && s.service.heldReply.isNone

/-! ### Invariant: the library and the active probe records (R107, R109, R110, R136) -/

/-- No two LIBRARY entries in use share an identity or a present home station (R109). -/
def libraryUnique : Table LibraryEntry → Bool
  | [] => true
  | (_, e) :: rest =>
    rest.all (fun p => p.2.identity != e.identity && (e.home.isNone || p.2.home != e.home)) && libraryUnique rest

/-- An entry is MOUNTED on an arm exactly when the arm's record is KNOWN with its index, and a KNOWN record points at an entry in use
(R109). -/
def State.mountedOk (s : State) (arm : Arm) : Bool :=
  s.library.all (fun p => (p.2.location == .mounted arm) == (s.active.get arm == .known p.1))
    && (match s.active.get arm with
      | .known i => (Table.entry s.library i).isSome
      | _ => true)

/-- The states in which a change's arm carries no probe: after the drop, and before the pick (R127, R132, R136). -/
def Sequencer.headEmpty (q : Sequencer) : Bool :=
  match q.state with
  | .dropLeaving | .dropClosing | .pickOpening | .pickCorridor => true
  | .queued => q.drop.isNone
  | _ => false

/-- An arm whose change has dropped its probe, or has none to drop, has no probe on record until it picks one (R136). -/
def State.headEmptyOk (s : State) (arm : Arm) : Bool := !(s.sequencer.get arm).headEmpty || s.active.get arm == .none

/-- The library and the active probe records agree, and no LIBRARY entry waits in the buffer (R40, R109, R136). -/
def State.libraryInv (s : State) : Bool :=
  libraryUnique s.library && s.mountedOk .a && s.mountedOk .b && s.headEmptyOk .a && s.headEmptyOk .b
    && s.service.deferred.all (fun p => p.2.table.heldBack)

/-! ### Invariant: sizes (R6, R14, R24, R25, R77, R97, R104, R121, R159, R174, R177, R183, R187) -/

/-- A 16-bit counter's range. -/
def counterOk (n : Nat) : Bool := decide (n ≤ 65535)

/-- The queues and lists of the part are within their depths. -/
def State.depthsOk (s : State) : Bool :=
  decide (s.link.txU.length ≤ 8) && decide (s.link.txD.length ≤ 8) && decide (s.service.requests.length ≤ 4)
    && decide (s.link.outstanding.length ≤ 16) && decide s.link.outstanding.Nodup
    && decide (s.queue.records.length ≤ 64) && decide (s.queue.credits ≤ 255) && decide (s.notices.entries.length ≤ 32)

/-- The counters of an arm are within their ranges. -/
def State.armCountersOk (s : State) (arm : Arm) : Bool :=
  counterOk (s.supervision.get arm).clampCount && counterOk (s.supervision.get arm).holdCount
    && counterOk (s.supervision.get arm).holdRun && counterOk (s.capture.get arm).bounces && counterOk (s.capture.get arm).stucks
    && decide ((s.head.get arm).failRun ≤ 255)

/-- Every counter is within its range. -/
def State.countersOk (s : State) : Bool :=
  counterOk s.link.badU && counterOk s.link.badD && counterOk s.rack.lateReplies && counterOk s.queue.overruns
    && counterOk s.notices.lost && decide (s.queue.stallCount ≤ 255) && s.armCountersOk .a && s.armCountersOk .b

/-- No two entries of the notice list have the same kind and subject, and repeat counts lie from 1 to 255 (R187). -/
def noticesDistinct (l : List Notice) : Bool :=
  decide (l.map (fun e => (e.kind, e.subject))).Nodup && l.all (fun e => decide (1 ≤ e.repeats) && decide (e.repeats ≤ 255))

/-- Queue depths, counters and the notice list are as their rules bound them. -/
def State.boundsInv (s : State) : Bool := s.depthsOk && s.countersOk && noticesDistinct s.notices.entries

/-! ### Invariant: sequence numbers (R174, R175, R178) -/

/-- Records whose sequence numbers follow one another from a first number. -/
def numberedFrom (n : SequenceNumber) : List QueuedRecord → Bool
  | [] => true
  | r :: rs => r.sequence == n && numberedFrom (n + 1) rs

/-- The numbers of the records waiting follow one another up to the next sequence number. -/
def State.numbersInv (s : State) : Bool :=
  numberedFrom (s.queue.nextSequence - BitVec.ofNat 16 s.queue.records.length) s.queue.records

/-! ### Invariant: arms (R72, R83, R101, R147, R148) -/

/-- An arm that is not STOPPED has a setpoint and a corrected head position (R83, R148). -/
def State.releasedOk (s : State) (arm : Arm) : Bool :=
  (s.supervision.get arm).state == .stopped
    || ((s.supervision.get arm).setpoint.isSome && (s.head.get arm).record.all (fun h => h.last.isSome))

/-- A suspending condition of an arm's capture holds (R147). -/
def State.mustSuspend (s : State) (arm : Arm) : Bool :=
  (s.supervision.get arm).state == .stopped || (s.sequencer.get arm).state != .idle
    || !(match s.active.get arm with | .known _ => true | _ => false)

/-- An arm's capture is SUSPENDED while a suspending condition holds (R147). -/
def State.suspendedOk (s : State) (arm : Arm) : Bool := !s.mustSuspend arm || (s.capture.get arm).state == .suspended

/-- The setpoint and the last corrected values of an arm lie within ±(2^39 − 1) nm (00_scope 4.1, R93). -/
def State.positionsOk (s : State) (arm : Arm) : Bool :=
  (match (s.supervision.get arm).setpoint with
    | some p => p.all withinPosition
    | none => true)
    && (s.head.get arm).record.all (fun h => match h.last with | some v => withinPosition v | none => true)

/-- Both arms are as supervision, correction and capture keep them. -/
def State.armInv (s : State) : Bool :=
  s.releasedOk .a && s.releasedOk .b && s.suspendedOk .a && s.suspendedOk .b && s.positionsOk .a && s.positionsOk .b

/-! ### Invariant: the rack and the corridor (R117, R118, R131) -/

/-- The states in which a corridor may be open (R131). -/
def SeqState.mayHaveCorridor : SeqState → Bool
  | .dropCorridor | .dropLeaving | .pickCorridor | .pickLeaving | .clearing => true
  | _ => false

/-- The states in which a sequencer holds the rack: all but IDLE and QUEUED. -/
def SeqState.holdsRack : SeqState → Bool
  | .idle | .queued => false
  | _ => true

/-- An arm's sequencer against the rack channel: it holds the rack exactly in the states that need it, waits exactly in QUEUED with
something to do, and has a corridor open only where R131 allows one. -/
def State.rackOk (s : State) (arm : Arm) : Bool :=
  let q := s.sequencer.get arm
  (q.state.holdsRack == (s.rack.holder == some arm)) && ((q.state == .queued) == (s.rack.waiting == some arm))
    && (q.state != .queued || q.drop.isSome || q.target.isSome)
    && (q.corridor.isNone || q.state.mayHaveCorridor)

/-- The states in which a rack message of the sequencer may be outstanding (R128, R133, R141, R142). -/
def SeqState.mayHaveMessage : SeqState → Bool
  | .dropOpening | .dropClosing | .pickOpening | .pickClosing | .winding | .reclosing => true
  | _ => false

/-- An outstanding message is the holder's, whose sequencer is in a state that has one. -/
def State.messageOk (s : State) : Bool :=
  match s.rack.message with
  | none => true
  | some m => s.rack.holder == some m.sender && (s.sequencer.get m.sender).state.mayHaveMessage

/-- The rack channel serves one arm at a time, and the open corridor and the outstanding message are that arm's (R117 to R119, R131). -/
def State.rackInv (s : State) : Bool :=
  s.rackOk .a && s.rackOk .b && (s.rack.waiting.isNone || s.rack.holder.isSome) && s.messageOk

/-- At most one corridor is open, and it belongs to the arm holding the rack channel (R131). -/
def State.corridorOk (s : State) : Bool :=
  (s.sequencer.a.corridor.isNone || s.rack.holder == some .a) && (s.sequencer.b.corridor.isNone || s.rack.holder == some .b)

end Sys2Proof.Machine
end

