-- ==== Sys2Proof/Certificates/Slice0/Obligations.lean ====
section
/-! DEFINITION. The statements for the provers. Each docstring names the rule of spec/ it formalises, or the log entry of a choice of the
model's own. -/

open Sys2Proof Sys2Proof.Machine

/-! ### One step -/

/-- A step runs the command at the front of the queue on the state with the queue's rest. -/
def Obligations.StepRunsFrontCommand : Prop :=
  ∀ (c : Instr) (rest : List Instr) (s : State), step { s with pending := c :: rest } = exec c { s with pending := rest }

/-- With no command waiting: the oldest request that may be taken is carried out (R25, R41), otherwise the reference advances by 1 µs while
no running timer is due (log 8, the model's choice). -/
def Obligations.IdleStepServesOrTicks : Prop :=
  ∀ s : State, s.pending = [] →
    (s.resetPin = true → step s = .next s) ∧
    (s.resetPin = false → ∀ r rest, s.service.requests = r :: rest → (s.service.heldReply = none ∨ r.code = 0x21) →
      step s = .next (completeRequest { s with service := { s.service with requests := rest } } r)) ∧
    (s.resetPin = false →
      (s.service.requests = [] ∨ ∃ r rest h, s.service.requests = r :: rest ∧ s.service.heldReply = some h ∧ r.code ≠ 0x21) →
      ((∀ t ∈ runningTimers s, s.now < t) → step s = .next { s with now := s.now + 1 }) ∧
      ((∃ t ∈ runningTimers s, t ≤ s.now) → step s = .next s))

/-- While the RESET pin is asserted, every command but the power and reset rows leaves the part as it is. R15 says only that the receive
sides take frames again once reset has ended: that requests, expiries and leaving frames have no effect either is the model's choice (log
9). -/
def Obligations.HeldInResetIgnoresCommands : Prop :=
  ∀ (c : Instr) (s : State), s.resetPin = true → c ≠ .powerUp → c ≠ .resetPin → c ≠ .resetEnd → exec c s = .next s

/-- Power-up and the RESET pin put every block in its reset state; the end of reset deasserts the pin and changes nothing else (R15,
R44; logs 6 and 9 for what stays). -/
def Obligations.PowerAndReset : Prop :=
  ∀ s : State,
    exec .powerUp s =
      .next { State.reset with pending := s.pending, freeIndex := s.freeIndex, resetPin := s.resetPin } ∧
    exec .resetPin s = .next { State.reset with pending := s.pending, freeIndex := s.freeIndex, resetPin := true } ∧
    exec .resetEnd s = .next { s with resetPin := false }

/-- The values right after reset, block by block: the link, the SETUP defaults, the empty tables, and every item of each block (R15, R16,
R31, R44, R60, R80, R81, R84, R105, R115, R116, R123, R125, R144, R145, R160, R173, R184, R185, R192). That the RESET pin is deasserted, the
reference at 0 and no latest PROBE report kept is the model's choice (logs 9, 28). -/
def Obligations.ResetValues : Prop :=
  State.reset.link =
    { watch := .watching, watchTimer := some 5000, originationTimer := none, bridgeTimer := none, template := none, lastOutbound := none,
      outstanding := [], lossMark := false, badU := 0, badD := 0, txU := [], txD := [], returnInProcessing := false } ∧
  State.reset.service = { requests := [], window := .closed, deferred := [], heldReply := none } ∧
  State.reset.channels = [] ∧ State.reset.axes = [] ∧ State.reset.map = [] ∧ State.reset.zones = [] ∧ State.reset.library = [] ∧
  State.reset.plan = [] ∧
  State.reset.setup.armNode = ⟨1, 2⟩ ∧ State.reset.setup.headNode = ⟨3, 4⟩ ∧ State.reset.setup.rackNode = 5 ∧
  State.reset.setup.hubs = ⟨some 6, some 7, some 8, some 9⟩ ∧ State.reset.setup.cyclePeriod = 1000 ∧
  State.reset.setup.watchTime = 5 ∧ State.reset.setup.bridgeTime = 200 ∧ State.reset.setup.scaleFailLimit = ⟨3, 3⟩ ∧
  State.reset.setup.holdLimit = ⟨50, 50⟩ ∧ State.reset.setup.offsetB = ⟨0, 0, 0⟩ ∧ State.reset.setup.signB = ⟨.plus, .plus, .minus⟩ ∧
  State.reset.setup.headRadius = 60 ∧ State.reset.setup.unknownEnvelope = 400 ∧ State.reset.setup.margin = 50 ∧
  State.reset.setup.replyWait = 100 ∧ State.reset.setup.phaseLimit = 30 ∧ State.reset.setup.captureLevel = 8 ∧
  State.reset.setup.stallCycles = 100 ∧
  (∀ arm : Arm,
    State.reset.setup.capture.get arm =
      { debounce := 1, rearm := 4, stuckLimit := 2000, speedLimit := 20, datum := ⟨0, 0, 0⟩, coefficient := 11500 } ∧
    (State.reset.head.get arm).record.all (fun h => h == { last := none, thermal := none, flags := ⟨false, false, false, false⟩ }) = true ∧
    (State.reset.head.get arm).failRun = 0 ∧ (State.reset.head.get arm).stopRequested = false ∧
    State.reset.supervision.get arm =
      { state := .stopped, cause := .reset, setpoint := none, holdRun := 0, clampCount := 0, holdCount := 0, overtravel := none } ∧
    State.reset.active.get arm = .none ∧ State.reset.latestReport.get arm = none ∧
    State.reset.sequencer.get arm =
      { state := .idle, drop := none, target := none, corridor := none, portMark := none, dropUnconfirmed := false, phaseTimer := none } ∧
    State.reset.capture.get arm =
      { state := .suspended, count := 0, latch := none, stuckCommitted := false, probe := none, previous := none, bounces := 0,
        stucks := 0 } ∧
    State.reset.walk.get arm = { state := .stopped, head := none, loop := false }) ∧
  State.reset.rack = { holder := none, waiting := none, message := none, nextTag := 0, replyTimer := none, lateReplies := 0 } ∧
  State.reset.queue =
    { records := [], credits := 0, nextSequence := 0, overruns := 0, stallCount := 0, stallMark := false, missingMark := false } ∧
  State.reset.notices = { entries := [], mask := 0, lost := 0, currentCycle := 0 } ∧
  State.reset.resetPin = false ∧ State.reset.now = 0 ∧ State.reset.pending = []

/-! ### Frames as bytes -/

/-- What the part sends for a frame, it would take as that frame: every field of every frame kind survives (1.9, R3, R5). -/
def Obligations.FrameRoundTrip : Prop :=
  ∀ f : Frame, frameFits f = true → classify (frameBytes f) = .good f

/-- One inverted bit, in the covered bytes or in the check, is found: the frame has a bad check (R3). -/
def Obligations.SingleBitErrorIsBadCheck : Prop :=
  ∀ body : List Byte, 1 ≤ body.length → body.length + 2 ≤ 1536 →
    ∀ i k : Nat, i < body.length + 2 → k < 8 → classify (flipBit (withCheck body) i k) = .badCheck

/-- A SETUP, CHANNEL, AXIS or MAP entry that passes its checks, carried as TABLE READ carries it, passes them again and is the same entry,
whatever the bytes of absent optional fields hold (R17, R32, R46, R62, R63, R64). -/
def Obligations.SetupToMapRoundTrip : Prop :=
  ∀ (fill : Nat → Byte) (index : Nat) (b : List Byte),
    (∀ e, readSetup b = .ok e → readSetup (setupBytes fill e) = .ok e) ∧
    (∀ (run : ChannelRun) e, readChannel b = .ok e →
      readChannel (channelBytes fill (e.map fun c => { entry := c, run := run })) = .ok e) ∧
    (∀ e, readAxis index b = .ok e → readAxis index (axisBytes fill e) = .ok e) ∧
    (∀ v, readMap b = .ok v → readMap (leIntBytes 4 v) = .ok v)

/-- The same of ZONE, LIBRARY and PLAN entries (R88, R107, R161). -/
def Obligations.ZoneLibraryPlanRoundTrip : Prop :=
  ∀ (fill : Nat → Byte) (b : List Byte),
    (∀ e, readZone b = .ok e → readZone (zoneBytes e) = .ok e) ∧
    (∀ e, readLibrary b = .ok e → readLibrary (libraryBytes fill e) = .ok e) ∧
    (∀ e, readPlan b = .ok e → readPlan (planBytes fill e) = .ok e)

/-! ### Frames that reach no block -/

/-- A frame discarded on a port is counted there with BAD_FRAME raised. A frame with a bad check, or with a good check and a wrong form, is
counted on its port and forwarded on the other with its bytes as taken; lost to a full queue, it is counted there again (R2, R4, R5, R6,
R14; log 14). Nothing else changes. -/
def Obligations.BadFramesCounted : Prop :=
  ∀ (s : State) (p : Port) (bytes : List Byte), s.resetPin = false →
    exec (.frameDiscarded p) s = .next (s.badFrameOn p) ∧
    (classify bytes = .badCheck →
      (s.Room (otherPort p) →
        exec (.badCheckFrame p bytes) s = .next ((s.badFrameOn p).sentOn (otherPort p) (.asTaken bytes))) ∧
      (¬ s.Room (otherPort p) → exec (.badCheckFrame p bytes) s = .next ((s.badFrameOn p).badFrameOn p))) ∧
    (classify bytes = .notWellFormed →
      (s.Room (otherPort p) →
        exec (.notWellFormedFrame p bytes) s = .next ((s.badFrameOn p).sentOn (otherPort p) (.asTaken bytes))) ∧
      (¬ s.Room (otherPort p) → exec (.notWellFormedFrame p bytes) s = .next ((s.badFrameOn p).badFrameOn p)))

/-- A well-formed frame that R7 does not act on is forwarded with its bytes as taken, or lost to a full queue and counted (R7, R14).
Nothing else changes. -/
def Obligations.GoodFrameForwardedUnchanged : Prop :=
  ∀ (s : State) (p : Port) (bytes : List Byte) (f : Frame), s.resetPin = false → classify bytes = .good f → unchangedOn p f →
    (s.Room (otherPort p) → exec (.forwardUnchanged p bytes) s = .next (s.sentOn (otherPort p) (.asTaken bytes))) ∧
    (¬ s.Room (otherPort p) → exec (.forwardUnchanged p bytes) s = .next (s.badFrameOn p)) ∧
    txBytes (.asTaken bytes) = bytes

/-! ### Cycle frames -/

/-- An outbound cycle frame completes. It is forwarded with its number, its slots in order, their addresses, kinds and lengths; only TARGET
and RACK_OUT slots may change; a full queue loses it and counts it. The link watch is WATCHING, the watch timer restarted, the other link
timers stopped, the template the frame as taken, the mark clear, the number off the outstanding list and the last outbound and current
number (R9, R10, R13, R14, R18, R21, R22, R24, R187). The tables, the corrected positions, the capture queue and the write window are
unchanged. Whatever comes between its slots, up to its forwarding, the slots are those of the frame, and the forwarding meets the queue and
the counter as they then stand (R1; log 10). The acted-on RACK_OUT slot is written with a PENDING message, which the frame then carries, or
with the empty payload, by the rack channel as the slots before it leave it: unchanged, unless they stop an arm (R12, R120). -/
def Obligations.OutboundFrameForwarded : Prop :=
  ∀ (s : State) (f : CycleFrame), s.resetPin = false → cycleFits f = true →
    (∀ during, ∃ t, exec (.outboundCycleFrame f during) s = .next t) ∧
    (∃ t slots carries, exec (.outboundCycleFrame f []) s = .next t ∧ onlyRewrites [0x10, 0x14] f.slots slots ∧
      (s.Room .d → t.link.txD = s.link.txD ++ [.out { cycle := f.cycle, slots := slots } carries] ∧ t.link.badU = s.link.badU) ∧
      (¬ s.Room .d → t.link.txD = s.link.txD ∧ t.link.badU = min 65535 (s.link.badU + 1)) ∧
      t.link.watch = .watching ∧ t.link.watchTimer = some (s.now + s.setup.watchTime * 1000) ∧ t.link.originationTimer = none ∧
      t.link.bridgeTimer = none ∧ t.link.template = some f ∧ t.link.lossMark = false ∧ t.link.lastOutbound = some f.cycle ∧
      t.link.outstanding = s.link.outstanding.filter (fun c => c != f.cycle) ∧ t.notices.currentCycle = f.cycle ∧
      t.link.txU = s.link.txU ∧ t.link.badD = s.link.badD ∧ s.SameTables t ∧ t.head = s.head ∧ t.queue = s.queue ∧
      t.service = s.service ∧ t.active = s.active ∧ t.latestReport = s.latestReport ∧ t.walk = s.walk ∧ t.now = s.now ∧
      t.pending = s.pending) ∧
    (∀ during, othersOnly .u f.slots.length during →
      let m := beforeEnd .u s f during
      let u := (m.handle .u).state
      exec (.outboundCycleFrame f during) s = .next (afterEnd .u f during m) ∧
      (∃ run, m.out = some { cycle := f.cycle, todo := [], run := run } ∧ onlyRewrites [0x10, 0x14] f.slots run.done) ∧
      (m.handle .u).out = none ∧ (m.handle .u).back = m.back ∧
      (∃ slots carries, onlyRewrites [0x10, 0x14] f.slots slots ∧ (m.state.Room .d →
        u.link.txD = m.state.link.txD ++ [.out { cycle := f.cycle, slots := slots } carries] ∧ u.link.badU = m.state.link.badU)) ∧
      (¬ m.state.Room .d → u.link.txD = m.state.link.txD ∧ u.link.badU = min 65535 (m.state.link.badU + 1)) ∧
      u.link.lastOutbound = some f.cycle ∧ u.supervision = m.state.supervision ∧ u.queue = m.state.queue ∧ m.state.SameTables u) ∧
    (∃ t, exec (.outboundCycleFrame f []) s = .next t ∧
      (∀ n sl, s.ActsOnRackOut f.slots n sl →
        s.SentRackOut t (s.atSlot f n).rack n sl ∧
        ((∀ arm, ((s.atSlot f n).supervision.get arm).state = .stopped → (s.supervision.get arm).state = .stopped) →
          (s.atSlot f n).rack = s.rack)) ∧
      ((∀ n sl, ¬ s.ActsOnRackOut f.slots n sl) → s.Room .d → ∃ g, t.link.txD = s.link.txD ++ [.out g none]))

/-- The TARGET slot of a STOPPED arm, the first at its node's address and at least four words long, is forwarded with drive enable cleared,
whatever the controller sent and whatever else the frame carries; and whatever comes between the slots, as long as the service block takes
no request and holds no write back (R1, R12, R92; log 10). -/
def Obligations.StoppedArmDriveDisabled : Prop :=
  ∀ (s : State) (f : CycleFrame) (arm : Arm) (n : Nat) (sl : Slot), s.resetPin = false → cycleFits f = true →
    s.setup.armNode.a ≠ s.setup.armNode.b → (s.supervision.get arm).state = .stopped →
    f.slots[n]? = some sl → sl.kind = 0x10 → sl.address.toNat = s.setup.armNode.get arm → 16 ≤ sl.payload.length →
    (∀ m sl', m < n → f.slots[m]? = some sl' → sl'.kind = 0x10 → sl'.address ≠ sl.address) →
    (s.Room .d → ∃ t g carries sl'', exec (.outboundCycleFrame f []) s = .next t ∧ t.link.txD = s.link.txD ++ [.out g carries] ∧
      g.slots[n]? = some sl'' ∧ bitOf (sl''.payload.headD 0) 0 = false) ∧
    (∀ during, othersOnly .u f.slots.length during → noServe during = true → s.service.deferred = [] →
      let m := beforeEnd .u s f during
      exec (.outboundCycleFrame f during) s = .next (afterEnd .u f during m) ∧
      (m.state.Room .d → ∃ g carries sl'', (m.handle .u).state.link.txD = m.state.link.txD ++ [.out g carries] ∧
        g.slots[n]? = some sl'' ∧ bitOf (sl''.payload.headD 0) 0 = false))

/-- One outbound frame moves the setpoint of an arm by at most the axis's max step on each axis, and not at all on an axis whose AXIS record
is empty (R93, R96, R97); and so with whatever comes between its slots and after it, as long as the U port takes no other frame, the service
block takes no request and holds no write back (R1; log 10). The acted-on TARGET slot of a FREE or HELD arm: the targets are clamped axis by
axis; with the zone check passed they are forwarded and become the setpoint, the hold marker clear, the arm FREE and its run 0; with the
check failed the setpoint is forwarded with the hold marker set, the arm is HELD and the hold counter and the run gain one, and a run past
the hold limit stops the arm with cause HOLD_LIMIT and clears drive enable, which otherwise stays as sent; the clamp counter gains the
targets changed (R93, R96, R97, R104). That of a STOPPED arm: drive enable cleared, the setpoint with the hold marker, or the targets as
sent without it, and nothing of the supervision changes (R92); so is that of an arm without a setpoint, which no run reaches FREE or HELD
(the model's choice, log 22). The slot meets the part as the slots before it leave it. The zone check is that of R85 to R90, R94 and R95. -/
def Obligations.SetpointStepBounded : Prop :=
  (∀ (s : State) (f : CycleFrame) (arm : Arm) (p : Triple Int), s.resetPin = false → cycleFits f = true →
    (s.supervision.get arm).setpoint = some p → p.all withinPosition = true →
    ∀ during : List Interleaved,
      during = [] ∨ ((∀ e ∈ during, e.event.port ≠ some .u) ∧ noServe during = true ∧ s.service.deferred = []) →
      ∃ t q, exec (.outboundCycleFrame f during) s = .next t ∧ (t.supervision.get arm).setpoint = some q ∧
        ∀ ax : Axis, (q.get ax - p.get ax).natAbs ≤
          match Table.entry s.axes (axisIndex arm ax) with
          | some e => e.maxStep * 1000
          | none => 0) ∧
  (∀ (s : State) (f : CycleFrame) (arm : Arm) (n : Nat) (sl : Slot), s.resetPin = false → cycleFits f = true →
    s.ActsOnTarget arm f.slots n sl →
    let m := s.atSlot f n
    let v := s.supervision.get arm
    ∃ t, exec (.outboundCycleFrame f []) s = .next t ∧ m.supervision.get arm = v ∧
      ((∀ x ∈ f.slots.take n, x.kind = 0x10 → x.address.toNat ≠ s.setup.armNode.get (otherArm arm)) →
        m.supervision = s.supervision ∧ ∀ q, zoneCheck m arm q = zoneCheck s arm q) ∧
      (v.state = .stopped ∨ v.setpoint = none →
        t.supervision.get arm = v ∧ s.SentTarget t n sl false v.setpoint.isSome v.setpoint) ∧
      (∀ p, v.state ≠ .stopped → v.setpoint = some p →
        let q := s.clampedAll arm p sl.payload
        let clamps := min 65535 (v.clampCount + s.clampsOn arm p sl.payload)
        let run := min 65535 (v.holdRun + 1)
        let limit := s.setup.holdLimit.get arm
        let enable := bitOf (sl.payload.headD 0) 0
        let held := { v with holdRun := run, holdCount := min 65535 (v.holdCount + 1), clampCount := clamps }
        (zoneCheck m arm q = true →
          t.supervision.get arm = { v with state := .free, setpoint := some q, holdRun := 0, clampCount := clamps } ∧
          s.SentTarget t n sl enable false (some q)) ∧
        (zoneCheck m arm q = false → limit = 0 ∨ run ≤ limit →
          t.supervision.get arm = { held with state := .held } ∧ s.SentTarget t n sl enable true (some p)) ∧
        (zoneCheck m arm q = false → limit ≠ 0 → limit < run →
          t.supervision.get arm = { held with state := .stopped, cause := .holdLimit } ∧ s.SentTarget t n sl false true (some p)))) ∧
  (∀ (s : State) (arm : Arm) (p : Triple Int), zoneCheck s arm p = true ↔ s.ZonesPass arm p)

/-- A return cycle frame completes. Unless it is the return of an originated cycle it is forwarded with its number, its slots in order, their
addresses, kinds and lengths; only POSITION and REPORT slots may change; a full queue loses it and counts it (R9, R11, R13, R14, R24).
SETUP, the AXIS, MAP and ZONE tables and the D queue are unchanged. Whatever comes between its slots and the stages of its frame-end work,
the slots are those of the frame, whether it is forwarded is decided when it is taken, the forwarding meets the queue and the counter as
they then stand, and the frame goes before the reply held back for it (R1, R40; log 10). -/
def Obligations.ReturnFrameKeepsShape : Prop :=
  ∀ (s : State) (f : CycleFrame), s.resetPin = false → cycleFits f = true →
    (∀ during, ∃ t, exec (.returnCycleFrame f during) s = .next t) ∧
    (s.service.heldReply = none → s.service.deferred = [] →
      ∃ t slots, exec (.returnCycleFrame f []) s = .next t ∧ onlyRewrites [0x11, 0x16] f.slots slots ∧
      (f.cycle ∉ s.link.outstanding → s.Room .u →
        t.link.txU = s.link.txU ++ [.back { cycle := f.cycle, slots := slots }] ∧ t.link.badD = s.link.badD) ∧
      (f.cycle ∉ s.link.outstanding → ¬ s.Room .u → t.link.txU = s.link.txU ∧ t.link.badD = min 65535 (s.link.badD + 1)) ∧
      t.link.txD = s.link.txD ∧ t.link.badU = s.link.badU ∧ t.link.watch = s.link.watch ∧ t.link.template = s.link.template ∧
      t.setup = s.setup ∧ t.axes = s.axes ∧ t.map = s.map ∧ t.zones = s.zones ∧ t.service = s.service ∧ t.now = s.now ∧
      t.link.returnInProcessing = false ∧ t.notices.currentCycle = f.cycle) ∧
    (∀ during, othersOnly .d (f.slots.length + 3) during →
      let m := beforeEnd .d s f during
      let u := (m.handle .d).state
      exec (.returnCycleFrame f during) s = .next (afterEnd .d f during m) ∧
      (∃ run, m.back = some { cycle := f.cycle, originated := decide (f.cycle ∈ s.link.outstanding), todo := [], stages := [], run := run } ∧
        onlyRewrites [0x11] f.slots run.done) ∧
      (m.handle .d).back = none ∧ (m.handle .d).out = m.out ∧ m.state.link.returnInProcessing = true ∧
      u.link.returnInProcessing = false ∧ u.service.deferred = [] ∧ u.service.heldReply = none ∧ u.link.txD = m.state.link.txD ∧
      (f.cycle ∉ s.link.outstanding →
        (m.state.Room .u → ∃ slots rest, onlyRewrites [0x11, 0x16] f.slots slots ∧
          u.link.txU = m.state.link.txU ++ .back { cycle := f.cycle, slots := slots } :: rest ∧
          (m.state.service.heldReply = none → rest = []) ∧ u.link.badD = m.state.link.badD) ∧
        (¬ m.state.Room .u → u.link.txU = m.state.link.txU ∧ u.link.badD = min 65535 (m.state.link.badD + 1))))

/-- The return of an originated cycle is processed in full but not forwarded; its number leaves the list and is the current cycle number; no
record leaves the capture queue: those waiting stay in front, up to OVERRUN_AFTER on the one at the back; no credit is used and the
missing-slot mark stands; the stall count judges the frame as one without a delivery; an arm whose POSITION slot it lacks has a FAIL cycle
(R24, R77, R78, R181 to R183). Whatever comes between its pieces, its end changes nothing in the queue but the stall count and mark, and
nothing on the U port but the reply held back for it. That a frame is one command with what comes between its pieces, and what is then
still in processing finished at its end, is the model's choice (log 10). -/
def Obligations.OriginatedReturnNotForwarded : Prop :=
  ∀ (s : State) (f : CycleFrame), s.resetPin = false → cycleFits f = true → f.cycle ∈ s.link.outstanding →
    (s.service.heldReply = none → s.service.deferred = [] →
      ∃ t, exec (.returnCycleFrame f []) s = .next t ∧ t.link.txU = s.link.txU ∧ t.link.badD = s.link.badD ∧
        f.cycle ∉ t.link.outstanding ∧ t.notices.currentCycle = f.cycle ∧
        t.queue.credits = s.queue.credits ∧ t.queue.missingMark = s.queue.missingMark ∧
        ((∃ new, t.queue.records = s.queue.records ++ new) ∨
          (64 ≤ s.queue.records.length ∧ ∃ front back, s.queue.records = front ++ [back] ∧ t.queue.records =
            front ++ [{ back with record := { back.record with flags := { back.record.flags with overrunAfter := true } } }])) ∧
        (t.queue.records ≠ [] → t.queue.stallCount = min 255 (s.queue.stallCount + 1) ∧
          t.queue.stallMark = (s.queue.stallMark || decide (s.setup.stallCycles ≤ min 255 (s.queue.stallCount + 1)))) ∧
        (t.queue.records = [] → t.queue.stallCount = 0 ∧ t.queue.stallMark = s.queue.stallMark) ∧
        (∀ arm : Arm, s.setup.armNode.a ≠ s.setup.armNode.b →
          (∀ sl ∈ f.slots, sl.kind = 0x11 → sl.address.toNat ≠ s.setup.armNode.get arm) →
          (t.head.get arm).failRun = min 255 ((s.head.get arm).failRun + 1) ∧
          (t.head.get arm).record = (s.head.get arm).record.map (fun h => { h with flags := { h.flags with stale := true } }))) ∧
    (∀ during, othersOnly .d (f.slots.length + 3) during →
      let m := beforeEnd .d s f during
      let u := (m.handle .d).state
      exec (.returnCycleFrame f during) s = .next (afterEnd .d f during m) ∧
      (∃ rest, u.link.txU = m.state.link.txU ++ rest ∧ (m.state.service.heldReply = none → rest = [])) ∧
      u.link.badD = m.state.link.badD ∧
      (m.state.queue.records ≠ [] → u.queue = { m.state.queue with
        stallCount := min 255 (m.state.queue.stallCount + 1)
        stallMark := m.state.queue.stallMark || decide (m.state.setup.stallCycles ≤ min 255 (m.state.queue.stallCount + 1)) }) ∧
      (m.state.queue.records = [] → u.queue = { m.state.queue with stallCount := 0 }))

/-- A forwarded return frame with one REPORT slot delivers the smallest of depth, credits and record spaces: the oldest records in order,
the credits lowered by as many, and depth, credits and count as they then stand in the header; undelivered spaces are zero (R178,
R179). Whatever comes between its pieces, the slot is judged by the queue as it stands at the frame's end. That the bytes of a space that is
not whole stay as taken is the model's reading (log 15); that a frame is one command with what comes between its pieces, and what is then
still in processing finished at its end, is its choice (log 10). -/
def Obligations.ReportDelivers : Prop :=
  ∀ (s : State) (cycle : CycleNumber) (payload : List Byte), s.resetPin = false → cycle ∉ s.link.outstanding →
    payload.length % 4 = 0 → 16 ≤ payload.length → payload.length ≤ 1020 →
    let f : CycleFrame := { cycle := cycle, slots := [{ address := 62, kind := 0x16, payload := payload }] }
    (s.service.heldReply = none → s.service.deferred = [] → s.Room .u →
      ∃ t, exec (.returnCycleFrame f []) s = .next t ∧ s.Delivered t cycle payload) ∧
    (∀ during, othersOnly .d 4 during →
      let m := beforeEnd .d s f during
      exec (.returnCycleFrame f during) s = .next (afterEnd .d f during m) ∧
      (m.state.service.heldReply = none → m.state.service.deferred = [] → m.state.Room .u →
        m.state.Delivered (m.handle .d).state cycle payload))

/-- The oldest frame of a queue leaves its port; one that carries the outstanding message makes it SENT and starts the reply timer; from an
empty queue nothing leaves (R14, R116, R120). -/
def Obligations.FrameLeavesPort : Prop :=
  ∀ (s : State) (p : Port), s.resetPin = false →
    (s.link.tx p = [] → exec (.frameLeavesPort p) s = .next s) ∧
    (∀ t rest, s.link.tx p = t :: rest →
      ((∀ f n, t ≠ .out f (some n)) → exec (.frameLeavesPort p) s = .next { s with link := s.link.setTx p rest }) ∧
      (∀ f n m, t = .out f (some n) → s.rack.message = some m → m.phase = .carried →
        exec (.frameLeavesPort p) s = .next
          { s with
            link := (s.link.setTx p rest),
            rack := { s.rack with message := some { m with phase := .sent }, replyTimer := some (s.now + s.setup.replyWait * 1000) } }) ∧
      (∀ f n, t = .out f (some n) → (∀ m, s.rack.message = some m → m.phase ≠ .carried) →
        exec (.frameLeavesPort p) s = .next { s with link := s.link.setTx p rest }))

/-- An arm leaves STOPPED by an accepted RELEASE ARM alone: no command that brings none, whatever it is, leaves it FREE or HELD (R83,
R91, R101). -/
def Obligations.OnlyReleaseLeavesStopped : Prop :=
  ∀ (c : Instr) (s t : State) (arm : Arm), bringsNoRelease c = true → (s.supervision.get arm).state = .stopped →
    exec c s = .next t → (t.supervision.get arm).state = .stopped

/-! ### Timers -/

/-- The watch timer expires. Without a template the watch stays and LINK_LOSS is raised once. With one, LINK_LOSS is raised, one frame with
the next number is originated and listed (lost to a full queue, its number is used and not listed), the origination timer starts, and
BRIDGING is entered with the bridge timer, or HALTED with both arms STOPPED, before the frame, when the bridge time is 0 (R14, R18 to R20,
R23, R24). The frame's acted-on TARGET slots carry the hold position with the hold marker set, drive enable cleared for a STOPPED arm;
without a hold position the template's targets, drive enable and hold marker clear (R23). Its RACK_OUT slot is written as in any outbound
frame (R12, R23, R120). The model's choices: a stopped timer does not expire and the reference is brought to the expiry (log 5), and a
number entered again is the newest of the list (log 23). -/
def Obligations.WatchExpiry : Prop :=
  ∀ (s : State), s.resetPin = false →
    (s.link.watchTimer = none → exec .watchTimerExpiry s = .next s) ∧
    (∀ at_, s.link.watchTimer = some at_ → s.link.template = none → s.link.lossMark = false →
      exec .watchTimerExpiry s = .next
        { s with
          now := max s.now at_,
          link := { s.link with watchTimer := none, lossMark := true },
          notices := s.notices.enter .linkLoss .none 0 }) ∧
    (∀ at_, s.link.watchTimer = some at_ → s.link.template = none → s.link.lossMark = true →
      exec .watchTimerExpiry s = .next { s with now := max s.now at_, link := { s.link with watchTimer := none } }) ∧
    (∀ at_ f k, s.link.watchTimer = some at_ → s.link.template = some f → s.link.lastOutbound = some k →
      ∃ t slots carries, exec .watchTimerExpiry s = .next t ∧
        t.now = max s.now at_ ∧ t.link.watchTimer = none ∧ t.link.lastOutbound = some (k + 1) ∧ t.notices.currentCycle = k + 1 ∧
        t.link.originationTimer = some (max s.now at_ + s.setup.cyclePeriod) ∧
        sameShape f.slots slots = true ∧
        List.Forall₂ (fun a b => a.kind ≠ 0x10 → a.kind ≠ 0x14 → b = a) f.slots slots ∧
        (∀ arm n sl, s.ActsOnTarget arm f.slots n sl → s.SentOriginated t n sl (t.supervision.get arm)) ∧
        (∀ n sl, s.ActsOnRackOut f.slots n sl →
          s.SentRackOut t (if s.setup.bridgeTime = 0 then (enterHalted s).rack else s.rack) n sl) ∧
        (s.Room .d → t.link.txD = s.link.txD ++ [.out { cycle := k + 1, slots := slots } carries] ∧
          t.link.outstanding.getLast? = some (k + 1)) ∧
        (¬ s.Room .d → t.link.txD = s.link.txD ∧ t.link.outstanding = s.link.outstanding) ∧
        (0 < s.setup.bridgeTime → t.link.watch = .bridging ∧
          t.link.bridgeTimer = some (max s.now at_ + s.setup.bridgeTime * 1000) ∧ t.supervision = s.supervision ∧
          t.notices.entries = (s.notices.enter .linkLoss .none 0).entries) ∧
        (s.setup.bridgeTime = 0 → t.link.watch = .halted ∧ t.link.bridgeTimer = none ∧
          t.supervision.a.state = .stopped ∧ t.supervision.b.state = .stopped) ∧
        t.link.template = some f ∧ s.SameTables t ∧ t.queue = s.queue ∧ t.head = s.head)

/-- The origination timer expires: one frame with the next number is originated and the timer restarts at the cycle period; the arms, the
setpoints and the supervision counters are unchanged (R19, R23, R24). Its TARGET slots carry the hold position with the hold marker set,
drive enable cleared for a STOPPED arm; without a hold position the template's targets, drive enable and hold marker clear; its RACK_OUT
slot is written as in any outbound frame; the other slots are the template's (R12, R23, R120). The model's choices: a stopped timer does not
expire and the reference is brought to the expiry (log 5), and a number entered again is the newest of the list (log 23). -/
def Obligations.OriginationExpiry : Prop :=
  ∀ (s : State), s.resetPin = false →
    (s.link.originationTimer = none → exec .originationTimerExpiry s = .next s) ∧
    (∀ at_ f k, s.link.originationTimer = some at_ → s.link.template = some f → s.link.lastOutbound = some k →
      ∃ t slots carries, exec .originationTimerExpiry s = .next t ∧
        t.now = max s.now at_ ∧ t.link.lastOutbound = some (k + 1) ∧ t.link.watch = s.link.watch ∧
        t.link.originationTimer = some (max s.now at_ + s.setup.cyclePeriod) ∧ t.link.bridgeTimer = s.link.bridgeTimer ∧
        sameShape f.slots slots = true ∧ List.Forall₂ (fun a b => a.kind ≠ 0x10 → a.kind ≠ 0x14 → b = a) f.slots slots ∧
        (∀ arm n sl, s.ActsOnTarget arm f.slots n sl → s.SentOriginated t n sl (s.supervision.get arm)) ∧
        (∀ n sl, s.ActsOnRackOut f.slots n sl → s.SentRackOut t s.rack n sl) ∧
        (s.Room .d → t.link.txD = s.link.txD ++ [.out { cycle := k + 1, slots := slots } carries] ∧
          t.link.outstanding.getLast? = some (k + 1)) ∧
        (¬ s.Room .d → t.link.txD = s.link.txD ∧ t.link.outstanding = s.link.outstanding) ∧
        t.link.txU = s.link.txU ∧ t.supervision = s.supervision ∧ t.sequencer = s.sequencer ∧ t.queue = s.queue ∧ s.SameTables t)

/-- The bridge timer expires: HALTED, both arms STOPPED, an arm that was not STOPPED with cause LINK_LOSS, the setpoints kept and the
origination timer running on (R19, R20). That a stopped timer does not expire, and that the reference is brought to the expiry, is the
model's choice (log 5). -/
def Obligations.BridgeExpiryStopsArms : Prop :=
  ∀ (s : State), s.resetPin = false →
    (s.link.bridgeTimer = none → exec .bridgeTimerExpiry s = .next s) ∧
    (∀ at_, s.link.bridgeTimer = some at_ →
      ∃ t, exec .bridgeTimerExpiry s = .next t ∧ t.now = max s.now at_ ∧
        t.link = { s.link with watch := .halted, bridgeTimer := none } ∧
        (∀ arm, t.supervision.get arm =
          if (s.supervision.get arm).state = .stopped then s.supervision.get arm
          else { s.supervision.get arm with state := .stopped, cause := .linkLoss }) ∧
        s.SameTables t ∧ t.head = s.head ∧ t.queue = s.queue ∧ t.active = s.active ∧ t.walk = s.walk)

/-- The reply timer expires: the wait ends with TIMEOUT. In an opening or closing state the change fails with RACK_TIMEOUT, in RECLOSING
RACK_PORT_UNKNOWN is raised and the sequencer is IDLE with its record clear (R122, R130, R135, R138, R141, R142). That a stopped timer does
not expire, and that the reference is brought to the expiry, is the model's choice (log 5). -/
def Obligations.ReplyExpiry : Prop :=
  ∀ (s : State), s.resetPin = false →
    (s.rack.replyTimer = none → exec .replyTimerExpiry s = .next s) ∧
    (∀ at_ m, s.rack.replyTimer = some at_ → s.rack.message = some m →
      ∃ t, exec .replyTimerExpiry s = .next t ∧ t.now = max s.now at_ ∧ t.rack.replyTimer = none ∧
        ((s.sequencer.get m.sender).state ∈ [SeqState.dropOpening, .dropClosing, .pickOpening, .pickClosing] →
          t.notices = s.notices.enter .changeFailed (.arm m.sender) 1 ∧ (t.sequencer.get m.sender).state.failed = true ∧
          State.ChangeFails { s with now := max s.now at_, rack := { s.rack with message := none, replyTimer := none } } t m.sender 1) ∧
        ((s.sequencer.get m.sender).state = .reclosing →
          t.notices = s.notices.enter .rackPortUnknown (.arm m.sender) 0 ∧
          t.sequencer.get m.sender =
            { state := .idle, drop := none, target := none, corridor := none, portMark := none, dropUnconfirmed := false,
              phaseTimer := none }) ∧
        t.library = s.library ∧ t.active = s.active ∧ t.supervision = s.supervision ∧ t.link = s.link)

/-- A phase timer expires in a phase state: the change fails with PHASE_TIMEOUT and its sequencer is on the way back or IDLE (R129, R141).
That a stopped timer does not expire, and that the reference is brought to the expiry, is the model's choice (log 5). -/
def Obligations.PhaseExpiry : Prop :=
  ∀ (s : State) (arm : Arm), s.resetPin = false →
    ((s.sequencer.get arm).phaseTimer = none → exec (.phaseTimerExpiry arm) s = .next s) ∧
    (∀ at_, (s.sequencer.get arm).phaseTimer = some at_ → (s.sequencer.get arm).state.isPhase = true →
      ∃ t, exec (.phaseTimerExpiry arm) s = .next t ∧ t.now = max s.now at_ ∧
        t.notices = s.notices.enter .changeFailed (.arm arm) 7 ∧ State.ChangeFails { s with now := max s.now at_ } t arm 7 ∧
        (t.sequencer.get arm).state.failed = true ∧ (t.sequencer.get arm).phaseTimer = none ∧
        t.library = s.library ∧ t.active = s.active ∧ t.supervision = s.supervision ∧ t.link = s.link)

/-! ### Requests: the queue and the form -/

/-- A request handed over enters the queue at the back, or, when the queue holds 4, is answered BUSY at once with the data of its request
and is not carried out. A request row whose request is not at the front of a queue that holds requests waits its turn the same way; at the
front, it is taken and carried out, unless a held-back TABLE DATA makes it wait (R25, R27, R37, R41; log 11). -/
def Obligations.RequestsTakenInOrder : Prop :=
  (∀ (s : State) (tag code : Byte) (params : List Byte), s.resetPin = false → params.length ≤ 1528 →
    (s.service.requests.length < 4 → exec (.serviceReqHandedOver tag code params) s =
      .next { s with service := { s.service with
        requests := s.service.requests ++ [{ tag := tag, code := code, params := params }] } }) ∧
    (4 ≤ s.service.requests.length → exec (.serviceReqHandedOver tag code params) s =
      .next (s.answered tag code .busy .none
        (if code = 0x21 then s.nothingWrittenData
          else if code = 0x50 ∨ code = 0x51 then [byteOf s.queue.credits]
          else [])))) ∧
  (∀ (c : Instr) (r q : Request) (rest : List Request) (s : State), s.resetPin = false → requestOf c = some r →
    r.params.length ≤ 1528 → s.service.requests = q :: rest →
    (q ≠ r → exec c s = exec (.serviceReqHandedOver r.tag r.code r.params) s) ∧
    (q = r → (s.service.heldReply = none ∨ r.code = 0x21) →
      exec c s = .next (completeRequest { s with service := { s.service with requests := rest } } r)) ∧
    (q = r → s.service.heldReply ≠ none → r.code ≠ 0x21 → exec c s = .next s))

/-- A request other than TABLE DATA with a code that is not listed, or with another parameter length than its own, is answered BAD_FORMAT; an
OPEN window is broken and nothing else changes (R26, R29, R38). -/
def Obligations.BadFormatAnswered : Prop :=
  ∀ (c : Instr) (r : Request) (s : State), s.Ready → requestOf c = some r → r.params.length ≤ 1528 → r.code ≠ 0x21 →
    (r.code, r.params.length) ∉ listedLengths →
    exec c s = .next (s.windowBroken.answered r.tag r.code .badFormat .none [])

/-! ### Requests: tables -/

/-- TABLE OPEN: PARAMETER for a table above 6 or a method above 1, RANGE for a start above the end or an end outside the table, otherwise
the window OPEN on the table with the pointer at start; nothing else changes (R30, R34). That PARAMETER comes before RANGE where both fail is
the model's choice (log 17). -/
def Obligations.TableOpen : Prop :=
  ∀ (s : State) (tag table s0 s1 e0 e1 method : Byte), s.Ready →
    exec (.tableOpen tag [table, s0, s1, e0, e1, method]) s = .next
      (match tableOf table.toNat, methodOf method.toNat with
        | some t, some m =>
          if s0.toNat + 256 * s1.toNat ≤ e0.toNat + 256 * e1.toNat ∧ e0.toNat + 256 * e1.toNat < tableSize t then
            ({ s with
                service := { s.service with
                  window := .opened { table := t, start := s0.toNat + 256 * s1.toNat, last := e0.toNat + 256 * e1.toNat, method := m,
                                      pointer := s0.toNat + 256 * s1.toNat } } }).answered tag 0x20 .done .none []
          else s.windowBroken.answered tag 0x20 .badValue .range []
        | _, _ => s.windowBroken.answered tag 0x20 .badValue .parameter [])

/-- A TABLE DATA that writes nothing: BUSY while one is held back, before every other check; NO_WINDOW unless the window is OPEN, whatever
the length; BAD_FORMAT for a wrong length; PARAMETER for a count outside 1 to 16. The window is not broken (R35, R37, R41). -/
def Obligations.TableDataWritesNothing : Prop :=
  ∀ (s : State) (tag : Byte) (params : List Byte), s.resetPin = false → s.service.requests = [] → params.length ≤ 1528 →
    (s.service.heldReply ≠ none →
      exec (.tableData tag params) s = .next (s.answered tag 0x21 .busy .none s.nothingWrittenData)) ∧
    (s.service.heldReply = none → (∀ w, s.service.window ≠ .opened w) →
      exec (.tableData tag params) s = .next (s.answered tag 0x21 .state .noWindow s.nothingWrittenData)) ∧
    (∀ w, s.service.heldReply = none → s.service.window = .opened w → (w.table.heldBack && s.link.returnInProcessing) = false →
      (params = [] ∨ params.length ≠ 1 + (params.headD 0).toNat * entryLength w.table →
        exec (.tableData tag params) s = .next (s.answered tag 0x21 .badFormat .none [])) ∧
      (params ≠ [] → params.length = 1 + (params.headD 0).toNat * entryLength w.table →
        (params.headD 0 = 0 ∨ 16 < (params.headD 0).toNat) →
        exec (.tableData tag params) s = .next (s.answered tag 0x21 .badValue .parameter s.nothingWrittenData)))

/-- A TABLE DATA of one entry in an OPEN window, written at once: past the end it is counted and nothing is checked; refused, the outcome
and position 1 are reported and nothing is written; passing, it is written at the pointer, which advances (R36, R37, R39). -/
def Obligations.TableDataOneEntry : Prop :=
  ∀ (s : State) (tag : Byte) (entry : List Byte) (w : WindowValues), s.Ready → s.service.window = .opened w →
    (w.table.heldBack && s.link.returnInProcessing) = false → entry.length = entryLength w.table →
    (w.method = .stop → w.last < w.pointer →
      exec (.tableData tag (1 :: entry)) s = .next (s.answered tag 0x21 .done .none ([0, 1, 0] ++ leBytes 2 w.pointer ++ [1]))) ∧
    ((w.method = .wrap ∨ w.pointer ≤ w.last) →
      (∀ r, checkEntry s w.table w.pointer entry = .error r →
        exec (.tableData tag (1 :: entry)) s =
          .next (s.answered tag 0x21 (if r = .field ∨ r = .entry then .badValue else .state) r
            ([0, 0, 1] ++ leBytes 2 w.pointer ++ [1]))) ∧
      (∀ e, checkEntry s w.table w.pointer entry = .ok e →
        ∃ next, (w.method = .stop → next = w.pointer + 1) ∧
          (w.method = .wrap → next = if w.last < w.pointer + 1 then w.start else w.pointer + 1) ∧
          exec (.tableData tag (1 :: entry)) s =
            .next ((writeEntry { s with service := { s.service with window := .opened { w with pointer := next } } } w.pointer e).answered
              tag 0x21 .done .none ([1, 0, 0] ++ leBytes 2 next ++ [1]))))

/-- The entries of a TABLE DATA are handled one by one: past the end an entry is counted and not checked; a refused one ends the work with
its position, outcome and reason; one that passes is written at the pointer, or placed in the deferred-write buffer, and the pointer advances
(R36, R37, R39, R40). With outcome DONE each entry was written or past the end; otherwise the failing position follows those that were; in
method STOP the pointer moved by the entries written. A TABLE DATA of 1 to 16 entries in an OPEN window, written at once, does this with its
entries from position 1, stores the pointer, and is answered with the outcome, the counts, the pointer and the window OPEN (R36, R37). -/
def Obligations.TableDataCounts : Prop :=
  (∀ (held : Bool) (s : State) (w : WindowValues) (entries : List (List Byte)),
    let d := handleEntries held 1 entries (DataRun.start s w)
    (d.outcome = .done → d.position = 0 ∧ d.written + d.past = entries.length) ∧
    (d.outcome ≠ .done → d.position = d.written + d.past + 1 ∧ d.position ≤ entries.length) ∧
    (w.method = .stop → d.window.pointer = w.pointer + d.written) ∧
    d.window.table = w.table ∧ d.window.start = w.start ∧ d.window.last = w.last ∧ d.window.method = w.method) ∧
  (∀ (held : Bool) (k : Nat) (b : List Byte) (bs : List (List Byte)) (d : DataRun),
    let w := d.window
    (w.method = .stop → w.last < w.pointer →
      handleEntries held k (b :: bs) d = handleEntries held (k + 1) bs { d with past := d.past + 1 }) ∧
    (w.method = .wrap ∨ w.pointer ≤ w.last →
      (∀ r, checkEntry d.state w.table w.pointer b = .error r →
        handleEntries held k (b :: bs) d =
          { d with position := k, outcome := if r = .field ∨ r = .entry then .badValue else .state, reason := r }) ∧
      (∀ e, checkEntry d.state w.table w.pointer b = .ok e →
        ∃ next, (w.method = .stop → next = w.pointer + 1) ∧
          (w.method = .wrap → next = if w.last < w.pointer + 1 then w.start else w.pointer + 1) ∧
          handleEntries held k (b :: bs) d = handleEntries held (k + 1) bs
            { d with
              state :=
                if held then
                  { d.state with service := { d.state.service with deferred := d.state.service.deferred ++ [(w.pointer, e)] } }
                else writeEntry d.state w.pointer e
              window := { w with pointer := next }
              written := d.written + 1 }))) ∧
  (∀ (s : State) (tag : Byte) (entries : List (List Byte)) (w : WindowValues), s.Ready → s.service.window = .opened w →
    (w.table.heldBack && s.link.returnInProcessing) = false → (∀ b ∈ entries, b.length = entryLength w.table) →
    1 ≤ entries.length → entries.length ≤ 16 → 1 + entries.length * entryLength w.table ≤ 1528 →
    let d := handleEntries false 1 entries (DataRun.start s w)
    exec (.tableData tag (byteOf entries.length :: entries.flatten)) s =
      .next (({ d.state with service := { d.state.service with window := .opened d.window } }).answered tag 0x21 d.outcome d.reason
        ([byteOf d.written, byteOf d.past, byteOf d.position] ++ leBytes 2 d.window.pointer ++ [1])))

/-- A TABLE DATA for SETUP, CHANNEL, AXIS or MAP taken while a return frame is in processing writes no table and gets no reply yet: one that
is handed over and taken between any two pieces of the frame, and passes its checks there, is in the buffer; when the frame leaves
processing it is written, last of all, and its reply DONE follows the frame (R36, R37, R39, R40; a frame as one command: log 10). Whatever
it is, right or wrong in form, its entries are handled at once and its answer is fixed and held back; that a wrong length or count is held
back too is the model's reading (log 13). The buffered entries are written in the order of placement. -/
def Obligations.TableDataHeldBack : Prop :=
  (∀ (s : State) (f : CycleFrame) (n : Nat) (tag : Byte) (w : WindowValues) (entry : List Byte) (e : Entry), s.Ready →
    cycleFits f = true → n ≤ f.slots.length + 3 → s.service.deferred = [] → s.link.txU.length ≤ 6 → s.service.window = .opened w →
    w.table.heldBack = true → entry.length = entryLength w.table → (w.method = .wrap ∨ w.pointer ≤ w.last) →
    let during : List Interleaved := [⟨n, .handOver tag 0x21 (1 :: entry)⟩, ⟨n, .serve⟩]
    let m := framePieces .d during 0 n ((Mid.idle s).takes .d f)
    checkEntry m.state w.table w.pointer entry = .ok e →
    ∃ t u next, exec (.returnCycleFrame f during) s = .next t ∧
      (w.method = .stop → next = w.pointer + 1) ∧
      (w.method = .wrap → next = if w.last < w.pointer + 1 then w.start else w.pointer + 1) ∧
      u.setup = s.setup ∧ u.axes = s.axes ∧ u.map = s.map ∧ (writeEntry u w.pointer e).SameTables t ∧
      t.service = { s.service with window := .opened { w with pointer := next } } ∧
      (∃ frames, t.link.txU =
        s.link.txU ++ frames ++ [.reply {
          tag := tag
          code := 0x21
          answer := { outcome := .done, reason := .none, data := [1, 0, 0] ++ leBytes 2 next ++ [1] } }] ∧
        (f.cycle ∈ s.link.outstanding → frames = []) ∧
        (f.cycle ∉ s.link.outstanding → ∃ slots, frames = [.back { cycle := f.cycle, slots := slots }]))) ∧
  (∀ (s : State) (tag : Byte) (params : List Byte) (w : WindowValues), s.Ready → params.length ≤ 1528 →
    s.service.window = .opened w → w.table.heldBack = true → s.link.returnInProcessing = true →
    exec (.tableData tag params) s = .next
      ({ (dataInWindow true s w params).1 with
        service := { (dataInWindow true s w params).1.service with
          heldReply := some { tag := tag, code := 0x21, answer := (dataInWindow true s w params).2 } } }) ∧
    s.SameTables (dataInWindow true s w params).1 ∧ (dataInWindow true s w params).1.link = s.link ∧
    ∃ placed, (dataInWindow true s w params).1.service.deferred = s.service.deferred ++ placed ∧
      placed.length = ((dataInWindow true s w params).2.data.headD 0).toNat) ∧
  (∀ (s : State) (r : Reply), s.service.heldReply = some r → s.Room .u →
    (leaveProcessing s).service.deferred = [] ∧ (leaveProcessing s).service.heldReply = none ∧
    (leaveProcessing s).link = { s.link with returnInProcessing := false, txU := s.link.txU ++ [.reply r] } ∧
    (s.service.deferred.foldl (fun s p => writeEntry s p.1 p.2) s).SameTables (leaveProcessing s))

/-- TABLE CONTINUE: a BROKEN window is OPEN again with its values and reported; an OPEN one has been broken and a CLOSED one stays, both
refused with NOT_BROKEN (R38). -/
def Obligations.TableContinue : Prop :=
  ∀ (s : State) (tag : Byte), s.Ready →
    (∀ w, s.service.window = .broken w →
      exec (.tableContinue tag []) s = .next
        (({ s with service := { s.service with window := .opened w } }).answered tag 0x22 .done .none
          (byteOf (tableCode w.table) :: leBytes 2 w.pointer))) ∧
    ((∀ w, s.service.window ≠ .broken w) →
      exec (.tableContinue tag []) s = .next (s.windowBroken.answered tag 0x22 .state .notBroken []))

/-- TABLE READ: PARAMETER for a table above 6 or a count outside 1 to 16, RANGE beyond the table, otherwise the header and the entries of
the table's length, entry after entry the bytes of the stored entry as it stands; the tables are unchanged (R30 to R32, R42). That PARAMETER
comes before RANGE, and that the value bytes of an absent field come from the reply's free values, is the model's choice (logs 17, 6). -/
def Obligations.TableRead : Prop :=
  ∀ (s : State) (tag table s0 s1 count : Byte), s.Ready →
    (tableOf table.toNat = none ∨ count = 0 ∨ 16 < count.toNat →
      exec (.tableRead tag [table, s0, s1, count]) s = .next (s.windowBroken.answered tag 0x23 .badValue .parameter [])) ∧
    (∀ t, tableOf table.toNat = some t → 1 ≤ count.toNat → count.toNat ≤ 16 →
      let start := s0.toNat + 256 * s1.toNat
      (tableSize t < start + count.toNat →
        exec (.tableRead tag [table, s0, s1, count]) s = .next (s.windowBroken.answered tag 0x23 .badValue .range [])) ∧
      (start + count.toNat ≤ tableSize t →
        ∃ data, data.length = 4 + count.toNat * entryLength t ∧ data.take 4 = [table, s0, s1, count] ∧
          (∀ k, k < count.toNat →
            let fill : Nat → Byte := fun o => Config.absentByte s.freeIndex (4 + k * entryLength t + o)
            (data.drop (4 + k * entryLength t)).take (entryLength t) =
              match t with
              | .setup => setupBytes fill s.setup
              | .channel => channelBytes fill (Table.entry s.channels (start + k))
              | .axis => axisBytes fill (Table.entry s.axes (start + k))
              | .map => leIntBytes 4 (mapPoint s.map (start + k))
              | .zone => zoneBytes (Table.entry s.zones (start + k))
              | .library => libraryBytes fill (Table.entry s.library (start + k))
              | .plan => planBytes fill (Table.entry s.plan (start + k))) ∧
          exec (.tableRead tag [table, s0, s1, count]) s = .next
            (({ s.windowBroken with freeIndex := s.freeIndex + 1 }).answered tag 0x23 .done .none data)))

/-! ### Requests: changes, arms and walks -/

/-- CHANGE PROBE refused or with nothing to do: the checks of R126 in order, each with its reply: BUSY, ARM_STOPPED, PROBE_UNKNOWN,
PROBE_NOT_ALLOWED, nothing to do, TARGET_LOCATION for a target that is not IN_RACK or is the target of the other arm's active change,
NO_DROP_STATION for an UNKNOWN probe or one without a home station, NO_CORRIDOR for the drop or the pick; a refusal leaves every block as it
stood, and nothing to do raises CHANGE_DONE (R30, R126). -/
def Obligations.ChangeProbeRefused : Prop :=
  ∀ (s : State) (tag arm i0 i1 i2 : Byte), s.Ready →
    let answers (outcome : ReplyOutcome) (reason : Reason) : Prop :=
      exec (.changeProbe tag [arm, i0, i1, i2]) s = .next (s.windowBroken.answered tag 0x30 outcome reason [])
    (armOf arm.toNat = none → answers .badValue .parameter) ∧
    (∀ which, armOf arm.toNat = some which →
      let identity := i0.toNat + 256 * (i1.toNat + 256 * i2.toNat)
      let nothing : Prop := exec (.changeProbe tag [arm, i0, i1, i2]) s = .next
        (({ s.windowBroken with notices := s.notices.enter .changeDone (.arm which) 0 }).answered tag 0x30 .done .none [])
      let noCorridor (st : Option Nat) : Prop := ∃ station, st = some station ∧ corridorOf s which station = none
      (∀ answer, judgeChange s which identity = .refused answer → answers answer.outcome answer.reason ∧ answer.data = []) ∧
      ((s.sequencer.get which).state ≠ .idle → answers .busy .none) ∧
      ((s.sequencer.get which).state = .idle → (s.supervision.get which).state = .stopped → answers .state .armStopped) ∧
      ((s.sequencer.get which).state = .idle → (s.supervision.get which).state ≠ .stopped →
        (identity ≠ 0 → findIdentity s identity = none → answers .badValue .probeUnknown) ∧
        (∀ i e, identity ≠ 0 → findIdentity s identity = some (i, e) →
          (e.allowed.covers which = false → answers .badValue .probeNotAllowed) ∧
          (e.allowed.covers which = true → s.active.get which = .known i → nothing) ∧
          (e.allowed.covers which = true → s.active.get which ≠ .known i →
            (e.location ≠ .inRack → answers .state .targetLocation) ∧
            (∀ b, (s.sequencer.get (otherArm which)).state ≠ .idle → (s.sequencer.get (otherArm which)).target = some b →
              b.index = i → answers .state .targetLocation) ∧
            (e.location = .inRack →
              ((s.sequencer.get (otherArm which)).state = .idle ∨
                ∀ b, (s.sequencer.get (otherArm which)).target = some b → b.index ≠ i) →
              (∀ x, s.active.get which = .unknown x → answers .state .noDropStation) ∧
              (∀ j d, s.active.get which = .known j → Table.entry s.library j = some d →
                (d.home = none → answers .state .noDropStation) ∧
                (d.home ≠ none → noCorridor d.home ∨ noCorridor e.home → answers .state .noCorridor)) ∧
              (s.active.get which = .none → noCorridor e.home → answers .state .noCorridor)))) ∧
        (identity = 0 → s.active.get which = .none → nothing) ∧
        (identity = 0 → ∀ x, s.active.get which = .unknown x → answers .state .noDropStation) ∧
        (∀ j d, identity = 0 → s.active.get which = .known j → Table.entry s.library j = some d →
          (d.home = none → answers .state .noDropStation) ∧ (noCorridor d.home → answers .state .noCorridor))))

/-- CHANGE PROBE accepted with the rack free: the rack is granted at once, the sequencer is in DROP_OPENING or PICK_OPENING with its record
set, the phase timer started and the port mark set, OPEN_PORT for the station is the PENDING message with the next tag, and the arm's
capture is suspended, a latched touch counted as a bounce; with the rack held by the other arm and nobody waiting, the sequencer waits in
QUEUED (R117, R119, R127 to R129, R147). During the change the arm's reports act so: DETACHED in DROP_CORRIDOR drops the probe at its
station, unconfirmed, and enters DROP_LEAVING (R132); ATTACHED with the target's identity in PICK_CORRIDOR mounts it and enters
PICK_LEAVING, or with the entry MOUNTED on the other arm, or with another identity, fails the change with WRONG_PROBE after the effects of
R114 or R137: the target LOST unless it is MOUNTED on the other arm; an entry found with the reported identity MOUNTED here and SUSPECT if
it was CALIBRATED, or, MOUNTED on the other arm, LOST with that arm's record NONE, PROBE_LOST raised for it and this arm's record UNKNOWN;
without one UNKNOWN (R136, R137); a report that does not agree has the effects of a mount change in every other state, and fails a change
that has not failed (R139). -/
def Obligations.ChangeProbeAccepted : Prop :=
  (∀ (s : State) (tag arm i0 i1 i2 : Byte) (which : Arm) (p : ChangePlan) (first : Berth), s.Ready → armOf arm.toNat = some which →
    judgeChange s which (i0.toNat + 256 * (i1.toNat + 256 * i2.toNat)) = .accepted p → p.drop.or p.target = some first →
    ∃ t, exec (.changeProbe tag [arm, i0, i1, i2]) s = .next t ∧
      t.capture = s.capture.put which (s.capture.get which).suspendedNow ∧ t.sequencer.get (otherArm which) = s.sequencer.get (otherArm which) ∧
      t.supervision = s.supervision ∧ t.active = s.active ∧ s.SameTables t ∧ t.queue = s.queue ∧ t.notices = s.notices ∧
      t.service = s.windowBroken.service ∧ t.link = (s.answered tag 0x30 .done .none []).link ∧
      (s.rack.holder = none → s.rack.message = none →
        t.sequencer.get which =
          { state := if p.drop.isSome then .dropOpening else .pickOpening, drop := p.drop, target := p.target, corridor := none,
            portMark := some first.station, dropUnconfirmed := false,
            phaseTimer := some (s.now + s.setup.phaseLimit * 1000000) } ∧
        t.rack = { s.rack with
          holder := some which, nextTag := s.rack.nextTag + 1
          message := some { sender := which, tag := s.rack.nextTag, command := .openPort, station := first.station, phase := .pending } }) ∧
      (s.rack.holder = some (otherArm which) → s.rack.waiting = none →
        t.sequencer.get which =
          { state := .queued, drop := p.drop, target := p.target, corridor := none, portMark := none, dropUnconfirmed := false,
            phaseTimer := none } ∧
        t.rack = { s.rack with waiting := some which })) ∧
  (∀ (s : State) (arm : Arm) (r : ProbeReport),
    let q := s.sequencer.get arm
    let t := libraryReport s arm r
    (∀ d, q.state = .dropCorridor → r.identity = none → q.drop = some d →
      (s.active.get arm = .known d.index →
        t.active.get arm = .none ∧
        Table.entry t.library d.index = (Table.entry s.library d.index).map (fun e => { e with location := .inRack }) ∧
        (∀ j, j ≠ d.index → Table.entry t.library j = Table.entry s.library j) ∧
        t.sequencer.get arm = { q with state := .dropLeaving, dropUnconfirmed := true, phaseTimer := s.phaseExpiry } ∧
        t.notices = s.notices ∧ t.rack = s.rack ∧ envelopeRadius t arm = 0) ∧
      (s.active.get arm = .none →
        t = { s with sequencer := s.sequencer.put arm { q with state := .dropLeaving, phaseTimer := s.phaseExpiry } })) ∧
    (∀ b e x, q.state = .pickCorridor → r.identity = some x → s.active.get arm = .none → q.target = some b →
      Table.entry s.library b.index = some e →
      (e.identity = x → e.location ≠ .mounted (otherArm arm) →
        t.active.get arm = .known b.index ∧ Table.entry t.library b.index = some { e with location := .mounted arm } ∧
        (∀ j, j ≠ b.index → Table.entry t.library j = Table.entry s.library j) ∧
        t.sequencer.get arm = { q with state := .pickLeaving, phaseTimer := s.phaseExpiry } ∧ t.notices = s.notices ∧ t.rack = s.rack) ∧
      (e.identity = x → e.location = .mounted (otherArm arm) →
        t.active = (s.active.put (otherArm arm) .none).put arm (.unknown x) ∧
        Table.entry t.library b.index = some { e with location := .lost } ∧ (t.sequencer.get arm).state.failed = true ∧
        t.notices = ((s.notices.enter .probeLost (.arm (otherArm arm)) 0).enter .probeMountedManual (.arm arm) 0).enter
          .changeFailed (.arm arm) 6) ∧
      (e.identity ≠ x → findIdentity s x = none →
        t.active.get arm = .unknown x ∧ (t.sequencer.get arm).state.failed = true ∧
        t.notices = s.notices.enter .changeFailed (.arm arm) 6 ∧
        (e.location ≠ .mounted (otherArm arm) → Table.entry t.library b.index = some { e with location := .lost })) ∧
      (∀ i found, e.identity ≠ x → findIdentity s x = some (i, found) → Table.entry s.library i = some found → i ≠ b.index →
        (t.sequencer.get arm).state.failed = true ∧
        Table.entry t.library b.index = some (if e.location = .mounted (otherArm arm) then e else { e with location := .lost }) ∧
        (∀ j, j ≠ b.index → j ≠ i → Table.entry t.library j = Table.entry s.library j) ∧
        (found.location ∈ [Location.inRack, .outside, .lost] →
          t.active = s.active.put arm (.known i) ∧
          Table.entry t.library i = some { found with
            location := .mounted arm
            calibration := if found.calibration = .calibrated then .suspect else found.calibration } ∧
          t.notices = s.notices.enter .changeFailed (.arm arm) 6) ∧
        (found.location = .mounted (otherArm arm) →
          t.active = (s.active.put (otherArm arm) .none).put arm (.unknown x) ∧
          Table.entry t.library i = some { found with location := .lost } ∧
          t.notices = (s.notices.enter .probeLost (.arm (otherArm arm)) 0).enter .changeFailed (.arm arm) 6))) ∧
    (q.state = .pickCorridor → r.identity = none → t = s) ∧
    (q.state ≠ .idle → reportAgrees s arm r = true → (q.state = .dropCorridor → r.identity ≠ none) → t = s) ∧
    (q.state ∈ [SeqState.queued, .dropOpening, .pickOpening, .dropLeaving, .pickLeaving, .dropClosing, .pickClosing] →
      reportAgrees s arm r = false →
      t.library = (mountChange s arm r).library ∧ t.active = (mountChange s arm r).active ∧ (t.sequencer.get arm).state.failed = true ∧
      t.notices = (mountChange s arm r).notices.enter .changeFailed (.arm arm) 6) ∧
    (q.state ∈ [SeqState.winding, .clearing, .reclosing] → reportAgrees s arm r = false → t = mountChange s arm r))

/-- ABORT CHANGE: NOT_ACTIVE in IDLE; DONE and nothing changed in WINDING, CLEARING and RECLOSING; in QUEUED the arm withdraws and is IDLE,
and in a phase state the sequencer is on the way back or IDLE, both with CHANGE_FAILED, cause ABORTED (R30, R117, R141, R143). -/
def Obligations.AbortChange : Prop :=
  ∀ (s : State) (tag arm : Byte), s.Ready →
    (armOf arm.toNat = none →
      exec (.abortChange tag [arm]) s = .next (s.windowBroken.answered tag 0x31 .badValue .parameter [])) ∧
    (∀ which, armOf arm.toNat = some which →
      ((s.sequencer.get which).state = .idle →
        exec (.abortChange tag [arm]) s = .next (s.windowBroken.answered tag 0x31 .state .notActive [])) ∧
      ((s.sequencer.get which).state ∈ [SeqState.winding, .clearing, .reclosing] →
        exec (.abortChange tag [arm]) s = .next (s.windowBroken.answered tag 0x31 .done .none [])) ∧
      ((s.sequencer.get which).state = .queued →
        exec (.abortChange tag [arm]) s = .next
          (({ s.windowBroken with
            notices := s.notices.enter .changeFailed (.arm which) 8
            rack := { s.rack with waiting := if s.rack.waiting = some which then none else s.rack.waiting }
            sequencer := s.sequencer.put which
              { state := .idle, drop := none, target := none, corridor := none, portMark := none, dropUnconfirmed := false,
                phaseTimer := none } }).answered tag 0x31 .done .none [])) ∧
      ((s.sequencer.get which).state.isPhase = true →
        ∃ t u, exec (.abortChange tag [arm]) s = .next t ∧ t = u.answered tag 0x31 .done .none [] ∧
          s.windowBroken.ChangeFails u which 8 ∧ (t.sequencer.get which).state.failed = true ∧
          (t.sequencer.get which).phaseTimer = none ∧ t.notices = s.notices.enter .changeFailed (.arm which) 8 ∧
          t.link = (s.answered tag 0x31 .done .none []).link ∧ t.supervision = s.supervision ∧ s.SameTables t ∧
          t.active = s.active))

/-- STOP ARM stops the named arm with cause REQUEST, raises ARM_STOPPED and is answered DONE; an arm already STOPPED keeps its cause, and is
still answered DONE (R91, R100). The arm's capture is suspended: the latch emptied, the count 0, the stuck-committed mark clear, and from
CONFIRMING one bounce more (R147). In DROP_CORRIDOR, DROP_LEAVING, PICK_CORRIDOR and PICK_LEAVING the change fails with ARM_STOPPED; in every
other state the sequencer stays as it is (R140, R141). -/
def Obligations.StopArm : Prop :=
  ∀ (s : State) (tag arm : Byte), s.Ready →
    (armOf arm.toNat = none →
      exec (.stopArm tag [arm]) s = .next (s.windowBroken.answered tag 0x32 .badValue .parameter [])) ∧
    (∀ which, armOf arm.toNat = some which →
      ((s.supervision.get which).state = .stopped →
        exec (.stopArm tag [arm]) s = .next (s.windowBroken.answered tag 0x32 .done .none [])) ∧
      ((s.supervision.get which).state ≠ .stopped →
        let halted : State := { s.windowBroken with
          supervision := s.supervision.put which { s.supervision.get which with state := .stopped, cause := .request }
          notices := s.notices.enter .armStopped (.arm which) 2
          capture := s.capture.put which (s.capture.get which).suspendedNow }
        let open_ := [SeqState.dropCorridor, .dropLeaving, .pickCorridor, .pickLeaving]
        ((s.sequencer.get which).state ∉ open_ →
          exec (.stopArm tag [arm]) s = .next (halted.answered tag 0x32 .done .none [])) ∧
        ((s.sequencer.get which).state ∈ open_ →
          ∃ t, halted.ChangeFails t which 9 ∧ exec (.stopArm tag [arm]) s = .next (t.answered tag 0x32 .done .none []))))

/-- RELEASE ARM: the five conditions in order, each with its reason and the arm left as it stands; then the setpoint is the corrected head
position, the arm is FREE, its consecutive-hold run 0 and its stop cause kept, and nothing else changes (R30, R101, R102). -/
def Obligations.ReleaseArm : Prop :=
  ∀ (s : State) (tag arm : Byte), s.Ready →
    (armOf arm.toNat = none →
      exec (.releaseArm tag [arm]) s = .next (s.windowBroken.answered tag 0x33 .badValue .parameter [])) ∧
    (∀ which, armOf arm.toNat = some which →
      ((s.supervision.get which).state ≠ .stopped →
        exec (.releaseArm tag [arm]) s = .next (s.windowBroken.answered tag 0x33 .state .notStopped [])) ∧
      ((s.supervision.get which).state = .stopped →
        (s.link.watch ≠ .watching →
          exec (.releaseArm tag [arm]) s = .next (s.windowBroken.answered tag 0x33 .state .link [])) ∧
        (s.link.watch = .watching →
          ((s.supervision.get which).overtravel = some true →
            exec (.releaseArm tag [arm]) s = .next (s.windowBroken.answered tag 0x33 .state .overtravel [])) ∧
          ((s.supervision.get which).overtravel ≠ some true →
            (correctedHead s which = none →
              exec (.releaseArm tag [arm]) s = .next (s.windowBroken.answered tag 0x33 .state .noPosition [])) ∧
            (∀ p, correctedHead s which = some p →
              (zoneCheck s which p = false →
                exec (.releaseArm tag [arm]) s = .next (s.windowBroken.answered tag 0x33 .state .zone [])) ∧
              (zoneCheck s which p = true →
                exec (.releaseArm tag [arm]) s = .next
                  (({ s.windowBroken with
                    supervision := s.supervision.put which
                      { s.supervision.get which with state := .free, setpoint := some p, holdRun := 0 } }).answered
                    tag 0x33 .done .none [])))))))

/-- PLAN START: PARAMETER, RANGE or WALK_RUNNING, otherwise the walk RUNNING at the first index with the loop flag given. PLAN RESUME: a
walk PARKED with a head is RUNNING again with the same head and loop flag, any other walk is refused with NOT_PARKED. Nothing else changes
(R30, R164, R166). That PARAMETER comes before RANGE where both fail is the model's choice (log 17). -/
def Obligations.PlanStartAndResume : Prop :=
  (∀ (s : State) (tag arm f0 f1 loop : Byte), s.Ready →
    (armOf arm.toNat = none ∨ 1 < loop.toNat →
      exec (.planStart tag [arm, f0, f1, loop]) s = .next (s.windowBroken.answered tag 0x40 .badValue .parameter [])) ∧
    (∀ which, armOf arm.toNat = some which → loop.toNat ≤ 1 →
      (511 < f0.toNat + 256 * f1.toNat →
        exec (.planStart tag [arm, f0, f1, loop]) s = .next (s.windowBroken.answered tag 0x40 .badValue .range [])) ∧
      (f0.toNat + 256 * f1.toNat ≤ 511 →
        ((s.walk.get which).state = .running →
          exec (.planStart tag [arm, f0, f1, loop]) s = .next (s.windowBroken.answered tag 0x40 .state .walkRunning [])) ∧
        ((s.walk.get which).state ≠ .running →
          exec (.planStart tag [arm, f0, f1, loop]) s = .next
            (({ s.windowBroken with
              walk := s.walk.put which { state := .running, head := some (f0.toNat + 256 * f1.toNat), loop := loop == 1 } }).answered
              tag 0x40 .done .none []))))) ∧
  (∀ (s : State) (tag arm : Byte), s.Ready →
    (armOf arm.toNat = none →
      exec (.planResume tag [arm]) s = .next (s.windowBroken.answered tag 0x42 .badValue .parameter [])) ∧
    (∀ which, armOf arm.toNat = some which →
      ((s.walk.get which).state = .parked → (s.walk.get which).head ≠ none →
        exec (.planResume tag [arm]) s = .next
          (({ s.windowBroken with walk := s.walk.put which { s.walk.get which with state := .running } }).answered
            tag 0x42 .done .none [])) ∧
      ((s.walk.get which).state ≠ .parked ∨ (s.walk.get which).head = none →
        exec (.planResume tag [arm]) s = .next (s.windowBroken.answered tag 0x42 .state .notParked []))))

/-- PLAN STOP puts the walk in WALK_STOPPED with no head and the loop flag clear, in every walk state, and is answered DONE; entries, owners
and results stay; with both walks out of RUNNING and PARKED with a head, no PLAN entry is refused with PLAN_ACTIVE (R165). -/
def Obligations.PlanStop : Prop :=
  (∀ (s : State) (tag arm : Byte) (which : Arm), s.Ready → armOf arm.toNat = some which →
    exec (.planStop tag [arm]) s = .next
      (({ s.windowBroken with walk := s.walk.put which { state := .stopped, head := none, loop := false } }).answered
        tag 0x41 .done .none [])) ∧
  (∀ (s : State) (tag arm : Byte), s.Ready → armOf arm.toNat = none →
    exec (.planStop tag [arm]) s = .next (s.windowBroken.answered tag 0x41 .badValue .parameter [])) ∧
  (∀ (s : State) (i : Nat) (e : Option PlanEntry),
    (∀ which, (s.walk.get which).state ≠ .running ∧ ((s.walk.get which).state = .parked → (s.walk.get which).head = none)) →
    judgeEntry s i (.plan e) = none)

/-! ### Requests: queue, notices, status, restart -/

/-- SET CREDITS makes the count n, ADD CREDITS the smaller of 255 and the count plus n; both are answered DONE with the count they leave
(R177). -/
def Obligations.Credits : Prop :=
  ∀ (s : State) (tag n : Byte), s.Ready →
    exec (.setCredits tag [n]) s = .next
      (({ s.windowBroken with queue := { s.queue with credits := n.toNat } }).answered tag 0x50 .done .none [n]) ∧
    exec (.addCredits tag [n]) s = .next
      (({ s.windowBroken with queue := { s.queue with credits := min 255 (s.queue.credits + n.toNat) } }).answered tag 0x51 .done .none
        [byteOf (min 255 (s.queue.credits + n.toNat))])

/-- READ NOTICES: PARAMETER outside 1 to 8; otherwise the oldest entries of the top pending class, up to the count, are removed and
returned, and the entries of the other classes keep their order (R30, R188, R189). -/
def Obligations.ReadNotices : Prop :=
  ∀ (s : State) (tag count : Byte), s.Ready →
    (count = 0 ∨ 8 < count.toNat →
      exec (.readNotices tag [count]) s = .next (s.windowBroken.answered tag 0x60 .badValue .parameter [])) ∧
    (1 ≤ count.toNat → count.toNat ≤ 8 →
      let top := s.notices.entries.filter (fun e => noticeClass e.kind == topClass s.notices.entries)
      ∃ left, exec (.readNotices tag [count]) s = .next
          (({ s.windowBroken with notices := { s.notices with entries := left } }).answered tag 0x60 .done .none
            (byteOf (min count.toNat top.length) :: (top.take count.toNat).flatMap noticeBytes)) ∧
        left.filter (fun e => noticeClass e.kind == topClass s.notices.entries) = top.drop count.toNat ∧
        left.filter (fun e => noticeClass e.kind != topClass s.notices.entries) =
          s.notices.entries.filter (fun e => noticeClass e.kind != topClass s.notices.entries))

/-- SET NOTICE MASK replaces the mask whole, positions 20 to 31 disregarded; with position 0 or 1 set it is refused with MASK_SAFETY and the
mask stays; entries stay (R190). -/
def Obligations.SetNoticeMask : Prop :=
  ∀ (s : State) (tag m0 m1 m2 m3 : Byte), s.Ready →
    (m0.toNat % 4 ≠ 0 →
      exec (.setNoticeMask tag [m0, m1, m2, m3]) s = .next (s.windowBroken.answered tag 0x61 .badValue .maskSafety [])) ∧
    (m0.toNat % 4 = 0 →
      exec (.setNoticeMask tag [m0, m1, m2, m3]) s = .next
        (({ s.windowBroken with notices := { s.notices with
          mask := BitVec.ofNat 20 (m0.toNat + 256 * m1.toNat + 65536 * m2.toNat) } }).answered tag 0x61 .done .none []))

/-- READ STATUS: PARAMETER for a flag above 1; otherwise the record of 139 bytes, field by field as it stands: for arm A and then arm B the
arm state and stop cause, the hold position, the corrected position and flags of each axis, the hold run, the clamp, hold, bounce and stuck
counters, the sequencer and its phase timer, the walk and its head, and the active probe record; then the link watch and the part's
counters. With the flag set the counters are zeroed after; nothing else changes (R30, R191; log 6 for the value bytes of absent fields, which
nothing is said of, and for the model's own count). -/
def Obligations.ReadStatus : Prop :=
  ∀ (s : State) (tag flag : Byte), s.Ready →
    (1 < flag.toNat → exec (.readStatus tag [flag]) s = .next (s.windowBroken.answered tag 0x62 .badValue .parameter [])) ∧
    (flag.toNat ≤ 1 →
      ∃ data, data.length = 139 ∧
        (∀ arm : Arm,
          let part := (data.drop (64 * armCode arm)).take 64
          let v := s.supervision.get arm
          let c := s.capture.get arm
          let q := s.sequencer.get arm
          let w := s.walk.get arm
          part.getD 0 0 = byteOf (armStateCode v.state) ∧ part.getD 1 0 = byteOf (stopCauseCode v.cause) ∧
          (v.setpoint = none → part.getD 2 0 = 0) ∧
          (∀ p, v.setpoint = some p →
            (part.drop 2).take 16 = 1 :: (leIntBytes 5 p.x ++ leIntBytes 5 p.y ++ leIntBytes 5 p.z)) ∧
          (∀ ax : Axis,
            let h := (s.head.get arm).record.get ax
            let field := (part.drop (18 + 7 * axisCode ax)).take 7
            (h.last = none → field.getD 0 0 = 0) ∧ (∀ x, h.last = some x → field.take 6 = 1 :: leIntBytes 5 x) ∧
            field.drop 6 = [byteOf (axisFlagCode h.flags)]) ∧
          (part.drop 39).take 10 =
            leBytes 2 v.holdRun ++ leBytes 2 v.clampCount ++ leBytes 2 v.holdCount ++ leBytes 2 c.bounces ++ leBytes 2 c.stucks ∧
          part.getD 49 0 = byteOf (seqStateCode q.state) ∧
          (q.phaseTimer = none → part.getD 50 0 = 0) ∧
          (∀ t, q.phaseTimer = some t →
            (part.drop 50).take 5 = 1 :: leBytes 4 (roundDiv ((t - s.now : Nat) : Int) 1000).toNat) ∧
          part.getD 55 0 = byteOf (walkCode w) ∧ (w.head = none → part.getD 56 0 = 0) ∧
          (∀ i, w.head = some i → (part.drop 56).take 3 = 1 :: leBytes 2 i) ∧
          part.drop 59 =
            match s.active.get arm with
            | .none => [0, 0, 0, 0, 0]
            | .known i => [1, byteOf i, 0, 0, 0]
            | .unknown x => 2 :: 0 :: leBytes 3 x) ∧
        data.drop 128 = byteOf (watchCode s.link.watch) :: (leBytes 2 s.link.badU ++ leBytes 2 s.link.badD ++
          leBytes 2 s.rack.lateReplies ++ leBytes 2 s.queue.overruns ++ leBytes 2 s.notices.lost) ∧
        (flag = 0 → exec (.readStatus tag [flag]) s = .next
          (({ s.windowBroken with freeIndex := s.freeIndex + 1 }).answered tag 0x62 .done .none data)) ∧
        (flag = 1 → exec (.readStatus tag [flag]) s = .next
          (({ s.windowBroken with
            freeIndex := s.freeIndex + 1
            supervision := ⟨{ s.supervision.a with clampCount := 0, holdCount := 0 },
              { s.supervision.b with clampCount := 0, holdCount := 0 }⟩
            capture := ⟨{ s.capture.a with bounces := 0, stucks := 0 }, { s.capture.b with bounces := 0, stucks := 0 }⟩
            link := { s.link with badU := 0, badD := 0 }
            rack := { s.rack with lateReplies := 0 }
            queue := { s.queue with overruns := 0 }
            notices := { s.notices with lost := 0 } }).answered tag 0x62 .done .none data)))

/-- RESTART RUN brings every block to its restart condition as one action: what it sets, and what it keeps (R43, R44, R61, R82, R106, R115,
R123, R144, R160, R173, R185, R192). That a carried message is not sent is shown by the empty payload in the slot of the waiting frame that
carried it, every other byte of the waiting frames being kept (log 27); arm A's notice comes before arm B's (log 20), and the latest PROBE
reports are kept (log 28): the model's choices. -/
def Obligations.RestartRun : Prop :=
  ∀ (s : State) (tag : Byte), s.Ready →
    ∃ u : State, exec (.restartRun tag []) s = .next (u.answered tag 0x70 .done .none []) ∧
      u = { s with
        service := { s.service with window := .closed, deferred := [] },
        link := { s.link with txD := s.link.txD.map fun t => match t with
          | .out f (some n) =>
            .out { f with slots := f.slots.modify n fun sl => { sl with payload := splice sl.payload 0 [0, 0, 0, 0] } } none
          | t => t },
        channels := s.channels.map (fun p => (p.1, { p.2 with run := { p.2.run with age := 0, alarmOn := false } })),
        head := ⟨{ s.head.a with failRun := 0, stopRequested := false }, { s.head.b with failRun := 0, stopRequested := false }⟩,
        supervision := ⟨{ s.supervision.a with state := .stopped, cause := .restart, holdRun := 0 },
          { s.supervision.b with state := .stopped, cause := .restart, holdRun := 0 }⟩,
        sequencer := ⟨Sequencer.initial, Sequencer.initial⟩,
        rack := { s.rack with holder := none, waiting := none, message := none, replyTimer := none },
        capture := ⟨{ Capture.initial with bounces := s.capture.a.bounces, stucks := s.capture.a.stucks },
          { Capture.initial with bounces := s.capture.b.bounces, stucks := s.capture.b.stucks }⟩,
        walk := ⟨Walk.initial, Walk.initial⟩,
        queue := { records := [], credits := 0, nextSequence := 0, overruns := s.queue.overruns, stallCount := 0, stallMark := false,
                   missingMark := false },
        notices :=
          (let emptied : Notices := { s.notices with entries := [] }
            let first := if s.supervision.a.state = .stopped then emptied else emptied.enter .armStopped (.arm .a) 1
            if s.supervision.b.state = .stopped then first else first.enter .armStopped (.arm .b) 1) }

/-! ### The blocks' operations -/

/-- A raise: dropped when the kind is masked; folded into the entry of its kind and subject, whose repeat count gains one up to 255 and whose
detail is the raise's; appended with the current cycle number below 32 entries; otherwise counted as lost (R187). -/
def Obligations.NoticeRaised : Prop :=
  ∀ (n : Notices) (kind : NoticeKind) (subject : Subject) (detail : Nat),
    (n.mask.getLsbD (noticeCode kind) = true → n.enter kind subject detail = n) ∧
    (n.mask.getLsbD (noticeCode kind) = false →
      (∀ before e after, n.entries = before ++ e :: after → e.kind = kind → e.subject = subject →
        (∀ x ∈ before ++ after, ¬ (x.kind = kind ∧ x.subject = subject)) →
        n.enter kind subject detail =
          { n with entries := before ++ { e with detail := detail, repeats := min 255 (e.repeats + 1) } :: after }) ∧
      ((∀ x ∈ n.entries, ¬ (x.kind = kind ∧ x.subject = subject)) →
        (n.entries.length < 32 → n.enter kind subject detail =
          { n with entries := n.entries ++
            [{ kind := kind, subject := subject, detail := detail, firstCycle := n.currentCycle, repeats := 1 }] }) ∧
        (32 ≤ n.entries.length → n.enter kind subject detail = { n with lost := min 65535 (n.lost + 1) })))

/-- A present reading on a used channel: in range, the filter takes it (a seed mark or a FAULT before makes it the value itself), the age
and the out-of-range run are 0, and a VALID or STALE channel is VALID with the value held; a SETTLING channel gains one of progress, one
that was in FAULT starts again at 1, and it is VALID exactly when the progress reaches the settle count; the alarm condition becomes whether
the new filtered value is at or above an ABOVE threshold, or below a BELOW one, false without an alarm, and THERMAL_ALARM is raised when it
turns true. Out of range, filter, held value and alarm condition stay, the age is 0, and the channel is in FAULT, with CHANNEL_FAULT raised
as it enters, once the run reaches the debounce count. An UNUSED channel disregards it (R45, R48 to R53, R55). At frame end each used
channel without a reading gains one of age up to 255; a VALID one that reaches its stale limit is STALE with CHANNEL_STALE raised; of
several channels the raises go from the lowest channel up (the order is the model's choice, log 20); the others keep their state (R54). -/
def Obligations.ChannelTakesReading : Prop :=
  (∀ (s : State) (i : Nat) (t : Int),
    (Table.entry s.channels i = none → takeReading s i t = s) ∧
    (∀ c, Table.entry s.channels i = some c →
      ∃ c', Table.entry (takeReading s i t).channels i = some c' ∧ c'.entry = c.entry ∧ c'.run.age = 0 ∧
        (∀ j, j ≠ i → Table.entry (takeReading s i t).channels j = Table.entry s.channels j) ∧
        (c.entry.low ≤ t + c.entry.trim → t + c.entry.trim ≤ c.entry.high →
          (∀ f, c.run.filtered = some f → c.run.seed = false → c.run.state ≠ .fault →
            c'.run.filtered = some (f + roundDiv (t + c.entry.trim - f) (2 ^ c.entry.shift))) ∧
          (c.run.seed = true ∨ c.run.state = .fault → c'.run.filtered = some (t + c.entry.trim)) ∧
          c'.run.seed = false ∧ c'.run.outRun = 0 ∧
          (c.entry.alarm = none → c'.run.alarmOn = false) ∧
          (∀ threshold f, c'.run.filtered = some f →
            (c.entry.alarm = some (threshold, .above) → (c'.run.alarmOn = true ↔ threshold ≤ f)) ∧
            (c.entry.alarm = some (threshold, .below) → (c'.run.alarmOn = true ↔ f < threshold))) ∧
          (c.run.state = .valid ∨ c.run.state = .stale → c'.run.state = .valid ∧ c'.run.held = c'.run.filtered) ∧
          (c.run.state = .fault ∨ c.run.state = .settling →
            c'.run.progress = (if c.run.state = .fault then 1 else min 15 (c.run.progress + 1)) ∧
            (c.entry.settle ≤ c'.run.progress → c'.run.state = .valid ∧ c'.run.held = c'.run.filtered) ∧
            (c'.run.progress < c.entry.settle → c'.run.state = .settling ∧ c'.run.held = c.run.held)) ∧
          (takeReading s i t).notices =
            if c'.run.alarmOn = true ∧ c.run.alarmOn = false then s.notices.enter .thermalAlarm (.channel i) 0 else s.notices) ∧
        (¬ (c.entry.low ≤ t + c.entry.trim ∧ t + c.entry.trim ≤ c.entry.high) →
          c'.run.filtered = c.run.filtered ∧ c'.run.held = c.run.held ∧ c'.run.alarmOn = c.run.alarmOn ∧
          (c.run.state = .fault → c'.run.state = .fault) ∧
          (c.run.state ≠ .fault → (c'.run.state = .fault ↔ c.entry.debounce ≤ min 8 (c.run.outRun + 1)) ∧
            (c'.run.state ≠ .fault → c'.run.state = c.run.state)) ∧
          (takeReading s i t).notices =
            if c'.run.state = .fault ∧ c.run.state ≠ .fault then s.notices.enter .channelFault (.channel i) 0 else s.notices))) ∧
  (∀ (s : State) (read : List Nat),
    (∀ i c, Table.entry s.channels i = some c →
      Table.entry (ageChannels s read).channels i = some
        (if i ∈ read then c
          else { c with run := { c.run with
            age := min 255 (c.run.age + 1)
            state := if c.run.state = .valid ∧ c.entry.staleLimit ≤ min 255 (c.run.age + 1) then .stale else c.run.state } })) ∧
    (∀ i, Table.entry s.channels i = none → Table.entry (ageChannels s read).channels i = none) ∧
    (∀ before after i c, s.channels = before ++ (i, c) :: after → i ∉ read → c.run.state = .valid →
      c.entry.staleLimit ≤ min 255 (c.run.age + 1) →
      (∀ p ∈ before ++ after, ¬ (p.1 ∉ read ∧ p.2.run.state = .valid ∧ p.2.entry.staleLimit ≤ min 255 (p.2.run.age + 1))) →
      (ageChannels s read).notices = s.notices.enter .channelStale (.channel i) 0) ∧
    ((∀ p ∈ s.channels, ¬ (p.1 ∉ read ∧ p.2.run.state = .valid ∧ p.2.entry.staleLimit ≤ min 255 (p.2.run.age + 1))) →
      (ageChannels s read).notices = s.notices) ∧
    (∀ turned : List Nat, Table.wf 32 s.channels = true → turned.Pairwise (· < ·) →
      (∀ i, i ∈ turned ↔ ∃ c, Table.entry s.channels i = some c ∧ i ∉ read ∧ c.run.state = .valid ∧
        c.entry.staleLimit ≤ min 255 (c.run.age + 1)) →
      (ageChannels s read).notices = turned.foldl (fun n i => n.enter .channelStale (.channel i) 0) s.notices) ∧
    (ageChannels s read).queue = s.queue ∧ (ageChannels s read).head = s.head)

/-- The map term of an axis at a thermal position p_t: 0 with a disabled map; below the map's start the first value with MAP_EDGE; with
i = floor((p_t − m0) / pitch), at or past the last point the last value with MAP_EDGE; otherwise MAP[i] and the rounded share of the step to
MAP[i + 1], without MAP_EDGE, which lies between the two (R69). -/
def Obligations.MapTermBetweenNeighbours : Prop :=
  ∀ (s : State) (index : Nat) (e : AxisEntry) (pt : Int), 2 ≤ e.mapCount → 1 ≤ e.mapPitch →
    let pitch := e.mapPitch * 1000
    let i := ((pt - e.mapStart) / pitch).toNat
    let value (k : Nat) : Int := (Table.entry s.map (index * 256 + k)).getD 0
    (e.mapEnabled = false → mapTerm s index e pt = (0, false)) ∧
    (e.mapEnabled = true →
      (pt < e.mapStart → mapTerm s index e pt = (value 0, true)) ∧
      (e.mapStart ≤ pt → e.mapCount ≤ i + 1 → mapTerm s index e pt = (value (e.mapCount - 1), true)) ∧
      (e.mapStart ≤ pt → i + 1 < e.mapCount →
        mapTerm s index e pt =
          (value i + roundDiv ((value (i + 1) - value i) * ((pt - e.mapStart) % pitch)) pitch, false) ∧
        min (value i) (value (i + 1)) ≤ (mapTerm s index e pt).1 ∧ (mapTerm s index e pt).1 ≤ max (value i) (value (i + 1))) ∧
      ∃ k, k < e.mapCount ∧ ∃ j, j < e.mapCount ∧ value k ≤ (mapTerm s index e pt).1 ∧ (mapTerm s index e pt).1 ≤ value j)

/-- A POSITION slot is written in its corrected positions and flags alone, bits 12 to 15 of the flags left as taken. A computed axis gets
scale position plus thermal term, map term and coupling term, clamped to ±(2^39 − 1) nm, and keeps it; a failed axis (FAIL from the head, or
an empty AXIS record) repeats its last value with the flags kept with it, 0 and none when it has none, and STALE set (R66 to R75). A slot
with a failed axis is a FAIL cycle, one with all three computed ends the run and clears the mark; at frame end an arm whose slot the frame
lacks has STALE set on each axis and a FAIL cycle (R77 to R79). -/
def Obligations.PositionSlotCorrected : Prop :=
  (∀ (s : State) (arm : Arm) (payload : List Byte), 36 ≤ payload.length →
    let w := correctedPayload s arm payload
    w.length = payload.length ∧ w.take 16 = payload.take 16 ∧ w.drop 33 = payload.drop 33 ∧
    uField w 31 2 / 4096 = uField payload 31 2 / 4096 ∧
    (updateRecord s arm payload).head.get (otherArm arm) = s.head.get (otherArm arm) ∧
    ∀ ax : Axis,
      let status := (payload.getD 15 0).toNat / 4 ^ axisCode ax % 4
      let before := (s.head.get arm).record.get ax
      let after := ((updateRecord s arm payload).head.get arm).record.get ax
      (∀ e, Table.entry s.axes (axisIndex arm ax) = some e → status ≤ 1 → e.mapEnabled = false → e.coupled = none →
        let ps := roundDiv ((sField payload (5 * axisCode ax) 5 - e.origin) * e.resolution) 1000
        let term := roundDiv ((ps - e.anchor) * e.coefficient * ((axisTemp s (axisIndex arm ax) e).1 - 20000)) (10 ^ 12)
        after.last = some (clampPosition (ps + term)) ∧ after.thermal = some (ps + term) ∧
        after.flags = { thermalHeld := (axisTemp s (axisIndex arm ax) e).2, mapEdge := false,
                        clamped := !(withinPosition (ps + term)), stale := status == 1 } ∧
        sField w (16 + 5 * axisCode ax) 5 = clampPosition (ps + term)) ∧
      (∀ e pt, Table.entry s.axes (axisIndex arm ax) = some e → s.thermalPosition arm payload ax = some pt →
        let m := mapTerm s (axisIndex arm ax) e pt
        let q := s.couplingOf arm payload e
        after.last = some (clampPosition (pt + m.1 + q.1)) ∧ after.thermal = some pt ∧
        after.flags = { thermalHeld := (axisTemp s (axisIndex arm ax) e).2, mapEdge := m.2,
                        clamped := !(withinPosition (pt + m.1 + q.1)), stale := q.2 || status == 1 } ∧
        sField w (16 + 5 * axisCode ax) 5 = clampPosition (pt + m.1 + q.1)) ∧
      (Table.entry s.axes (axisIndex arm ax) = none ∨ 2 ≤ status →
        after.last = before.last ∧ after.thermal = before.thermal ∧
        (before.last ≠ none → after.flags = { before.flags with stale := true }) ∧
        (before.last = none → after.flags = { thermalHeld := false, mapEdge := false, clamped := false, stale := true }) ∧
        ((∀ v, before.last = some v → withinPosition v = true) →
          sField w (16 + 5 * axisCode ax) 5 = before.last.getD 0)) ∧
      uField w 31 2 / 16 ^ axisCode ax % 16 = axisFlagCode after.flags) ∧
  (∀ (s : State) (arm : Arm) (payload : List Byte),
    ((∀ ax, (s.thermalPosition arm payload ax).isSome = true) →
      (positionSlot s arm payload).head = s.head.put arm
        { record := ((updateRecord s arm payload).head.get arm).record, failRun := 0, stopRequested := false } ∧
      (positionSlot s arm payload).supervision = s.supervision) ∧
    (¬ (∀ ax, (s.thermalPosition arm payload ax).isSome = true) →
      s.FailCounted (positionSlot s arm payload) arm ((updateRecord s arm payload).head.get arm).record) ∧
    s.FailCounted (missingPosition s arm false) arm
      ((s.head.get arm).record.map fun h => { h with flags := { h.flags with stale := true } }) ∧
    missingPosition s arm true = s)

/-- A touch confirmed: the TOUCH record of the latch goes to the walk, and with no walk RUNNING to the queue: the head between the latched
positions, or the current one where the fallback applies, the tip offset stretched, W at 20 °C within ±(2^39 − 1) nm, and the flags
(R150, R153 to R156). In ARMED a deflected report latches the touch, and with a debounce count of 0 commits it at once and enters DEFLECTED
(R149); in CONFIRMING a deflected report counts down, and a quiet or missing one discards the touch as a bounce (R150); in DEFLECTED a
deflected report counts on, and at the stuck limit, once, one STUCK record is committed, while a quiet report leads to REARMING (R151, R157);
in REARMING quiet reports count up to the rearm count and a deflected one starts again (R152). A stop that changes the arm's state, and a
change of its active probe record, suspend its capture (R147). An evaluation lets an arm without suspending condition leave SUSPENDED for
REARMING, or for ARMED with a rearm count of 0, with its KNOWN probe as capture probe; then makes one step; then the previous position is
the corrected head position, absent if an axis has no value (R146, R148). The count of 0 in ARMED after REARMING (log 29) and the count that
stays at 65 535 (log 25) are the model's choices. -/
def Obligations.TouchCommitted : Prop :=
  (∀ (s : State) (arm : Arm) (l : TouchLatch) (e : LibraryEntry), Table.entry s.library l.probe = some e →
    (s.capture.get arm).state = .confirming → (s.capture.get arm).latch = some l → (s.capture.get arm).count ≤ 1 →
    let record := s.touchRecord arm l e
    let u : State := { s with capture := s.capture.put arm { s.capture.get arm with state := .deflected, count := 0, latch := none } }
    record.point.all withinPosition = true ∧
    ∀ report cycle, report.deflected = true →
      captureStep s arm (some report) cycle = handRecord u record e.radius ∧
      ((s.walk.get arm).state ≠ .running → captureStep s arm (some report) cycle = (enqueueRecord u record).1)) ∧
  (∀ (s : State) (arm : Arm) (cycle : CycleNumber),
    let c := s.capture.get arm
    let f := s.setup.capture.get arm
    let become (c' : Capture) : State := { s with capture := s.capture.put arm c' }
    (∀ r, c.state = .armed →
      (r.deflected = false → captureStep s arm (some r) cycle = s) ∧ captureStep s arm none cycle = s ∧
      (∀ probe, r.deflected = true → c.probe = some probe →
        let l : TouchLatch :=
          { edge := r.edge.getD 1023, current := currentPosition s arm, previous := c.previous, cycle := cycle,
            armHeld := (s.supervision.get arm).state == .held, probe := probe }
        (1 ≤ f.debounce → captureStep s arm (some r) cycle =
          become { c with state := .confirming, count := f.debounce, latch := some l }) ∧
        (∀ e, f.debounce = 0 → Table.entry s.library probe = some e → captureStep s arm (some r) cycle =
          handRecord (become { c with state := .deflected, count := 0 }) (s.touchRecord arm l e) e.radius))) ∧
    (∀ r, c.state = .confirming → (r.deflected = true → 2 ≤ c.count →
        captureStep s arm (some r) cycle = become { c with count := c.count - 1 }) ∧
      (r.deflected = false → captureStep s arm (some r) cycle =
        become { c with state := .armed, count := 0, latch := none, bounces := min 65535 (c.bounces + 1) }) ∧
      captureStep s arm none cycle =
        become { c with state := .armed, count := 0, latch := none, bounces := min 65535 (c.bounces + 1) }) ∧
    (∀ r, c.state = .deflected →
      captureStep s arm none cycle = s ∧
      (r.deflected = false → captureStep s arm (some r) cycle =
        become { c with state := if f.rearm = 0 then .armed else .rearming, count := 0, stuckCommitted := false }) ∧
      (r.deflected = true → (min 65535 (c.count + 1) < f.stuckLimit ∨ c.stuckCommitted = true) →
        captureStep s arm (some r) cycle = become { c with count := min 65535 (c.count + 1) }) ∧
      (∀ i e, r.deflected = true → f.stuckLimit ≤ min 65535 (c.count + 1) → c.stuckCommitted = false → c.probe = some i →
        Table.entry s.library i = some e →
        captureStep s arm (some r) cycle =
          (enqueueRecord (become { c with
            count := min 65535 (c.count + 1), stuckCommitted := true, stucks := min 65535 (c.stucks + 1) })
            (s.stuckRecord arm e cycle)).1)) ∧
    (∀ r, c.state = .rearming →
      captureStep s arm none cycle = s ∧
      (r.deflected = true → captureStep s arm (some r) cycle = become { c with count := 0 }) ∧
      (r.deflected = false → captureStep s arm (some r) cycle =
        become (if f.rearm ≤ min 65535 (c.count + 1) then { c with state := .armed, count := 0 }
          else { c with count := min 65535 (c.count + 1) }))) ∧
    (c.state = .suspended → ∀ report, captureStep s arm report cycle = s) ∧
    (∀ report,
      let ended (u : State) : State :=
        { u with capture := u.capture.put arm { u.capture.get arm with previous := s.positionKept arm } }
      let ready : Prop := (s.supervision.get arm).state ≠ .stopped ∧ (s.sequencer.get arm).state = .idle
      (c.state ≠ .suspended → evaluateArm s arm report cycle = ended (captureStep s arm report cycle)) ∧
      (∀ i, c.state = .suspended → ready → s.active.get arm = .known i →
        let left := become { c with state := if f.rearm = 0 then .armed else .rearming, count := 0, probe := some i }
        evaluateArm s arm report cycle = ended (captureStep left arm report cycle)) ∧
      (c.state = .suspended → ¬ ready ∨ (∀ i, s.active.get arm ≠ .known i) → evaluateArm s arm report cycle = ended s))) ∧
  (∀ (s : State) (arm : Arm),
    (∀ cause, (s.supervision.get arm).state ≠ .stopped →
      (stopArm s arm cause).capture = s.capture.put arm (s.capture.get arm).suspendedNow) ∧
    (∀ cause, (s.supervision.get arm).state = .stopped → stopArm s arm cause = s) ∧
    (∀ report, s.SuspendsByProbe (libraryReport s arm report)) ∧
    (∀ i e, s.SuspendsByProbe (writeEntry s i (.library e))))

/-- A TOUCH record that meets a RUNNING walk at a DEVICE entry of its arm within the search radius matches: the record takes the plan
fields, the entry verdict, deviation and number and, in a walk that does not loop, owner CONTROLLER, and the head moves to the next entry,
or is absent with the walk PARKED at END (R169 to R172). Otherwise the record goes on with UNPLANNED set: an empty head entry, or one of the
other arm, puts the walk in FAULT with PLAN_FAULT raised (R168); an entry owned by CONTROLLER parks it with its head, PLAN_PARKED raised and
PLAN_EMPTY set (R169); outside the search radius the walk stays as it stands (R170). A STUCK record, or one that meets no RUNNING walk, goes
on as it is (R167). -/
def Obligations.PlanMatch : Prop :=
  (∀ (s : State) (r : CaptureRecord) (radius head : Nat) (e : PlanEntry) (loop : Bool), r.kind = .touch →
    s.walk.get r.arm = { state := .running, head := some head, loop := loop } → Table.entry s.plan head = some e → e.arm = r.arm →
    e.owner = .device → s.queue.records.length < 64 →
    max (max (r.point.x - e.nominal.x).natAbs (r.point.y - e.nominal.y).natAbs) (r.point.z - e.nominal.z).natAbs ≤ e.search * 1000 →
    let d := roundDiv ((r.point.x - e.nominal.x) * e.approach.x + (r.point.y - e.nominal.y) * e.approach.y +
      (r.point.z - e.nominal.z) * e.approach.z) 16384 + radius
    let verdict : Verdict := if d.natAbs ≤ e.tolerance * 1000 then .inTol else .outTol
    let t := handRecord s r radius
    t.queue.records = s.queue.records ++
      [{ sequence := s.queue.nextSequence, record := { r with plan := some { index := head, deviation := d, verdict := verdict } } }] ∧
    Table.entry t.plan head = some
      { e with verdict := some verdict, deviation := d, sequence := some s.queue.nextSequence,
               owner := if loop then .device else .controller } ∧
    (∀ j, j ≠ head → Table.entry t.plan j = Table.entry s.plan j) ∧
    t.walk = s.walk.put r.arm
      (match e.next with
        | some i => { state := .running, head := some i, loop := loop }
        | none => { state := .parked, head := none, loop := loop }) ∧
    t.capture = s.capture ∧ t.library = s.library ∧ t.supervision = s.supervision ∧ t.link = s.link) ∧
  (∀ (s : State) (r : CaptureRecord) (radius head : Nat) (loop : Bool), r.kind = .touch →
    s.walk.get r.arm = { state := .running, head := some head, loop := loop } →
    let flagged (planEmpty : Bool) : CaptureRecord := { r with flags := { r.flags with unplanned := true, planEmpty := planEmpty } }
    let turned (state : WalkState) (kind : NoticeKind) : State := { s with
      walk := s.walk.put r.arm { state := state, head := some head, loop := loop }
      notices := s.notices.enter kind (.arm r.arm) 0 }
    (Table.entry s.plan head = none →
      handRecord s r radius = (enqueueRecord (turned .fault .planFault) (flagged false)).1) ∧
    (∀ e, Table.entry s.plan head = some e →
      (e.arm ≠ r.arm → handRecord s r radius = (enqueueRecord (turned .fault .planFault) (flagged false)).1) ∧
      (e.arm = r.arm → e.owner = .controller →
        handRecord s r radius = (enqueueRecord (turned .parked .planParked) (flagged true)).1) ∧
      (e.arm = r.arm → e.owner = .device →
        e.search * 1000 < max (max (r.point.x - e.nominal.x).natAbs (r.point.y - e.nominal.y).natAbs) (r.point.z - e.nominal.z).natAbs →
        handRecord s r radius = (enqueueRecord s (flagged false)).1))) ∧
  (∀ (s : State) (r : CaptureRecord) (radius : Nat), r.kind = .stuck ∨ (s.walk.get r.arm).state ≠ .running →
    handRecord s r radius = (enqueueRecord s r).1)

/-- A rack reply: it matches only a SENT message with the timer running, the same tag and the same station, and then ends the wait and goes
to the sequencer that sent it; any other reply is counted and raised as late, and nothing else changes (R121). In DROP_CLOSING an ACK with
the port CLOSED judges the drop: SENSED goes on to the pick or completes the change, EMPTY makes the entry LOST and fails it with
DROP_NOT_SENSED; with the port OPEN it fails with RACK_REFUSED, and EMPTY raises PROBE_LOST after it, whatever the drop entry's location
(R134, R135, R141; the order: log 20; whatever the location: the model's reading, log 21). In PICK_CLOSING an ACK with the port CLOSED
completes the change: IDLE, the record clear, CHANGE_DONE, the rack released (R118, R138). In an opening state an ACK OPEN with the station
free for the drop, or with the target in it, opens the station's corridor with DROP_READY or PICK_READY, or fails the change with
ARM_STOPPED for a STOPPED arm; occupied it fails with STATION_OCCUPIED, empty with STATION_EMPTY, a closed port with RACK_REFUSED and the
port mark clear, a NAK with RACK_REFUSED (R130). In WINDING an ACK CLOSED for the port mark's station clears the mark, an ACK for the drop
station judges the drop, and the change goes back; in RECLOSING it ends, RACK_PORT_UNKNOWN raised unless the port is CLOSED (R118, R134,
R141, R142; logs 20, 21). The leaving test closes the corridor when the arm box lies outside it, and the sequencer goes on to DROP_CLOSING,
PICK_CLOSING or RECLOSING (R133). -/
def Obligations.RackReplyTaken : Prop :=
  (∀ (s : State) (r : RackReply),
    (∀ m at_, s.rack.message = some m → s.rack.replyTimer = some at_ → m.phase = .sent → m.tag = r.tag → m.station = r.station →
      takeReply s r = takeOutcome { s with rack := { s.rack with message := none, replyTimer := none } } m r.outcome) ∧
    ((s.rack.message = none ∨ s.rack.replyTimer = none ∨
        ∃ m, s.rack.message = some m ∧ (m.phase ≠ .sent ∨ m.tag ≠ r.tag ∨ m.station ≠ r.station)) →
      takeReply s r = { s with
        rack := { s.rack with lateReplies := min 65535 (s.rack.lateReplies + 1) }
        notices := s.notices.enter .lateRackReply .none 0 })) ∧
  (∀ (s : State) (m : RackMessage), s.rack.message = none → s.rack.holder = some m.sender →
    let arm := m.sender
    let q := s.sequencer.get arm
    (∀ d, q.state = .dropClosing → q.drop = some d → q.dropUnconfirmed = true → m.station = d.station →
      (∀ b, q.target = some b → takeOutcome s m (.ack false true) =
        { s with
          sequencer := s.sequencer.put arm { q with
            state := .pickOpening, portMark := some b.station, dropUnconfirmed := false, phaseTimer := s.phaseExpiry }
          rack := s.offered arm .openPort b.station }) ∧
      (q.target = none → s.rack.waiting = none → takeOutcome s m (.ack false true) =
        { s with
          sequencer := s.sequencer.put arm Sequencer.initial
          notices := s.notices.enter .changeDone (.arm arm) 0
          rack := { s.rack with holder := none } }) ∧
      (∀ e, Table.entry s.library d.index = some e → ∀ portOpen,
        let t := takeOutcome s m (.ack portOpen false)
        Table.entry t.library d.index = some (if e.location = .inRack then { e with location := .lost } else e) ∧
        (∀ j, j ≠ d.index → Table.entry t.library j = Table.entry s.library j) ∧ t.active = s.active ∧
        (t.sequencer.get arm).state.failed = true ∧
        t.notices = if portOpen then (s.notices.enter .changeFailed (.arm arm) 2).enter .probeLost (.arm arm) 0
          else s.notices.enter .changeFailed (.arm arm) 5) ∧
      (∀ reason, let t := takeOutcome s m (.nak reason)
        t.library = s.library ∧ (t.sequencer.get arm).state.failed = true ∧ t.notices = s.notices.enter .changeFailed (.arm arm) 2 ∧
        s.ChangeFails t arm 2)) ∧
    (q.state = .pickClosing →
      (∀ sensed, s.rack.waiting = none → takeOutcome s m (.ack false sensed) =
        { s with
          sequencer := s.sequencer.put arm Sequencer.initial
          notices := s.notices.enter .changeDone (.arm arm) 0
          rack := { s.rack with holder := none } }) ∧
      (∀ o, (∃ sensed, o = .ack true sensed) ∨ (∃ reason, o = .nak reason) →
        let t := takeOutcome s m o
        t.library = s.library ∧ (t.sequencer.get arm).state.failed = true ∧
        t.notices = s.notices.enter .changeFailed (.arm arm) 2 ∧ s.ChangeFails t arm 2)) ∧
    (∀ opening corridor ready free wrong b,
      (opening = .dropOpening ∧ corridor = .dropCorridor ∧ ready = .dropReady ∧ free = false ∧ wrong = 3 ∧ q.drop = some b) ∨
        (opening = .pickOpening ∧ corridor = .pickCorridor ∧ ready = .pickReady ∧ free = true ∧ wrong = 4 ∧ q.target = some b) →
      q.state = opening → m.station = b.station →
      ((s.supervision.get arm).state ≠ .stopped → takeOutcome s m (.ack true free) =
        { s with
          sequencer := s.sequencer.put arm { q with state := corridor, corridor := some b.station, phaseTimer := s.phaseExpiry }
          notices := s.notices.enter ready (.arm arm) 0 }) ∧
      ((s.supervision.get arm).state = .stopped → s.ChangeFails (takeOutcome s m (.ack true free)) arm 9) ∧
      s.ChangeFails (takeOutcome s m (.ack true (!free))) arm wrong ∧
      (∀ sensed, State.ChangeFails { s with sequencer := s.sequencer.put arm { q with portMark := none } }
        (takeOutcome s m (.ack false sensed)) arm 2) ∧
      (∀ reason, s.ChangeFails (takeOutcome s m (.nak reason)) arm 2) ∧ s.ChangeFails (takeOutcome s m .timeout) arm 1) ∧
    (q.state = .winding → ∀ o,
      let u : State := { s with sequencer := s.sequencer.put arm { q with
        portMark := if (o = .ack false true ∨ o = .ack false false) ∧ q.portMark = some m.station then none else q.portMark } }
      (u.dropJudged arm m.station o).GoesBack (takeOutcome s m o) arm) ∧
    (q.state = .reclosing → ∀ o,
      let u := s.dropJudged arm m.station o
      (o = .ack false true ∨ o = .ack false false → u.EndsChange (takeOutcome s m o) arm) ∧
      (o ≠ .ack false true → o ≠ .ack false false →
        State.EndsChange { u with notices := u.notices.enter .rackPortUnknown (.arm arm) 0 } (takeOutcome s m o) arm))) ∧
  (∀ (s : State) (arm : Arm) (station : Nat) (z : ZoneEntry) (p : Triple Int), (s.sequencer.get arm).corridor = some station →
    corridorOf s arm station = some z → correctedHead s arm = some p →
    let q := s.sequencer.get arm
    ((armBox s arm p).intersects (zoneBox z) = true → leavingTest s arm = s) ∧
    (q.state ∉ [SeqState.dropLeaving, .pickLeaving, .clearing] → leavingTest s arm = s) ∧
    ((armBox s arm p).intersects (zoneBox z) = false → s.rack.message = none → s.rack.holder = some arm →
      (∀ d, q.state = .dropLeaving → q.drop = some d → leavingTest s arm =
        { s with
          sequencer := s.sequencer.put arm { q with state := .dropClosing, corridor := none, phaseTimer := s.phaseExpiry }
          rack := s.offered arm .closePort d.station }) ∧
      (∀ b, q.state = .pickLeaving → q.target = some b → leavingTest s arm =
        { s with
          sequencer := s.sequencer.put arm { q with state := .pickClosing, corridor := none, phaseTimer := s.phaseExpiry }
          rack := s.offered arm .closePort b.station }) ∧
      (∀ mark, q.state = .clearing → q.portMark = some mark → leavingTest s arm =
        { s with
          sequencer := s.sequencer.put arm { q with state := .reclosing, corridor := none }
          rack := s.offered arm .closePort mark })))

/-- A record that reaches the queue below 64 is appended with the next number, CAPTURE_LEVEL raised when the depth becomes the level; at 64
it takes no number, the overrun counter gains one and the record at the back gets OVERRUN_AFTER (R175, R176). At the end of a return frame a
forwarded frame without an acted-on REPORT slot sets the missing-slot mark, raised once, and one with it clears the mark (R182); a delivery
ends the stall, and without one, while records wait, the stall count gains one and CAPTURE_STALL is raised once when it reaches the stall
cycles (R183). That the missing slot is judged before the stall in one frame is the model's reading (log 26). -/
def Obligations.RecordCommittedOrDropped : Prop :=
  (∀ (s : State) (r : CaptureRecord),
    (s.queue.records.length < 64 →
      enqueueRecord s r =
        ({ s with
          queue := { s.queue with
            records := s.queue.records ++ [{ sequence := s.queue.nextSequence, record := r }], nextSequence := s.queue.nextSequence + 1 }
          notices := if s.queue.records.length + 1 = s.setup.captureLevel then s.notices.enter .captureLevel .none 0 else s.notices },
          some s.queue.nextSequence)) ∧
    (∀ front back, s.queue.records = front ++ [back] → 64 ≤ s.queue.records.length →
      enqueueRecord s r =
        ({ s with
          queue := { s.queue with
            records := front ++ [{ back with record := { back.record with flags := { back.record.flags with overrunAfter := true } } }]
            overruns := min 65535 (s.queue.overruns + 1) }
          notices := s.notices.enter .captureOverrun .none 0 }, none))) ∧
  (∀ s : State,
    judgeMissing s true = { s with queue := { s.queue with missingMark := false } } ∧
    (s.queue.missingMark = true → judgeMissing s false = s) ∧
    (s.queue.missingMark = false → judgeMissing s false =
      { s with queue := { s.queue with missingMark := true }, notices := s.notices.enter .reportSlotMissing .none 0 })) ∧
  (∀ (s : State) (delivered : Nat),
    (1 ≤ delivered → judgeStall s delivered = { s with queue := { s.queue with stallCount := 0, stallMark := false } }) ∧
    (delivered = 0 → s.queue.records = [] → judgeStall s delivered = { s with queue := { s.queue with stallCount := 0 } }) ∧
    (delivered = 0 → s.queue.records ≠ [] →
      (s.setup.stallCycles ≤ min 255 (s.queue.stallCount + 1) → s.queue.stallMark = false → judgeStall s delivered =
        { s with
          queue := { s.queue with stallCount := min 255 (s.queue.stallCount + 1), stallMark := true }
          notices := s.notices.enter .captureStall .none 0 }) ∧
      (min 255 (s.queue.stallCount + 1) < s.setup.stallCycles ∨ s.queue.stallMark = true → judgeStall s delivered =
        { s with queue := { s.queue with stallCount := min 255 (s.queue.stallCount + 1) } }))) ∧
  (∀ (s : State) (cycle : CycleNumber) (slots : List Slot),
    ((∀ sl ∈ slots, sl.kind = 0x16 → sl.address ≠ 62) →
      finishForwarded s cycle slots = (judgeStall (judgeMissing s false) 0).forward .d (.back { cycle := cycle, slots := slots })))

/-- A DETACHED report on an arm with its sequencer IDLE: a KNOWN record becomes NONE, its entry LOST and PROBE_LOST is raised; an UNKNOWN
record becomes NONE, nothing is raised and no entry is affected; the envelope radius is then 0 (R112). An ATTACHED report that does not
agree is a manual mount: the entry of a KNOWN record is LOST with PROBE_LOST (in a library in canonical form, as every step keeps it), then
the reported identity's entry, if it is not MOUNTED, is MOUNTED here and SUSPECT if it was CALIBRATED, with the record KNOWN; without such
an entry the record is UNKNOWN; an entry MOUNTED on the other arm is LOST, the other arm's record NONE with PROBE_LOST, and this arm's
UNKNOWN; PROBE_MOUNTED_MANUAL is raised last (R113, R114). An agreeing report changes nothing (R111). A written LIBRARY entry with the
identity of exactly one arm's UNKNOWN probe is bound, MOUNTED there and the record KNOWN (R110). Every acted-on report is the arm's latest,
and one with overtravel stops the arm with cause OVERTRAVEL (R11, R99). -/
def Obligations.DetachedReport : Prop :=
  (∀ (s : State) (arm : Arm) (r : ProbeReport), r.identity = none → (s.sequencer.get arm).state = .idle →
    (∀ i e, s.active.get arm = .known i → Table.entry s.library i = some e →
      (libraryReport s arm r).active.get arm = .none ∧
      Table.entry (libraryReport s arm r).library i = some { e with location := .lost } ∧
      (∀ j, j ≠ i → Table.entry (libraryReport s arm r).library j = Table.entry s.library j) ∧
      (libraryReport s arm r).notices = s.notices.enter .probeLost (.arm arm) 0 ∧
      envelopeRadius (libraryReport s arm r) arm = 0) ∧
    (∀ x, s.active.get arm = .unknown x →
      (libraryReport s arm r).active.get arm = .none ∧ (libraryReport s arm r).library = s.library ∧
      (libraryReport s arm r).notices = s.notices ∧ envelopeRadius (libraryReport s arm r) arm = 0)) ∧
  (∀ (s : State) (arm : Arm) (r : ProbeReport) (x : Nat), r.identity = some x → (s.sequencer.get arm).state = .idle →
    let t := libraryReport s arm r
    (reportAgrees s arm r = true → t = s) ∧
    (reportAgrees s arm r = false →
      let lost : Notices := match s.active.get arm with | .known _ => s.notices.enter .probeLost (.arm arm) 0 | _ => s.notices
      (∀ i e, Table.wf 32 s.library = true → s.active.get arm = .known i → Table.entry s.library i = some e →
        Table.entry t.library i = some { e with location := .lost }) ∧
      (findIdentity s x = none → t.active = s.active.put arm (.unknown x) ∧
        t.notices = lost.enter .probeMountedManual (.arm arm) 0 ∧
        (∀ j, s.active.get arm ≠ .known j → Table.entry t.library j = Table.entry s.library j)) ∧
      (∀ i e, findIdentity s x = some (i, e) → Table.entry s.library i = some e → s.active.get arm ≠ .known i →
        (e.location ≠ .mounted (otherArm arm) →
          t.active = s.active.put arm (.known i) ∧ t.notices = lost.enter .probeMountedManual (.arm arm) 0 ∧
          Table.entry t.library i = some { e with
            location := .mounted arm, calibration := if e.calibration = .calibrated then .suspect else e.calibration }) ∧
        (e.location = .mounted (otherArm arm) →
          t.active = (s.active.put (otherArm arm) .none).put arm (.unknown x) ∧
          t.notices = (lost.enter .probeLost (.arm (otherArm arm)) 0).enter .probeMountedManual (.arm arm) 0 ∧
          Table.entry t.library i = some { e with location := .lost }) ∧
        (∀ j, j ≠ i → s.active.get arm ≠ .known j → Table.entry t.library j = Table.entry s.library j)))) ∧
  (∀ (s : State) (i : Nat) (e : LibraryEntry),
    let t := writeEntry s i (.library (some e))
    (∀ arm, s.active.get arm = .unknown e.identity → s.active.get (otherArm arm) ≠ .unknown e.identity →
      t.active = s.active.put arm (.known i) ∧ Table.entry t.library i = some { e with location := .mounted arm } ∧
      t.notices = s.notices) ∧
    ((∀ arm, s.active.get arm = .unknown e.identity) ∨ (∀ arm, s.active.get arm ≠ .unknown e.identity) →
      t.active = s.active ∧ Table.entry t.library i = some e ∧ t.notices = s.notices)) ∧
  (∀ (s : State) (arm : Arm) (r : ProbeReport),
    let u := libraryReport { s with latestReport := s.latestReport.put arm (some r) } arm r
    let v := { s.supervision.get arm with overtravel := some r.overtravel }
    u.supervision = s.supervision ∧ (probeSlot s arm r).latestReport = s.latestReport.put arm (some r) ∧
    (r.overtravel = false ∨ v.state = .stopped → probeSlot s arm r = { u with supervision := u.supervision.put arm v }) ∧
    (r.overtravel = true → v.state ≠ .stopped →
      (probeSlot s arm r).supervision = s.supervision.put arm { v with state := .stopped, cause := .overtravel } ∧
      ∃ rest : List (NoticeKind × Subject × Nat), (probeSlot s arm r).notices =
        rest.foldl (fun n x => n.enter x.1 x.2.1 x.2.2) (u.notices.enter .armStopped (.arm arm) 4)))

/-! ### Invariants -/

/-- The state after reset meets every invariant below. -/
def Obligations.ResetMeetsInvariants : Prop :=
  State.reset.tableInv = true ∧ State.reset.betweenFrames = true ∧ State.reset.boundsInv = true ∧ State.reset.numbersInv = true ∧
    State.reset.armInv = true ∧ State.reset.rackInv = true ∧ State.reset.libraryInv = true

/-- Every step keeps the tables in canonical form, the write window inside its table and the buffered entries inside theirs (R31, R34 to
R36); and every step keeps the library and the active probe records in agreement: no two entries share an identity or a home station, an
entry is MOUNTED on an arm exactly when that arm's record is KNOWN with its index, and an arm whose change has dropped its probe has none on
record until it picks one (R33, R109, R136). That every step ends with no return frame in processing, nothing buffered and no reply held back
is the model's choice and no rule's: a frame is one command, which is finished before the command ends (log 10). -/
def Obligations.StepKeepsTables : Prop :=
  (∀ s t : State, s.tableInv = true → step s = .next t → t.tableInv = true) ∧
  (∀ s t : State, s.betweenFrames = true → step s = .next t → t.betweenFrames = true) ∧
  (∀ s t : State, s.tableInv = true → s.libraryInv = true → step s = .next t → t.libraryInv = true)

/-- Every step keeps the queues within their depths, the counters within their ranges, and the notice list without two entries of one kind
and subject (R6, R14, R24, R25, R77, R174, R177, R187). -/
def Obligations.StepKeepsBounds : Prop :=
  ∀ s t : State, s.boundsInv = true → step s = .next t → t.boundsInv = true

/-- Every step keeps the sequence numbers of the records waiting following one another up to the next number (R174, R175, R178). -/
def Obligations.StepKeepsNumbers : Prop :=
  ∀ s t : State, s.numbersInv = true → step s = .next t → t.numbersInv = true

/-- Every step keeps these: an arm that is not STOPPED has a setpoint and a corrected head position, an arm with a suspending condition has
its capture SUSPENDED, and every setpoint and corrected value lies within ±(2^39 − 1) nm (R83, R93, R147, R148). -/
def Obligations.StepKeepsArms : Prop :=
  ∀ s t : State, s.armInv = true → step s = .next t → t.armInv = true

/-- Every step keeps the rack channel serving one arm at a time; so at most one corridor is open, and it belongs to the arm holding the
rack channel (R117 to R119, R131). -/
def Obligations.StepKeepsRack : Prop :=
  (∀ s t : State, s.rackInv = true → step s = .next t → t.rackInv = true) ∧ (∀ s : State, s.rackInv = true → s.corridorOk = true)
end

