-- ==== Sys2Proof/Laws/Cycle.lean ====
section
/-! SUPPORT. What a cycle frame with what comes between its pieces can do: a property that every handling and every event keeps is kept by
the whole command, and with nothing between the pieces the command is the frame handled at one go. -/

namespace Sys2Proof.Machine

/-! ### The two receive sides -/

@[simp] theorem Mid.on_state (m : Mid) (f : State → State) : (m.on f).state = f m.state := rfl
@[simp] theorem Mid.on_out (m : Mid) (f : State → State) : (m.on f).out = m.out := rfl
@[simp] theorem Mid.on_back (m : Mid) (f : State → State) : (m.on f).back = m.back := rfl
@[simp] theorem Mid.idle_state (s : State) : (Mid.idle s).state = s := rfl
@[simp] theorem Mid.idle_finish (s : State) (p : Port) : (Mid.idle s).finish p = Mid.idle s := by cases p <;> rfl

/-- A receive side's handling leaves the frame of the other side where it stands. -/
@[simp] theorem Mid.handle_u_back (m : Mid) : (m.handle .u).back = m.back := by
  unfold Mid.handle; cases m.out <;> rfl

@[simp] theorem Mid.handle_d_out (m : Mid) : (m.handle .d).out = m.out := by
  unfold Mid.handle; cases m.back <;> rfl

@[simp] theorem Mid.finish_u_back (m : Mid) : (m.finish .u).back = m.back := by
  unfold Mid.finish; cases m.out <;> rfl

@[simp] theorem Mid.finish_d_out (m : Mid) : (m.finish .d).out = m.out := by
  unfold Mid.finish; cases m.back <;> rfl

/-- A receive side that has finished has no frame in processing. -/
@[simp] theorem Mid.finish_u_out (m : Mid) : (m.finish .u).out = none := by
  unfold Mid.finish; cases h : m.out <;> simp [h]

@[simp] theorem Mid.finish_d_back (m : Mid) : (m.finish .d).back = none := by
  unfold Mid.finish; cases h : m.back <;> simp [h]

/-! ### Properties that are kept -/

/-- What every event keeps, the events of a list keep. -/
theorem eventsWhere_keeps {P : Mid → Prop} {during : List Interleaved} (he : ∀ m, ∀ e ∈ during, P m → P (midEvent m e.event))
    (here : Nat → Bool) {m : Mid} (h : P m) : P (eventsWhere during here m) := by
  unfold eventsWhere
  have hs : ∀ e ∈ during.filter (fun e => here e.slot), e ∈ during := fun e he => (List.mem_filter.mp he).1
  generalize during.filter (fun e => here e.slot) = l at hs
  induction l generalizing m with
  | nil => exact h
  | cons e es ih => exact ih (he m e (hs e (by simp)) h) (fun x hx => hs x (by simp [hx]))

/-- What every event and every handling keeps, the pieces of a frame keep. -/
theorem framePieces_keeps {P : Mid → Prop} {p : Port} {during : List Interleaved}
    (he : ∀ m, ∀ e ∈ during, P m → P (midEvent m e.event)) (hh : ∀ m, P m → P (m.handle p)) (n k : Nat) {m : Mid} (h : P m) :
    P (framePieces p during n k m) := by
  induction k generalizing n m with
  | zero => exact h
  | succ k ih => exact ih (n + 1) (hh _ (eventsWhere_keeps he _ h))

/-- What taking the frame brings about, and every event, handling and finish keeps, holds when the command is done. -/
theorem cycleFrameWith_keeps {P : Mid → Prop} {p : Port} {during : List Interleaved} {s : State} {f : CycleFrame}
    (hs : P ((Mid.idle s).takes p f)) (he : ∀ m, ∀ e ∈ during, P m → P (midEvent m e.event)) (hh : ∀ m, P m → P (m.handle p))
    (hf : ∀ m q, P m → P (m.finish q)) : ∃ m, P m ∧ m.state = cycleFrameWith p s f during :=
  ⟨_, hf _ .d (hf _ .u (eventsWhere_keeps he _ (framePieces_keeps he hh 0 _ hs))), rfl⟩

/-! ### Nothing between the pieces -/

@[simp] theorem eventsWhere_nil (here : Nat → Bool) (m : Mid) : eventsWhere [] here m = m := rfl

/-- The handlings of an outbound frame one by one are its rest handled at one go. -/
theorem framePieces_out (n : Nat) (m : Mid) (g : OutFrame) (h : m.out = some g) :
    framePieces .u [] n (g.todo.length + 1) m = { m with state := finishOut m.state g, out := none } := by
  obtain ⟨cycle, todo, run⟩ := g
  induction todo generalizing n m run with
  | nil => simp [framePieces, Mid.handle, h, handleOut, finishOut, outSlots, endOut]
  | cons sl rest ih =>
    have hm : (m.handle .u).out = some ⟨cycle, rest, (outSlot targetSlot m.state run sl).2⟩ := by simp [Mid.handle, h, handleOut]
    have hs : (m.handle .u).state = (outSlot targetSlot m.state run sl).1 := by simp [Mid.handle, h, handleOut]
    have := ih (n + 1) (m.handle .u) _ hm
    simp only [List.length_cons] at *
    rw [framePieces, eventsWhere_nil, this, hs]
    simp [finishOut, outSlots, Mid.handle, h]

/-- With nothing between its slots an outbound frame is handled at one go. -/
theorem cycleFrameWith_nil_u {s : State} {f : CycleFrame} (hf : cycleFits f = true) :
    cycleFrameWith .u s f [] = plainOutbound s f := by
  have h : ((Mid.idle s).takes .u f).out = some (startOut s f).2 := by simp [Mid.takes, hf]
  have hn : pieceCount .u f = (startOut s f).2.todo.length + 1 := rfl
  simp only [cycleFrameWith, eventsWhere_nil, hn, framePieces_out 0 _ _ h]
  simp [Mid.takes, hf, Mid.finish, plainOutbound, Mid.idle]

/-- The stages of the frame-end work and the end of a return frame one by one are its rest handled at one go. -/
theorem framePieces_stages (n : Nat) (m : Mid) (cycle : CycleNumber) (originated : Bool) (stages : List EndStage) (run : BackRun)
    (h : m.back = some ⟨cycle, originated, [], stages, run⟩) :
    framePieces .d [] n (stages.length + 1) m =
      { m with state := finishReturn m.state ⟨cycle, originated, [], stages, run⟩, back := none } := by
  induction stages generalizing n m with
  | nil => simp [framePieces, Mid.handle, h, handleReturn, finishReturn, backSlots]
  | cons g rest ih =>
    have hm : (m.handle .d).back = some ⟨cycle, originated, [], rest, run⟩ := by simp [Mid.handle, h, handleReturn]
    have hs : (m.handle .d).state = endStage run cycle m.state g := by simp [Mid.handle, h, handleReturn]
    have := ih (n + 1) (m.handle .d) hm
    simp only [List.length_cons] at *
    rw [framePieces, eventsWhere_nil, this, hs]
    simp [finishReturn, backSlots, Mid.handle, h]

/-- The handlings of a return frame one by one are its rest handled at one go. -/
theorem framePieces_back (n : Nat) (m : Mid) (cycle : CycleNumber) (originated : Bool) (todo : List Slot) (stages : List EndStage)
    (run : BackRun) (h : m.back = some ⟨cycle, originated, todo, stages, run⟩) :
    framePieces .d [] n (todo.length + stages.length + 1) m =
      { m with state := finishReturn m.state ⟨cycle, originated, todo, stages, run⟩, back := none } := by
  induction todo generalizing n m run with
  | nil => simpa using framePieces_stages n m cycle originated stages run h
  | cons sl rest ih =>
    have hm : (m.handle .d).back = some ⟨cycle, originated, rest, stages, (backSlot m.state run sl).2⟩ := by
      simp [Mid.handle, h, handleReturn]
    have hs : (m.handle .d).state = (backSlot m.state run sl).1 := by simp [Mid.handle, h, handleReturn]
    have := ih (n + 1) (m.handle .d) _ hm
    have hl : (sl :: rest).length + stages.length + 1 = rest.length + stages.length + 1 + 1 := by simp only [List.length_cons]; omega
    rw [hl, framePieces, eventsWhere_nil, this, hs]
    simp [finishReturn, backSlots, Mid.handle, h]

/-- With nothing between its pieces a return frame is handled at one go. -/
theorem cycleFrameWith_nil_d {s : State} {f : CycleFrame} (hf : cycleFits f = true) :
    cycleFrameWith .d s f [] = plainReturn s f := by
  have h : ((Mid.idle s).takes .d f).back =
      some ⟨f.cycle, s.link.outstanding.contains f.cycle, f.slots, endStages, BackRun.start⟩ := by
    simp [Mid.takes, hf, startBack]
  have hn : pieceCount .d f = f.slots.length + endStages.length + 1 := rfl
  simp only [cycleFrameWith, eventsWhere_nil, hn, framePieces_back 0 _ _ _ _ _ _ h]
  simp [Mid.takes, hf, Mid.finish, plainReturn, Mid.idle, startBack]

end Sys2Proof.Machine
end

