-- ==== Sys2Proof/Laws/State.lean ====
section
/-! SUPPORT. What each update of the state leaves and what it sets: one lemma per field per update. -/

namespace Sys2Proof.Machine

variable (s : State)

/-! ### setSupervision -/

@[simp] theorem State.setSupervision_pending (arm : Arm) (v : Supervision) : (s.setSupervision arm v).pending = s.pending := rfl
@[simp] theorem State.setSupervision_resetPin (arm : Arm) (v : Supervision) : (s.setSupervision arm v).resetPin = s.resetPin := rfl
@[simp] theorem State.setSupervision_now (arm : Arm) (v : Supervision) : (s.setSupervision arm v).now = s.now := rfl
@[simp] theorem State.setSupervision_freeIndex (arm : Arm) (v : Supervision) : (s.setSupervision arm v).freeIndex = s.freeIndex := rfl
@[simp] theorem State.setSupervision_setup (arm : Arm) (v : Supervision) : (s.setSupervision arm v).setup = s.setup := rfl
@[simp] theorem State.setSupervision_link (arm : Arm) (v : Supervision) : (s.setSupervision arm v).link = s.link := rfl
@[simp] theorem State.setSupervision_service (arm : Arm) (v : Supervision) : (s.setSupervision arm v).service = s.service := rfl
@[simp] theorem State.setSupervision_channels (arm : Arm) (v : Supervision) : (s.setSupervision arm v).channels = s.channels := rfl
@[simp] theorem State.setSupervision_axes (arm : Arm) (v : Supervision) : (s.setSupervision arm v).axes = s.axes := rfl
@[simp] theorem State.setSupervision_map (arm : Arm) (v : Supervision) : (s.setSupervision arm v).map = s.map := rfl
@[simp] theorem State.setSupervision_head (arm : Arm) (v : Supervision) : (s.setSupervision arm v).head = s.head := rfl
@[simp] theorem State.setSupervision_zones (arm : Arm) (v : Supervision) : (s.setSupervision arm v).zones = s.zones := rfl
@[simp] theorem State.setSupervision_supervision (arm : Arm) (v : Supervision) : (s.setSupervision arm v).supervision = s.supervision.put arm v := rfl
@[simp] theorem State.setSupervision_library (arm : Arm) (v : Supervision) : (s.setSupervision arm v).library = s.library := rfl
@[simp] theorem State.setSupervision_active (arm : Arm) (v : Supervision) : (s.setSupervision arm v).active = s.active := rfl
@[simp] theorem State.setSupervision_latestReport (arm : Arm) (v : Supervision) : (s.setSupervision arm v).latestReport = s.latestReport := rfl
@[simp] theorem State.setSupervision_rack (arm : Arm) (v : Supervision) : (s.setSupervision arm v).rack = s.rack := rfl
@[simp] theorem State.setSupervision_sequencer (arm : Arm) (v : Supervision) : (s.setSupervision arm v).sequencer = s.sequencer := rfl
@[simp] theorem State.setSupervision_capture (arm : Arm) (v : Supervision) : (s.setSupervision arm v).capture = s.capture := rfl
@[simp] theorem State.setSupervision_plan (arm : Arm) (v : Supervision) : (s.setSupervision arm v).plan = s.plan := rfl
@[simp] theorem State.setSupervision_walk (arm : Arm) (v : Supervision) : (s.setSupervision arm v).walk = s.walk := rfl
@[simp] theorem State.setSupervision_queue (arm : Arm) (v : Supervision) : (s.setSupervision arm v).queue = s.queue := rfl
@[simp] theorem State.setSupervision_notices (arm : Arm) (v : Supervision) : (s.setSupervision arm v).notices = s.notices := rfl

/-! ### setSequencer -/

@[simp] theorem State.setSequencer_pending (arm : Arm) (v : Sequencer) : (s.setSequencer arm v).pending = s.pending := rfl
@[simp] theorem State.setSequencer_resetPin (arm : Arm) (v : Sequencer) : (s.setSequencer arm v).resetPin = s.resetPin := rfl
@[simp] theorem State.setSequencer_now (arm : Arm) (v : Sequencer) : (s.setSequencer arm v).now = s.now := rfl
@[simp] theorem State.setSequencer_freeIndex (arm : Arm) (v : Sequencer) : (s.setSequencer arm v).freeIndex = s.freeIndex := rfl
@[simp] theorem State.setSequencer_setup (arm : Arm) (v : Sequencer) : (s.setSequencer arm v).setup = s.setup := rfl
@[simp] theorem State.setSequencer_link (arm : Arm) (v : Sequencer) : (s.setSequencer arm v).link = s.link := rfl
@[simp] theorem State.setSequencer_service (arm : Arm) (v : Sequencer) : (s.setSequencer arm v).service = s.service := rfl
@[simp] theorem State.setSequencer_channels (arm : Arm) (v : Sequencer) : (s.setSequencer arm v).channels = s.channels := rfl
@[simp] theorem State.setSequencer_axes (arm : Arm) (v : Sequencer) : (s.setSequencer arm v).axes = s.axes := rfl
@[simp] theorem State.setSequencer_map (arm : Arm) (v : Sequencer) : (s.setSequencer arm v).map = s.map := rfl
@[simp] theorem State.setSequencer_head (arm : Arm) (v : Sequencer) : (s.setSequencer arm v).head = s.head := rfl
@[simp] theorem State.setSequencer_zones (arm : Arm) (v : Sequencer) : (s.setSequencer arm v).zones = s.zones := rfl
@[simp] theorem State.setSequencer_supervision (arm : Arm) (v : Sequencer) : (s.setSequencer arm v).supervision = s.supervision := rfl
@[simp] theorem State.setSequencer_library (arm : Arm) (v : Sequencer) : (s.setSequencer arm v).library = s.library := rfl
@[simp] theorem State.setSequencer_active (arm : Arm) (v : Sequencer) : (s.setSequencer arm v).active = s.active := rfl
@[simp] theorem State.setSequencer_latestReport (arm : Arm) (v : Sequencer) : (s.setSequencer arm v).latestReport = s.latestReport := rfl
@[simp] theorem State.setSequencer_rack (arm : Arm) (v : Sequencer) : (s.setSequencer arm v).rack = s.rack := rfl
@[simp] theorem State.setSequencer_sequencer (arm : Arm) (v : Sequencer) : (s.setSequencer arm v).sequencer = s.sequencer.put arm v := rfl
@[simp] theorem State.setSequencer_capture (arm : Arm) (v : Sequencer) : (s.setSequencer arm v).capture = s.capture := rfl
@[simp] theorem State.setSequencer_plan (arm : Arm) (v : Sequencer) : (s.setSequencer arm v).plan = s.plan := rfl
@[simp] theorem State.setSequencer_walk (arm : Arm) (v : Sequencer) : (s.setSequencer arm v).walk = s.walk := rfl
@[simp] theorem State.setSequencer_queue (arm : Arm) (v : Sequencer) : (s.setSequencer arm v).queue = s.queue := rfl
@[simp] theorem State.setSequencer_notices (arm : Arm) (v : Sequencer) : (s.setSequencer arm v).notices = s.notices := rfl

/-! ### setCapture -/

@[simp] theorem State.setCapture_pending (arm : Arm) (v : Capture) : (s.setCapture arm v).pending = s.pending := rfl
@[simp] theorem State.setCapture_resetPin (arm : Arm) (v : Capture) : (s.setCapture arm v).resetPin = s.resetPin := rfl
@[simp] theorem State.setCapture_now (arm : Arm) (v : Capture) : (s.setCapture arm v).now = s.now := rfl
@[simp] theorem State.setCapture_freeIndex (arm : Arm) (v : Capture) : (s.setCapture arm v).freeIndex = s.freeIndex := rfl
@[simp] theorem State.setCapture_setup (arm : Arm) (v : Capture) : (s.setCapture arm v).setup = s.setup := rfl
@[simp] theorem State.setCapture_link (arm : Arm) (v : Capture) : (s.setCapture arm v).link = s.link := rfl
@[simp] theorem State.setCapture_service (arm : Arm) (v : Capture) : (s.setCapture arm v).service = s.service := rfl
@[simp] theorem State.setCapture_channels (arm : Arm) (v : Capture) : (s.setCapture arm v).channels = s.channels := rfl
@[simp] theorem State.setCapture_axes (arm : Arm) (v : Capture) : (s.setCapture arm v).axes = s.axes := rfl
@[simp] theorem State.setCapture_map (arm : Arm) (v : Capture) : (s.setCapture arm v).map = s.map := rfl
@[simp] theorem State.setCapture_head (arm : Arm) (v : Capture) : (s.setCapture arm v).head = s.head := rfl
@[simp] theorem State.setCapture_zones (arm : Arm) (v : Capture) : (s.setCapture arm v).zones = s.zones := rfl
@[simp] theorem State.setCapture_supervision (arm : Arm) (v : Capture) : (s.setCapture arm v).supervision = s.supervision := rfl
@[simp] theorem State.setCapture_library (arm : Arm) (v : Capture) : (s.setCapture arm v).library = s.library := rfl
@[simp] theorem State.setCapture_active (arm : Arm) (v : Capture) : (s.setCapture arm v).active = s.active := rfl
@[simp] theorem State.setCapture_latestReport (arm : Arm) (v : Capture) : (s.setCapture arm v).latestReport = s.latestReport := rfl
@[simp] theorem State.setCapture_rack (arm : Arm) (v : Capture) : (s.setCapture arm v).rack = s.rack := rfl
@[simp] theorem State.setCapture_sequencer (arm : Arm) (v : Capture) : (s.setCapture arm v).sequencer = s.sequencer := rfl
@[simp] theorem State.setCapture_capture (arm : Arm) (v : Capture) : (s.setCapture arm v).capture = s.capture.put arm v := rfl
@[simp] theorem State.setCapture_plan (arm : Arm) (v : Capture) : (s.setCapture arm v).plan = s.plan := rfl
@[simp] theorem State.setCapture_walk (arm : Arm) (v : Capture) : (s.setCapture arm v).walk = s.walk := rfl
@[simp] theorem State.setCapture_queue (arm : Arm) (v : Capture) : (s.setCapture arm v).queue = s.queue := rfl
@[simp] theorem State.setCapture_notices (arm : Arm) (v : Capture) : (s.setCapture arm v).notices = s.notices := rfl

/-! ### setHead -/

@[simp] theorem State.setHead_pending (arm : Arm) (v : Head) : (s.setHead arm v).pending = s.pending := rfl
@[simp] theorem State.setHead_resetPin (arm : Arm) (v : Head) : (s.setHead arm v).resetPin = s.resetPin := rfl
@[simp] theorem State.setHead_now (arm : Arm) (v : Head) : (s.setHead arm v).now = s.now := rfl
@[simp] theorem State.setHead_freeIndex (arm : Arm) (v : Head) : (s.setHead arm v).freeIndex = s.freeIndex := rfl
@[simp] theorem State.setHead_setup (arm : Arm) (v : Head) : (s.setHead arm v).setup = s.setup := rfl
@[simp] theorem State.setHead_link (arm : Arm) (v : Head) : (s.setHead arm v).link = s.link := rfl
@[simp] theorem State.setHead_service (arm : Arm) (v : Head) : (s.setHead arm v).service = s.service := rfl
@[simp] theorem State.setHead_channels (arm : Arm) (v : Head) : (s.setHead arm v).channels = s.channels := rfl
@[simp] theorem State.setHead_axes (arm : Arm) (v : Head) : (s.setHead arm v).axes = s.axes := rfl
@[simp] theorem State.setHead_map (arm : Arm) (v : Head) : (s.setHead arm v).map = s.map := rfl
@[simp] theorem State.setHead_head (arm : Arm) (v : Head) : (s.setHead arm v).head = s.head.put arm v := rfl
@[simp] theorem State.setHead_zones (arm : Arm) (v : Head) : (s.setHead arm v).zones = s.zones := rfl
@[simp] theorem State.setHead_supervision (arm : Arm) (v : Head) : (s.setHead arm v).supervision = s.supervision := rfl
@[simp] theorem State.setHead_library (arm : Arm) (v : Head) : (s.setHead arm v).library = s.library := rfl
@[simp] theorem State.setHead_active (arm : Arm) (v : Head) : (s.setHead arm v).active = s.active := rfl
@[simp] theorem State.setHead_latestReport (arm : Arm) (v : Head) : (s.setHead arm v).latestReport = s.latestReport := rfl
@[simp] theorem State.setHead_rack (arm : Arm) (v : Head) : (s.setHead arm v).rack = s.rack := rfl
@[simp] theorem State.setHead_sequencer (arm : Arm) (v : Head) : (s.setHead arm v).sequencer = s.sequencer := rfl
@[simp] theorem State.setHead_capture (arm : Arm) (v : Head) : (s.setHead arm v).capture = s.capture := rfl
@[simp] theorem State.setHead_plan (arm : Arm) (v : Head) : (s.setHead arm v).plan = s.plan := rfl
@[simp] theorem State.setHead_walk (arm : Arm) (v : Head) : (s.setHead arm v).walk = s.walk := rfl
@[simp] theorem State.setHead_queue (arm : Arm) (v : Head) : (s.setHead arm v).queue = s.queue := rfl
@[simp] theorem State.setHead_notices (arm : Arm) (v : Head) : (s.setHead arm v).notices = s.notices := rfl

/-! ### setWalk -/

@[simp] theorem State.setWalk_pending (arm : Arm) (v : Walk) : (s.setWalk arm v).pending = s.pending := rfl
@[simp] theorem State.setWalk_resetPin (arm : Arm) (v : Walk) : (s.setWalk arm v).resetPin = s.resetPin := rfl
@[simp] theorem State.setWalk_now (arm : Arm) (v : Walk) : (s.setWalk arm v).now = s.now := rfl
@[simp] theorem State.setWalk_freeIndex (arm : Arm) (v : Walk) : (s.setWalk arm v).freeIndex = s.freeIndex := rfl
@[simp] theorem State.setWalk_setup (arm : Arm) (v : Walk) : (s.setWalk arm v).setup = s.setup := rfl
@[simp] theorem State.setWalk_link (arm : Arm) (v : Walk) : (s.setWalk arm v).link = s.link := rfl
@[simp] theorem State.setWalk_service (arm : Arm) (v : Walk) : (s.setWalk arm v).service = s.service := rfl
@[simp] theorem State.setWalk_channels (arm : Arm) (v : Walk) : (s.setWalk arm v).channels = s.channels := rfl
@[simp] theorem State.setWalk_axes (arm : Arm) (v : Walk) : (s.setWalk arm v).axes = s.axes := rfl
@[simp] theorem State.setWalk_map (arm : Arm) (v : Walk) : (s.setWalk arm v).map = s.map := rfl
@[simp] theorem State.setWalk_head (arm : Arm) (v : Walk) : (s.setWalk arm v).head = s.head := rfl
@[simp] theorem State.setWalk_zones (arm : Arm) (v : Walk) : (s.setWalk arm v).zones = s.zones := rfl
@[simp] theorem State.setWalk_supervision (arm : Arm) (v : Walk) : (s.setWalk arm v).supervision = s.supervision := rfl
@[simp] theorem State.setWalk_library (arm : Arm) (v : Walk) : (s.setWalk arm v).library = s.library := rfl
@[simp] theorem State.setWalk_active (arm : Arm) (v : Walk) : (s.setWalk arm v).active = s.active := rfl
@[simp] theorem State.setWalk_latestReport (arm : Arm) (v : Walk) : (s.setWalk arm v).latestReport = s.latestReport := rfl
@[simp] theorem State.setWalk_rack (arm : Arm) (v : Walk) : (s.setWalk arm v).rack = s.rack := rfl
@[simp] theorem State.setWalk_sequencer (arm : Arm) (v : Walk) : (s.setWalk arm v).sequencer = s.sequencer := rfl
@[simp] theorem State.setWalk_capture (arm : Arm) (v : Walk) : (s.setWalk arm v).capture = s.capture := rfl
@[simp] theorem State.setWalk_plan (arm : Arm) (v : Walk) : (s.setWalk arm v).plan = s.plan := rfl
@[simp] theorem State.setWalk_walk (arm : Arm) (v : Walk) : (s.setWalk arm v).walk = s.walk.put arm v := rfl
@[simp] theorem State.setWalk_queue (arm : Arm) (v : Walk) : (s.setWalk arm v).queue = s.queue := rfl
@[simp] theorem State.setWalk_notices (arm : Arm) (v : Walk) : (s.setWalk arm v).notices = s.notices := rfl

/-! ### setRack -/

@[simp] theorem State.setRack_pending (v : Rack) : (s.setRack v).pending = s.pending := rfl
@[simp] theorem State.setRack_resetPin (v : Rack) : (s.setRack v).resetPin = s.resetPin := rfl
@[simp] theorem State.setRack_now (v : Rack) : (s.setRack v).now = s.now := rfl
@[simp] theorem State.setRack_freeIndex (v : Rack) : (s.setRack v).freeIndex = s.freeIndex := rfl
@[simp] theorem State.setRack_setup (v : Rack) : (s.setRack v).setup = s.setup := rfl
@[simp] theorem State.setRack_link (v : Rack) : (s.setRack v).link = s.link := rfl
@[simp] theorem State.setRack_service (v : Rack) : (s.setRack v).service = s.service := rfl
@[simp] theorem State.setRack_channels (v : Rack) : (s.setRack v).channels = s.channels := rfl
@[simp] theorem State.setRack_axes (v : Rack) : (s.setRack v).axes = s.axes := rfl
@[simp] theorem State.setRack_map (v : Rack) : (s.setRack v).map = s.map := rfl
@[simp] theorem State.setRack_head (v : Rack) : (s.setRack v).head = s.head := rfl
@[simp] theorem State.setRack_zones (v : Rack) : (s.setRack v).zones = s.zones := rfl
@[simp] theorem State.setRack_supervision (v : Rack) : (s.setRack v).supervision = s.supervision := rfl
@[simp] theorem State.setRack_library (v : Rack) : (s.setRack v).library = s.library := rfl
@[simp] theorem State.setRack_active (v : Rack) : (s.setRack v).active = s.active := rfl
@[simp] theorem State.setRack_latestReport (v : Rack) : (s.setRack v).latestReport = s.latestReport := rfl
@[simp] theorem State.setRack_rack (v : Rack) : (s.setRack v).rack = v := rfl
@[simp] theorem State.setRack_sequencer (v : Rack) : (s.setRack v).sequencer = s.sequencer := rfl
@[simp] theorem State.setRack_capture (v : Rack) : (s.setRack v).capture = s.capture := rfl
@[simp] theorem State.setRack_plan (v : Rack) : (s.setRack v).plan = s.plan := rfl
@[simp] theorem State.setRack_walk (v : Rack) : (s.setRack v).walk = s.walk := rfl
@[simp] theorem State.setRack_queue (v : Rack) : (s.setRack v).queue = s.queue := rfl
@[simp] theorem State.setRack_notices (v : Rack) : (s.setRack v).notices = s.notices := rfl

/-! ### setLink -/

@[simp] theorem State.setLink_pending (v : Link) : (s.setLink v).pending = s.pending := rfl
@[simp] theorem State.setLink_resetPin (v : Link) : (s.setLink v).resetPin = s.resetPin := rfl
@[simp] theorem State.setLink_now (v : Link) : (s.setLink v).now = s.now := rfl
@[simp] theorem State.setLink_freeIndex (v : Link) : (s.setLink v).freeIndex = s.freeIndex := rfl
@[simp] theorem State.setLink_setup (v : Link) : (s.setLink v).setup = s.setup := rfl
@[simp] theorem State.setLink_link (v : Link) : (s.setLink v).link = v := rfl
@[simp] theorem State.setLink_service (v : Link) : (s.setLink v).service = s.service := rfl
@[simp] theorem State.setLink_channels (v : Link) : (s.setLink v).channels = s.channels := rfl
@[simp] theorem State.setLink_axes (v : Link) : (s.setLink v).axes = s.axes := rfl
@[simp] theorem State.setLink_map (v : Link) : (s.setLink v).map = s.map := rfl
@[simp] theorem State.setLink_head (v : Link) : (s.setLink v).head = s.head := rfl
@[simp] theorem State.setLink_zones (v : Link) : (s.setLink v).zones = s.zones := rfl
@[simp] theorem State.setLink_supervision (v : Link) : (s.setLink v).supervision = s.supervision := rfl
@[simp] theorem State.setLink_library (v : Link) : (s.setLink v).library = s.library := rfl
@[simp] theorem State.setLink_active (v : Link) : (s.setLink v).active = s.active := rfl
@[simp] theorem State.setLink_latestReport (v : Link) : (s.setLink v).latestReport = s.latestReport := rfl
@[simp] theorem State.setLink_rack (v : Link) : (s.setLink v).rack = s.rack := rfl
@[simp] theorem State.setLink_sequencer (v : Link) : (s.setLink v).sequencer = s.sequencer := rfl
@[simp] theorem State.setLink_capture (v : Link) : (s.setLink v).capture = s.capture := rfl
@[simp] theorem State.setLink_plan (v : Link) : (s.setLink v).plan = s.plan := rfl
@[simp] theorem State.setLink_walk (v : Link) : (s.setLink v).walk = s.walk := rfl
@[simp] theorem State.setLink_queue (v : Link) : (s.setLink v).queue = s.queue := rfl
@[simp] theorem State.setLink_notices (v : Link) : (s.setLink v).notices = s.notices := rfl

/-! ### setService -/

@[simp] theorem State.setService_pending (v : Service) : (s.setService v).pending = s.pending := rfl
@[simp] theorem State.setService_resetPin (v : Service) : (s.setService v).resetPin = s.resetPin := rfl
@[simp] theorem State.setService_now (v : Service) : (s.setService v).now = s.now := rfl
@[simp] theorem State.setService_freeIndex (v : Service) : (s.setService v).freeIndex = s.freeIndex := rfl
@[simp] theorem State.setService_setup (v : Service) : (s.setService v).setup = s.setup := rfl
@[simp] theorem State.setService_link (v : Service) : (s.setService v).link = s.link := rfl
@[simp] theorem State.setService_service (v : Service) : (s.setService v).service = v := rfl
@[simp] theorem State.setService_channels (v : Service) : (s.setService v).channels = s.channels := rfl
@[simp] theorem State.setService_axes (v : Service) : (s.setService v).axes = s.axes := rfl
@[simp] theorem State.setService_map (v : Service) : (s.setService v).map = s.map := rfl
@[simp] theorem State.setService_head (v : Service) : (s.setService v).head = s.head := rfl
@[simp] theorem State.setService_zones (v : Service) : (s.setService v).zones = s.zones := rfl
@[simp] theorem State.setService_supervision (v : Service) : (s.setService v).supervision = s.supervision := rfl
@[simp] theorem State.setService_library (v : Service) : (s.setService v).library = s.library := rfl
@[simp] theorem State.setService_active (v : Service) : (s.setService v).active = s.active := rfl
@[simp] theorem State.setService_latestReport (v : Service) : (s.setService v).latestReport = s.latestReport := rfl
@[simp] theorem State.setService_rack (v : Service) : (s.setService v).rack = s.rack := rfl
@[simp] theorem State.setService_sequencer (v : Service) : (s.setService v).sequencer = s.sequencer := rfl
@[simp] theorem State.setService_capture (v : Service) : (s.setService v).capture = s.capture := rfl
@[simp] theorem State.setService_plan (v : Service) : (s.setService v).plan = s.plan := rfl
@[simp] theorem State.setService_walk (v : Service) : (s.setService v).walk = s.walk := rfl
@[simp] theorem State.setService_queue (v : Service) : (s.setService v).queue = s.queue := rfl
@[simp] theorem State.setService_notices (v : Service) : (s.setService v).notices = s.notices := rfl

/-! ### setQueue -/

@[simp] theorem State.setQueue_pending (v : Queue) : (s.setQueue v).pending = s.pending := rfl
@[simp] theorem State.setQueue_resetPin (v : Queue) : (s.setQueue v).resetPin = s.resetPin := rfl
@[simp] theorem State.setQueue_now (v : Queue) : (s.setQueue v).now = s.now := rfl
@[simp] theorem State.setQueue_freeIndex (v : Queue) : (s.setQueue v).freeIndex = s.freeIndex := rfl
@[simp] theorem State.setQueue_setup (v : Queue) : (s.setQueue v).setup = s.setup := rfl
@[simp] theorem State.setQueue_link (v : Queue) : (s.setQueue v).link = s.link := rfl
@[simp] theorem State.setQueue_service (v : Queue) : (s.setQueue v).service = s.service := rfl
@[simp] theorem State.setQueue_channels (v : Queue) : (s.setQueue v).channels = s.channels := rfl
@[simp] theorem State.setQueue_axes (v : Queue) : (s.setQueue v).axes = s.axes := rfl
@[simp] theorem State.setQueue_map (v : Queue) : (s.setQueue v).map = s.map := rfl
@[simp] theorem State.setQueue_head (v : Queue) : (s.setQueue v).head = s.head := rfl
@[simp] theorem State.setQueue_zones (v : Queue) : (s.setQueue v).zones = s.zones := rfl
@[simp] theorem State.setQueue_supervision (v : Queue) : (s.setQueue v).supervision = s.supervision := rfl
@[simp] theorem State.setQueue_library (v : Queue) : (s.setQueue v).library = s.library := rfl
@[simp] theorem State.setQueue_active (v : Queue) : (s.setQueue v).active = s.active := rfl
@[simp] theorem State.setQueue_latestReport (v : Queue) : (s.setQueue v).latestReport = s.latestReport := rfl
@[simp] theorem State.setQueue_rack (v : Queue) : (s.setQueue v).rack = s.rack := rfl
@[simp] theorem State.setQueue_sequencer (v : Queue) : (s.setQueue v).sequencer = s.sequencer := rfl
@[simp] theorem State.setQueue_capture (v : Queue) : (s.setQueue v).capture = s.capture := rfl
@[simp] theorem State.setQueue_plan (v : Queue) : (s.setQueue v).plan = s.plan := rfl
@[simp] theorem State.setQueue_walk (v : Queue) : (s.setQueue v).walk = s.walk := rfl
@[simp] theorem State.setQueue_queue (v : Queue) : (s.setQueue v).queue = v := rfl
@[simp] theorem State.setQueue_notices (v : Queue) : (s.setQueue v).notices = s.notices := rfl

/-! ### setNotices -/

@[simp] theorem State.setNotices_pending (v : Notices) : (s.setNotices v).pending = s.pending := rfl
@[simp] theorem State.setNotices_resetPin (v : Notices) : (s.setNotices v).resetPin = s.resetPin := rfl
@[simp] theorem State.setNotices_now (v : Notices) : (s.setNotices v).now = s.now := rfl
@[simp] theorem State.setNotices_freeIndex (v : Notices) : (s.setNotices v).freeIndex = s.freeIndex := rfl
@[simp] theorem State.setNotices_setup (v : Notices) : (s.setNotices v).setup = s.setup := rfl
@[simp] theorem State.setNotices_link (v : Notices) : (s.setNotices v).link = s.link := rfl
@[simp] theorem State.setNotices_service (v : Notices) : (s.setNotices v).service = s.service := rfl
@[simp] theorem State.setNotices_channels (v : Notices) : (s.setNotices v).channels = s.channels := rfl
@[simp] theorem State.setNotices_axes (v : Notices) : (s.setNotices v).axes = s.axes := rfl
@[simp] theorem State.setNotices_map (v : Notices) : (s.setNotices v).map = s.map := rfl
@[simp] theorem State.setNotices_head (v : Notices) : (s.setNotices v).head = s.head := rfl
@[simp] theorem State.setNotices_zones (v : Notices) : (s.setNotices v).zones = s.zones := rfl
@[simp] theorem State.setNotices_supervision (v : Notices) : (s.setNotices v).supervision = s.supervision := rfl
@[simp] theorem State.setNotices_library (v : Notices) : (s.setNotices v).library = s.library := rfl
@[simp] theorem State.setNotices_active (v : Notices) : (s.setNotices v).active = s.active := rfl
@[simp] theorem State.setNotices_latestReport (v : Notices) : (s.setNotices v).latestReport = s.latestReport := rfl
@[simp] theorem State.setNotices_rack (v : Notices) : (s.setNotices v).rack = s.rack := rfl
@[simp] theorem State.setNotices_sequencer (v : Notices) : (s.setNotices v).sequencer = s.sequencer := rfl
@[simp] theorem State.setNotices_capture (v : Notices) : (s.setNotices v).capture = s.capture := rfl
@[simp] theorem State.setNotices_plan (v : Notices) : (s.setNotices v).plan = s.plan := rfl
@[simp] theorem State.setNotices_walk (v : Notices) : (s.setNotices v).walk = s.walk := rfl
@[simp] theorem State.setNotices_queue (v : Notices) : (s.setNotices v).queue = s.queue := rfl
@[simp] theorem State.setNotices_notices (v : Notices) : (s.setNotices v).notices = v := rfl

/-! ### reach -/

@[simp] theorem State.reach_pending (e : Nat) : (s.reach e).pending = s.pending := rfl
@[simp] theorem State.reach_resetPin (e : Nat) : (s.reach e).resetPin = s.resetPin := rfl
@[simp] theorem State.reach_now (e : Nat) : (s.reach e).now = max s.now e := rfl
@[simp] theorem State.reach_freeIndex (e : Nat) : (s.reach e).freeIndex = s.freeIndex := rfl
@[simp] theorem State.reach_setup (e : Nat) : (s.reach e).setup = s.setup := rfl
@[simp] theorem State.reach_link (e : Nat) : (s.reach e).link = s.link := rfl
@[simp] theorem State.reach_service (e : Nat) : (s.reach e).service = s.service := rfl
@[simp] theorem State.reach_channels (e : Nat) : (s.reach e).channels = s.channels := rfl
@[simp] theorem State.reach_axes (e : Nat) : (s.reach e).axes = s.axes := rfl
@[simp] theorem State.reach_map (e : Nat) : (s.reach e).map = s.map := rfl
@[simp] theorem State.reach_head (e : Nat) : (s.reach e).head = s.head := rfl
@[simp] theorem State.reach_zones (e : Nat) : (s.reach e).zones = s.zones := rfl
@[simp] theorem State.reach_supervision (e : Nat) : (s.reach e).supervision = s.supervision := rfl
@[simp] theorem State.reach_library (e : Nat) : (s.reach e).library = s.library := rfl
@[simp] theorem State.reach_active (e : Nat) : (s.reach e).active = s.active := rfl
@[simp] theorem State.reach_latestReport (e : Nat) : (s.reach e).latestReport = s.latestReport := rfl
@[simp] theorem State.reach_rack (e : Nat) : (s.reach e).rack = s.rack := rfl
@[simp] theorem State.reach_sequencer (e : Nat) : (s.reach e).sequencer = s.sequencer := rfl
@[simp] theorem State.reach_capture (e : Nat) : (s.reach e).capture = s.capture := rfl
@[simp] theorem State.reach_plan (e : Nat) : (s.reach e).plan = s.plan := rfl
@[simp] theorem State.reach_walk (e : Nat) : (s.reach e).walk = s.walk := rfl
@[simp] theorem State.reach_queue (e : Nat) : (s.reach e).queue = s.queue := rfl
@[simp] theorem State.reach_notices (e : Nat) : (s.reach e).notices = s.notices := rfl

/-! ### raise -/

@[simp] theorem State.raise_pending (k : NoticeKind) (j : Subject) (d : Nat) : (s.raise k j d).pending = s.pending := rfl
@[simp] theorem State.raise_resetPin (k : NoticeKind) (j : Subject) (d : Nat) : (s.raise k j d).resetPin = s.resetPin := rfl
@[simp] theorem State.raise_now (k : NoticeKind) (j : Subject) (d : Nat) : (s.raise k j d).now = s.now := rfl
@[simp] theorem State.raise_freeIndex (k : NoticeKind) (j : Subject) (d : Nat) : (s.raise k j d).freeIndex = s.freeIndex := rfl
@[simp] theorem State.raise_setup (k : NoticeKind) (j : Subject) (d : Nat) : (s.raise k j d).setup = s.setup := rfl
@[simp] theorem State.raise_link (k : NoticeKind) (j : Subject) (d : Nat) : (s.raise k j d).link = s.link := rfl
@[simp] theorem State.raise_service (k : NoticeKind) (j : Subject) (d : Nat) : (s.raise k j d).service = s.service := rfl
@[simp] theorem State.raise_channels (k : NoticeKind) (j : Subject) (d : Nat) : (s.raise k j d).channels = s.channels := rfl
@[simp] theorem State.raise_axes (k : NoticeKind) (j : Subject) (d : Nat) : (s.raise k j d).axes = s.axes := rfl
@[simp] theorem State.raise_map (k : NoticeKind) (j : Subject) (d : Nat) : (s.raise k j d).map = s.map := rfl
@[simp] theorem State.raise_head (k : NoticeKind) (j : Subject) (d : Nat) : (s.raise k j d).head = s.head := rfl
@[simp] theorem State.raise_zones (k : NoticeKind) (j : Subject) (d : Nat) : (s.raise k j d).zones = s.zones := rfl
@[simp] theorem State.raise_supervision (k : NoticeKind) (j : Subject) (d : Nat) : (s.raise k j d).supervision = s.supervision := rfl
@[simp] theorem State.raise_library (k : NoticeKind) (j : Subject) (d : Nat) : (s.raise k j d).library = s.library := rfl
@[simp] theorem State.raise_active (k : NoticeKind) (j : Subject) (d : Nat) : (s.raise k j d).active = s.active := rfl
@[simp] theorem State.raise_latestReport (k : NoticeKind) (j : Subject) (d : Nat) : (s.raise k j d).latestReport = s.latestReport := rfl
@[simp] theorem State.raise_rack (k : NoticeKind) (j : Subject) (d : Nat) : (s.raise k j d).rack = s.rack := rfl
@[simp] theorem State.raise_sequencer (k : NoticeKind) (j : Subject) (d : Nat) : (s.raise k j d).sequencer = s.sequencer := rfl
@[simp] theorem State.raise_capture (k : NoticeKind) (j : Subject) (d : Nat) : (s.raise k j d).capture = s.capture := rfl
@[simp] theorem State.raise_plan (k : NoticeKind) (j : Subject) (d : Nat) : (s.raise k j d).plan = s.plan := rfl
@[simp] theorem State.raise_walk (k : NoticeKind) (j : Subject) (d : Nat) : (s.raise k j d).walk = s.walk := rfl
@[simp] theorem State.raise_queue (k : NoticeKind) (j : Subject) (d : Nat) : (s.raise k j d).queue = s.queue := rfl
@[simp] theorem State.raise_notices (k : NoticeKind) (j : Subject) (d : Nat) : (s.raise k j d).notices = s.notices.enter k j d := rfl

/-! ### setCurrentCycle -/

@[simp] theorem State.setCurrentCycle_pending (c : CycleNumber) : (s.setCurrentCycle c).pending = s.pending := rfl
@[simp] theorem State.setCurrentCycle_resetPin (c : CycleNumber) : (s.setCurrentCycle c).resetPin = s.resetPin := rfl
@[simp] theorem State.setCurrentCycle_now (c : CycleNumber) : (s.setCurrentCycle c).now = s.now := rfl
@[simp] theorem State.setCurrentCycle_freeIndex (c : CycleNumber) : (s.setCurrentCycle c).freeIndex = s.freeIndex := rfl
@[simp] theorem State.setCurrentCycle_setup (c : CycleNumber) : (s.setCurrentCycle c).setup = s.setup := rfl
@[simp] theorem State.setCurrentCycle_link (c : CycleNumber) : (s.setCurrentCycle c).link = s.link := rfl
@[simp] theorem State.setCurrentCycle_service (c : CycleNumber) : (s.setCurrentCycle c).service = s.service := rfl
@[simp] theorem State.setCurrentCycle_channels (c : CycleNumber) : (s.setCurrentCycle c).channels = s.channels := rfl
@[simp] theorem State.setCurrentCycle_axes (c : CycleNumber) : (s.setCurrentCycle c).axes = s.axes := rfl
@[simp] theorem State.setCurrentCycle_map (c : CycleNumber) : (s.setCurrentCycle c).map = s.map := rfl
@[simp] theorem State.setCurrentCycle_head (c : CycleNumber) : (s.setCurrentCycle c).head = s.head := rfl
@[simp] theorem State.setCurrentCycle_zones (c : CycleNumber) : (s.setCurrentCycle c).zones = s.zones := rfl
@[simp] theorem State.setCurrentCycle_supervision (c : CycleNumber) : (s.setCurrentCycle c).supervision = s.supervision := rfl
@[simp] theorem State.setCurrentCycle_library (c : CycleNumber) : (s.setCurrentCycle c).library = s.library := rfl
@[simp] theorem State.setCurrentCycle_active (c : CycleNumber) : (s.setCurrentCycle c).active = s.active := rfl
@[simp] theorem State.setCurrentCycle_latestReport (c : CycleNumber) : (s.setCurrentCycle c).latestReport = s.latestReport := rfl
@[simp] theorem State.setCurrentCycle_rack (c : CycleNumber) : (s.setCurrentCycle c).rack = s.rack := rfl
@[simp] theorem State.setCurrentCycle_sequencer (c : CycleNumber) : (s.setCurrentCycle c).sequencer = s.sequencer := rfl
@[simp] theorem State.setCurrentCycle_capture (c : CycleNumber) : (s.setCurrentCycle c).capture = s.capture := rfl
@[simp] theorem State.setCurrentCycle_plan (c : CycleNumber) : (s.setCurrentCycle c).plan = s.plan := rfl
@[simp] theorem State.setCurrentCycle_walk (c : CycleNumber) : (s.setCurrentCycle c).walk = s.walk := rfl
@[simp] theorem State.setCurrentCycle_queue (c : CycleNumber) : (s.setCurrentCycle c).queue = s.queue := rfl
@[simp] theorem State.setCurrentCycle_notices (c : CycleNumber) : (s.setCurrentCycle c).notices = { s.notices with currentCycle := c } := rfl

/-! ### drawn -/

@[simp] theorem State.drawn_pending : (s.drawn).pending = s.pending := rfl
@[simp] theorem State.drawn_resetPin : (s.drawn).resetPin = s.resetPin := rfl
@[simp] theorem State.drawn_now : (s.drawn).now = s.now := rfl
@[simp] theorem State.drawn_freeIndex : (s.drawn).freeIndex = s.freeIndex + 1 := rfl
@[simp] theorem State.drawn_setup : (s.drawn).setup = s.setup := rfl
@[simp] theorem State.drawn_link : (s.drawn).link = s.link := rfl
@[simp] theorem State.drawn_service : (s.drawn).service = s.service := rfl
@[simp] theorem State.drawn_channels : (s.drawn).channels = s.channels := rfl
@[simp] theorem State.drawn_axes : (s.drawn).axes = s.axes := rfl
@[simp] theorem State.drawn_map : (s.drawn).map = s.map := rfl
@[simp] theorem State.drawn_head : (s.drawn).head = s.head := rfl
@[simp] theorem State.drawn_zones : (s.drawn).zones = s.zones := rfl
@[simp] theorem State.drawn_supervision : (s.drawn).supervision = s.supervision := rfl
@[simp] theorem State.drawn_library : (s.drawn).library = s.library := rfl
@[simp] theorem State.drawn_active : (s.drawn).active = s.active := rfl
@[simp] theorem State.drawn_latestReport : (s.drawn).latestReport = s.latestReport := rfl
@[simp] theorem State.drawn_rack : (s.drawn).rack = s.rack := rfl
@[simp] theorem State.drawn_sequencer : (s.drawn).sequencer = s.sequencer := rfl
@[simp] theorem State.drawn_capture : (s.drawn).capture = s.capture := rfl
@[simp] theorem State.drawn_plan : (s.drawn).plan = s.plan := rfl
@[simp] theorem State.drawn_walk : (s.drawn).walk = s.walk := rfl
@[simp] theorem State.drawn_queue : (s.drawn).queue = s.queue := rfl
@[simp] theorem State.drawn_notices : (s.drawn).notices = s.notices := rfl

/-! ### breakWindow -/

@[simp] theorem breakWindow_pending : (breakWindow s).pending = s.pending := rfl
@[simp] theorem breakWindow_resetPin : (breakWindow s).resetPin = s.resetPin := rfl
@[simp] theorem breakWindow_now : (breakWindow s).now = s.now := rfl
@[simp] theorem breakWindow_freeIndex : (breakWindow s).freeIndex = s.freeIndex := rfl
@[simp] theorem breakWindow_setup : (breakWindow s).setup = s.setup := rfl
@[simp] theorem breakWindow_link : (breakWindow s).link = s.link := rfl
@[simp] theorem breakWindow_service : (breakWindow s).service = { s.service with window := s.service.window.broke } := rfl
@[simp] theorem breakWindow_channels : (breakWindow s).channels = s.channels := rfl
@[simp] theorem breakWindow_axes : (breakWindow s).axes = s.axes := rfl
@[simp] theorem breakWindow_map : (breakWindow s).map = s.map := rfl
@[simp] theorem breakWindow_head : (breakWindow s).head = s.head := rfl
@[simp] theorem breakWindow_zones : (breakWindow s).zones = s.zones := rfl
@[simp] theorem breakWindow_supervision : (breakWindow s).supervision = s.supervision := rfl
@[simp] theorem breakWindow_library : (breakWindow s).library = s.library := rfl
@[simp] theorem breakWindow_active : (breakWindow s).active = s.active := rfl
@[simp] theorem breakWindow_latestReport : (breakWindow s).latestReport = s.latestReport := rfl
@[simp] theorem breakWindow_rack : (breakWindow s).rack = s.rack := rfl
@[simp] theorem breakWindow_sequencer : (breakWindow s).sequencer = s.sequencer := rfl
@[simp] theorem breakWindow_capture : (breakWindow s).capture = s.capture := rfl
@[simp] theorem breakWindow_plan : (breakWindow s).plan = s.plan := rfl
@[simp] theorem breakWindow_walk : (breakWindow s).walk = s.walk := rfl
@[simp] theorem breakWindow_queue : (breakWindow s).queue = s.queue := rfl
@[simp] theorem breakWindow_notices : (breakWindow s).notices = s.notices := rfl

end Sys2Proof.Machine
end

