-- ==== Sys2Proof/Laws/Ops.lean ====
section
/-! SUPPORT. What each shared operation can do, said once: access by arm, tables, the transmit queues, the rack channel, the capture
queue, the notice list and the step. -/

namespace Sys2Proof.Machine

/-! ### Arms -/

@[simp] theorem PerArm.get_put_same {α : Type} (p : PerArm α) (arm : Arm) (v : α) : (p.put arm v).get arm = v := by
  cases arm <;> rfl

theorem PerArm.get_put_ne {α : Type} (p : PerArm α) {arm other : Arm} (v : α) (h : other ≠ arm) :
    (p.put arm v).get other = p.get other := by
  cases arm <;> cases other <;> first | rfl | exact absurd rfl h

@[simp] theorem PerArm.get_put_other {α : Type} (p : PerArm α) (arm : Arm) (v : α) :
    (p.put arm v).get (otherArm arm) = p.get (otherArm arm) := by
  cases arm <;> rfl

@[simp] theorem PerArm.put_get_self {α : Type} (p : PerArm α) (arm : Arm) : p.put arm (p.get arm) = p := by
  cases arm <;> rfl

@[simp] theorem PerArm.put_put {α : Type} (p : PerArm α) (arm : Arm) (v w : α) : (p.put arm v).put arm w = p.put arm w := by
  cases arm <;> rfl

theorem PerArm.ext_get {α : Type} {p q : PerArm α} (h : ∀ arm, p.get arm = q.get arm) : p = q := by
  cases p; cases q
  have ha := h .a
  have hb := h .b
  simp_all [PerArm.get]

@[simp] theorem otherArm_otherArm (arm : Arm) : otherArm (otherArm arm) = arm := by cases arm <;> rfl

theorem otherArm_ne (arm : Arm) : otherArm arm ≠ arm := by cases arm <;> decide

/-! ### Tables -/

/-- Reading the entry that was stored gives it. -/
@[simp] theorem Table.entry_store_same {α : Type} (t : Table α) (i : Nat) (v : α) : Table.entry (Table.store t i v) i = some v := by
  induction t with
  | nil => simp [Table.store, Table.entry]
  | cons p t ih =>
    obtain ⟨k, w⟩ := p
    simp only [Table.store]
    split
    · simp [Table.entry]
    · split
      · simp [Table.entry]
      · rename_i h1 h2
        simp [Table.entry, ih, Ne.symm h2]

/-- Storing an entry leaves every other index. -/
theorem Table.entry_store_ne {α : Type} (t : Table α) {i j : Nat} (v : α) (h : j ≠ i) :
    Table.entry (Table.store t i v) j = Table.entry t j := by
  induction t with
  | nil => simp [Table.store, Table.entry, Ne.symm h]
  | cons p t ih =>
    obtain ⟨k, w⟩ := p
    simp only [Table.store]
    split
    · simp [Table.entry, Ne.symm h]
    · split
      · rename_i h2
        subst h2
        simp [Table.entry, Ne.symm h]
      · simp [Table.entry, ih]

/-- A cleared index holds the empty entry. -/
@[simp] theorem Table.entry_clear_same {α : Type} (t : Table α) (i : Nat) : Table.entry (Table.clear t i) i = none := by
  induction t with
  | nil => rfl
  | cons p t ih =>
    obtain ⟨k, w⟩ := p
    simp only [Table.clear]
    split
    · exact ih
    · rename_i h
      simp [Table.entry, h, ih]

/-- Clearing an index leaves every other one. -/
theorem Table.entry_clear_ne {α : Type} (t : Table α) {i j : Nat} (h : j ≠ i) :
    Table.entry (Table.clear t i) j = Table.entry t j := by
  induction t with
  | nil => rfl
  | cons p t ih =>
    obtain ⟨k, w⟩ := p
    simp only [Table.clear]
    split
    · rename_i hk
      subst hk
      simp [Table.entry, Ne.symm h, ih]
    · simp [Table.entry, ih]

/-- Reading what was written, at the index written and at any other. -/
theorem Table.entry_write {α : Type} (t : Table α) (i j : Nat) (e : Option α) :
    Table.entry (Table.write t i e) j = if j = i then e else Table.entry t j := by
  cases e with
  | none =>
    by_cases h : j = i
    · subst h; simp [Table.write]
    · simp [Table.write, h, Table.entry_clear_ne t h]
  | some v =>
    by_cases h : j = i
    · subst h; simp [Table.write]
    · simp [Table.write, h, Table.entry_store_ne t v h]

theorem Table.risesFrom_mono {α : Type} {size low low' : Nat} {t : Table α} (h : low' ≤ low)
    (ht : Table.risesFrom size low t = true) : Table.risesFrom size low' t = true := by
  cases t with
  | nil => rfl
  | cons p t =>
    simp only [Table.risesFrom, Bool.and_eq_true, decide_eq_true_eq] at ht ⊢
    exact ⟨⟨le_trans h ht.1.1, ht.1.2⟩, ht.2⟩

theorem Table.risesFrom_store {α : Type} {size low i : Nat} {t : Table α} (v : α) (ht : Table.risesFrom size low t = true)
    (hl : low ≤ i) (hi : i < size) : Table.risesFrom size low (Table.store t i v) = true := by
  induction t generalizing low with
  | nil => simp [Table.store, Table.risesFrom, hl, hi]
  | cons p t ih =>
    obtain ⟨k, w⟩ := p
    simp only [Table.risesFrom, Bool.and_eq_true, decide_eq_true_eq] at ht
    simp only [Table.store]
    split
    · simp only [Table.risesFrom, Bool.and_eq_true, decide_eq_true_eq]
      exact ⟨⟨hl, hi⟩, ⟨by omega, ht.1.2⟩, ht.2⟩
    · split
      · rename_i h2
        subst h2
        simp only [Table.risesFrom, Bool.and_eq_true, decide_eq_true_eq]
        exact ⟨⟨hl, hi⟩, ht.2⟩
      · simp only [Table.risesFrom, Bool.and_eq_true, decide_eq_true_eq]
        exact ⟨ht.1, ih ht.2 (by omega)⟩

theorem Table.risesFrom_clear {α : Type} {size low i : Nat} {t : Table α} (ht : Table.risesFrom size low t = true) :
    Table.risesFrom size low (Table.clear t i) = true := by
  induction t generalizing low with
  | nil => rfl
  | cons p t ih =>
    obtain ⟨k, w⟩ := p
    simp only [Table.risesFrom, Bool.and_eq_true, decide_eq_true_eq] at ht
    simp only [Table.clear]
    split
    · exact Table.risesFrom_mono (by omega) (ih ht.2)
    · simp only [Table.risesFrom, Bool.and_eq_true, decide_eq_true_eq]
      exact ⟨ht.1, ih ht.2⟩

/-- Storing at an index of the table keeps the canonical form. -/
theorem Table.wf_store {α : Type} {size i : Nat} {t : Table α} (v : α) (ht : Table.wf size t = true) (hi : i < size) :
    Table.wf size (Table.store t i v) = true :=
  Table.risesFrom_store v ht (Nat.zero_le i) hi

/-- Clearing keeps the canonical form. -/
theorem Table.wf_clear {α : Type} {size i : Nat} {t : Table α} (ht : Table.wf size t = true) :
    Table.wf size (Table.clear t i) = true :=
  Table.risesFrom_clear ht

/-- Writing at an index of the table keeps the canonical form. -/
theorem Table.wf_write {α : Type} {size i : Nat} {t : Table α} (e : Option α) (ht : Table.wf size t = true) (hi : i < size) :
    Table.wf size (Table.write t i e) = true := by
  cases e with
  | none => exact Table.wf_clear ht
  | some v => exact Table.wf_store v ht hi

/-- A written map point reads as written, and every other point as before. -/
theorem mapPoint_write (t : Table Int) (i j : Nat) (v : Int) :
    mapPoint (writeMapPoint t i v) j = if j = i then v else mapPoint t j := by
  unfold mapPoint writeMapPoint
  rw [Table.entry_write]
  by_cases h : j = i
  · by_cases hv : v = 0 <;> simp [h, hv]
  · simp [h]

theorem Table.all_store {α : Type} {p : Nat × α → Bool} {t : Table α} {i : Nat} {v : α} (ht : t.all p = true)
    (hv : p (i, v) = true) : (Table.store t i v).all p = true := by
  induction t with
  | nil => simpa [Table.store] using hv
  | cons q t ih =>
    obtain ⟨k, w⟩ := q
    simp only [List.all_cons, Bool.and_eq_true] at ht
    simp only [Table.store]
    split
    · simp only [List.all_cons, Bool.and_eq_true]; exact ⟨hv, ht⟩
    · split
      · simp only [List.all_cons, Bool.and_eq_true]; exact ⟨hv, ht.2⟩
      · simp only [List.all_cons, Bool.and_eq_true]; exact ⟨ht.1, ih ht.2⟩

theorem Table.all_clear {α : Type} {p : Nat × α → Bool} {t : Table α} {i : Nat} (ht : t.all p = true) :
    (Table.clear t i).all p = true := by
  induction t with
  | nil => rfl
  | cons q t ih =>
    obtain ⟨k, w⟩ := q
    simp only [List.all_cons, Bool.and_eq_true] at ht
    simp only [Table.clear]
    split
    · exact ih ht.2
    · simp only [List.all_cons, Bool.and_eq_true]; exact ⟨ht.1, ih ht.2⟩

/-- Writing a map point keeps the MAP table's canonical form: rising indices, and no point listed with the value 0. -/
theorem writeMapPoint_wf {t : Table Int} {i : Nat} (v : Int) (ht : Table.wf 1536 t = true) (hz : t.all (fun p => p.2 != 0) = true)
    (hi : i < 1536) :
    Table.wf 1536 (writeMapPoint t i v) = true ∧ (writeMapPoint t i v).all (fun p => p.2 != 0) = true := by
  unfold writeMapPoint
  refine ⟨Table.wf_write _ ht hi, ?_⟩
  by_cases hv : v = 0
  · simpa [hv, Table.write] using Table.all_clear (i := i) hz
  · simpa [hv, Table.write] using Table.all_store (i := i) (v := v) hz (by simpa using hv)

/-! ### Transmit queues and bad frames -/

/-- All that placing a frame does: nothing on a full queue, otherwise the frame at the back of its port's queue. -/
theorem State.placeTx_cases (s : State) (p : Port) (t : TxFrame) :
    (8 ≤ (s.link.tx p).length ∧ s.placeTx p t = s) ∨
    ((s.link.tx p).length < 8 ∧ s.placeTx p t = s.setLink (s.link.setTx p (s.link.tx p ++ [t]))) := by
  unfold State.placeTx State.txFull Config.transmitDepth
  by_cases h : 8 ≤ (s.link.tx p).length
  · exact .inl ⟨h, by simp [h]⟩
  · exact .inr ⟨by omega, by simp [h]⟩

/-- All that forwarding a frame does: a count on the port of arrival when the other port's queue is full, otherwise the frame at its
back. -/
theorem State.forward_cases (s : State) (p : Port) (t : TxFrame) :
    (8 ≤ (s.link.tx (otherPort p)).length ∧ s.forward p t = s.countBadFrame p) ∨
    ((s.link.tx (otherPort p)).length < 8 ∧
      s.forward p t = s.setLink (s.link.setTx (otherPort p) (s.link.tx (otherPort p) ++ [t]))) := by
  unfold State.forward State.placeTx State.txFull Config.transmitDepth
  by_cases h : 8 ≤ (s.link.tx (otherPort p)).length
  · exact .inl ⟨h, by simp [h]⟩
  · exact .inr ⟨by omega, by simp [h]⟩

/-- Counting a bad frame touches the port's counter and the notice list. -/
theorem State.countBadFrame_eq (s : State) (p : Port) :
    s.countBadFrame p = { s with
      link := (match p with
        | .u => { s.link with badU := min 65535 (s.link.badU + 1) }
        | .d => { s.link with badD := min 65535 (s.link.badD + 1) })
      notices := s.notices.enter .badFrame .none 0 } := by
  cases p <;> rfl

/-- An action in a part held in reset does nothing. -/
@[simp] theorem State.unlessReset_held {s : State} (f : State → State) (h : s.resetPin = true) : s.unlessReset f = s := by
  simp [State.unlessReset, h]

/-- An action in a part that runs. -/
@[simp] theorem State.unlessReset_runs {s : State} (f : State → State) (h : s.resetPin = false) : s.unlessReset f = f s := by
  simp [State.unlessReset, h]

/-! ### The notice list -/

/-- All that a raise does to the list. -/
theorem Notices.enter_cases (n : Notices) (kind : NoticeKind) (subject : Subject) (detail : Nat) :
    (n.enter kind subject detail = n) ∨
    (n.enter kind subject detail = { n with entries := n.entries.map (fun e =>
        if e.kind == kind && e.subject == subject then { e with detail := detail, repeats := bump8 e.repeats } else e) }) ∨
    (n.entries.length < 32 ∧ n.entries.any (fun e => e.kind == kind && e.subject == subject) = false ∧
      n.enter kind subject detail = { n with entries := n.entries ++
        [{ kind := kind, subject := subject, detail := detail, firstCycle := n.currentCycle, repeats := 1 }] }) ∨
    (n.enter kind subject detail = { n with lost := bump16 n.lost }) := by
  unfold Notices.enter
  split
  · exact .inl rfl
  · split
    · exact .inr (.inl rfl)
    · split
      · rename_i h1 h2
        exact .inr (.inr (.inl ⟨h2, by simpa using h1, rfl⟩))
      · exact .inr (.inr (.inr rfl))

@[simp] theorem Notices.enter_mask (n : Notices) (k : NoticeKind) (j : Subject) (d : Nat) : (n.enter k j d).mask = n.mask := by
  unfold Notices.enter; split; · rfl
  split; · rfl
  split <;> rfl

@[simp] theorem Notices.enter_currentCycle (n : Notices) (k : NoticeKind) (j : Subject) (d : Nat) :
    (n.enter k j d).currentCycle = n.currentCycle := by
  unfold Notices.enter; split; · rfl
  split; · rfl
  split <;> rfl

/-! ### The rack channel -/

/-- All that asking for the rack does. -/
theorem askRack_cases (r : Rack) (arm : Arm) :
    (r.holder = none ∧ askRack r arm = ({ r with holder := some arm }, true)) ∨
    (∃ h, r.holder = some h ∧ h ≠ arm ∧ r.waiting = none ∧ askRack r arm = ({ r with waiting := some arm }, false)) ∨
    ((r.holder = some arm ∨ (r.holder.isSome ∧ r.waiting.isSome)) ∧ askRack r arm = (r, false)) := by
  unfold askRack
  cases hh : r.holder with
  | none => exact .inl ⟨rfl, rfl⟩
  | some h =>
    by_cases ha : h = arm
    · subst ha; exact .inr (.inr ⟨.inl rfl, by simp⟩)
    · cases hw : r.waiting with
      | none => exact .inr (.inl ⟨h, rfl, ha, rfl, by simp [ha]⟩)
      | some w => exact .inr (.inr ⟨.inr ⟨rfl, rfl⟩, by simp [ha]⟩)

/-- All that offering a message does. -/
theorem offerMessage_cases (r : Rack) (arm : Arm) (c : PortCommand) (station : Nat) :
    (r.holder = some arm ∧ r.message = none ∧ offerMessage r arm c station =
      { r with message := some { sender := arm, tag := r.nextTag, command := c, station := station, phase := .pending },
               nextTag := r.nextTag + 1 }) ∨
    ((r.holder ≠ some arm ∨ r.message ≠ none) ∧ offerMessage r arm c station = r) := by
  unfold offerMessage
  by_cases h : r.holder = some arm ∧ r.message = none
  · exact .inl ⟨h.1, h.2, by simp [h]⟩
  · exact .inr ⟨by tauto, by simp [h]⟩

/-- All that a release of the rack does. -/
theorem releaseHolder_cases (r : Rack) (arm : Arm) :
    (r.holder = some arm ∧ releaseHolder r arm = ({ r with holder := r.waiting, waiting := none }, r.waiting)) ∨
    (r.holder ≠ some arm ∧ releaseHolder r arm = (r, none)) := by
  unfold releaseHolder
  by_cases h : r.holder = some arm
  · exact .inl ⟨h, by simp [h]⟩
  · exact .inr ⟨h, by simp [h]⟩

/-! ### The capture queue -/

/-- All that a record reaching the queue does. -/
theorem enqueueRecord_cases (s : State) (r : CaptureRecord) :
    (s.queue.records.length < 64 ∧ enqueueRecord s r = (commitRecord s r, some s.queue.nextSequence)) ∨
    (64 ≤ s.queue.records.length ∧ enqueueRecord s r = (dropRecord s, none)) := by
  unfold enqueueRecord Config.captureDepth
  by_cases h : s.queue.records.length < 64
  · exact .inl ⟨h, by simp [h]⟩
  · exact .inr ⟨by omega, by simp [h]⟩

/-- Marking the record at the back. -/
@[simp] theorem markBack_append (front : List QueuedRecord) (r : QueuedRecord) : markBack (front ++ [r]) = front ++ [markOverrun r] := by
  induction front with
  | nil => rfl
  | cons x xs ih =>
    cases xs with
    | nil => rfl
    | cons y ys => simp [markBack] at ih ⊢; exact ih

@[simp] theorem markBack_length (l : List QueuedRecord) : (markBack l).length = l.length := by
  induction l with
  | nil => rfl
  | cons x xs ih =>
    cases xs with
    | nil => rfl
    | cons y ys => simp [markBack] at ih ⊢; exact ih

/-! ### The step -/

/-- Every command has an effect in every state: no fault, no refusal. -/
theorem exec_next (c : Instr) (s : State) : ∃ t, exec c s = .next t := by
  cases c <;> exact ⟨_, rfl⟩

theorem step_nil {s : State} (h : s.pending = []) : step s = .next (idleStep s) := by
  simp [step, h]

/-- All that a step does. -/
theorem step_cases {s t : State} (h : step s = .next t) :
    (s.pending = [] ∧ t = idleStep s) ∨ (∃ c rest, s.pending = c :: rest ∧ exec c { s with pending := rest } = .next t) := by
  unfold step at h
  cases hp : s.pending with
  | nil => rw [hp] at h; exact .inl ⟨rfl, by simpa using h.symm⟩
  | cons c rest => rw [hp] at h; exact .inr ⟨c, rest, rfl, h⟩

/-- All that the part does between commands. -/
theorem idleStep_cases (s : State) :
    (s.resetPin = true ∧ idleStep s = s) ∨
    (s.resetPin = false ∧ canServe s = true ∧ idleStep s = serveOldest s) ∨
    (s.resetPin = false ∧ canServe s = false ∧ timerDue s = true ∧ idleStep s = s) ∨
    (s.resetPin = false ∧ canServe s = false ∧ timerDue s = false ∧ idleStep s = { s with now := s.now + 1 }) := by
  unfold idleStep
  cases h1 : s.resetPin <;> cases h2 : canServe s <;> cases h3 : timerDue s <;> simp

end Sys2Proof.Machine
end

