-- ==== Sys2Proof/Laws/Frames.lean ====
section
/-! SUPPORT. Frames of the shared operations, said once for each: what an operation may change is erased, and the rest is equal. A field's
own lemma follows by `congrArg`. -/

namespace Sys2Proof.Machine

/-! ### The sequencer's moves: sequencers, rack channel, notice list -/

/-- The state without what a sequencer's move may change. -/
def State.sansMoves (s : State) : State :=
  { s with sequencer := State.reset.sequencer, rack := Rack.initial, notices := Notices.initial }

@[simp] theorem setSequencer_sansMoves (s : State) (arm : Arm) (v : Sequencer) : (s.setSequencer arm v).sansMoves = s.sansMoves := rfl
@[simp] theorem setRack_sansMoves (s : State) (v : Rack) : (s.setRack v).sansMoves = s.sansMoves := rfl
@[simp] theorem raise_sansMoves (s : State) (k : NoticeKind) (j : Subject) (d : Nat) : (s.raise k j d).sansMoves = s.sansMoves := rfl
@[simp] theorem startPhase_sansMoves (s : State) (arm : Arm) (q : Sequencer) (st : SeqState) :
    (startPhase s arm q st).sansMoves = s.sansMoves := rfl
@[simp] theorem offer_sansMoves (s : State) (arm : Arm) (c : PortCommand) (n : Nat) : (offer s arm c n).sansMoves = s.sansMoves := rfl
@[simp] theorem enterOpening_sansMoves (s : State) (arm : Arm) (st : SeqState) (n : Nat) :
    (enterOpening s arm st n).sansMoves = s.sansMoves := rfl
@[simp] theorem clearPortMark_sansMoves (s : State) (arm : Arm) : (clearPortMark s arm).sansMoves = s.sansMoves := rfl

@[simp] theorem grantOpening_sansMoves (s : State) (arm : Arm) : (grantOpening s arm).sansMoves = s.sansMoves := by
  unfold grantOpening
  dsimp only
  split
  · split <;> simp
  · rfl

@[simp] theorem releaseRack_sansMoves (s : State) (arm : Arm) : (releaseRack s arm).sansMoves = s.sansMoves := by
  unfold releaseRack
  dsimp only
  split <;> simp

@[simp] theorem endChange_sansMoves (s : State) (arm : Arm) : (endChange s arm).sansMoves = s.sansMoves := by
  simp [endChange]

@[simp] theorem completeChange_sansMoves (s : State) (arm : Arm) : (completeChange s arm).sansMoves = s.sansMoves := by
  simp [completeChange]

@[simp] theorem enterReclosing_sansMoves (s : State) (arm : Arm) : (enterReclosing s arm).sansMoves = s.sansMoves := by
  unfold enterReclosing
  dsimp only
  split <;> simp

@[simp] theorem enterClearing_sansMoves (s : State) (arm : Arm) : (enterClearing s arm).sansMoves = s.sansMoves := by
  unfold enterClearing
  dsimp only
  split <;> simp

@[simp] theorem wayBack_sansMoves (s : State) (arm : Arm) : (wayBack s arm).sansMoves = s.sansMoves := by
  unfold wayBack
  split <;> simp

@[simp] theorem failPhase_sansMoves (s : State) (arm : Arm) (c : FailureCause) : (failPhase s arm c).sansMoves = s.sansMoves := by
  unfold failPhase
  dsimp only
  split <;> simp

@[simp] theorem failQueued_sansMoves (s : State) (arm : Arm) (c : FailureCause) : (failQueued s arm c).sansMoves = s.sansMoves := by
  simp [failQueued]

@[simp] theorem failChange_sansMoves (s : State) (arm : Arm) (c : FailureCause) : (failChange s arm c).sansMoves = s.sansMoves := by
  unfold failChange
  split <;> simp

@[simp] theorem openCorridor_sansMoves (s : State) (arm : Arm) (st : SeqState) (k : NoticeKind) (n : Nat) :
    (openCorridor s arm st k n).sansMoves = s.sansMoves := by
  unfold openCorridor
  dsimp only
  split <;> simp

@[simp] theorem afterDrop_sansMoves (s : State) (arm : Arm) : (afterDrop s arm).sansMoves = s.sansMoves := by
  unfold afterDrop
  split <;> simp

@[simp] theorem toldStopped_sansMoves (s : State) (arm : Arm) : (toldStopped s arm).sansMoves = s.sansMoves := by
  unfold toldStopped
  split <;> simp

@[simp] theorem leaveCorridor_sansMoves (s : State) (arm : Arm) : (leaveCorridor s arm).sansMoves = s.sansMoves := by
  unfold leaveCorridor
  dsimp only
  split <;> simp

@[simp] theorem leavingTest_sansMoves (s : State) (arm : Arm) : (leavingTest s arm).sansMoves = s.sansMoves := by
  unfold leavingTest
  split <;> simp

/-! ### Reports and outcomes: also the library, the active probe records and capture -/

/-- The state without what a report or a rack outcome may change. -/
def State.sansReports (s : State) : State :=
  { s.sansMoves with library := [], active := State.reset.active, capture := State.reset.capture }

/-- A move is less than a report. -/
theorem sansReports_of_sansMoves {s t : State} (h : s.sansMoves = t.sansMoves) : s.sansReports = t.sansReports := by
  unfold State.sansReports
  rw [h]

@[simp] theorem setCapture_sansReports (s : State) (arm : Arm) (v : Capture) : (s.setCapture arm v).sansReports = s.sansReports := rfl
@[simp] theorem raise_sansReports (s : State) (k : NoticeKind) (j : Subject) (d : Nat) :
    (s.raise k j d).sansReports = s.sansReports := rfl
@[simp] theorem setSequencer_sansReports (s : State) (arm : Arm) (v : Sequencer) :
    (s.setSequencer arm v).sansReports = s.sansReports := rfl
@[simp] theorem setRack_sansReports (s : State) (v : Rack) : (s.setRack v).sansReports = s.sansReports := rfl
@[simp] theorem startPhase_sansReports (s : State) (arm : Arm) (q : Sequencer) (st : SeqState) :
    (startPhase s arm q st).sansReports = s.sansReports := rfl
@[simp] theorem clearPortMark_sansReports (s : State) (arm : Arm) : (clearPortMark s arm).sansReports = s.sansReports := rfl
@[simp] theorem failChange_sansReports (s : State) (arm : Arm) (c : FailureCause) : (failChange s arm c).sansReports = s.sansReports :=
  sansReports_of_sansMoves (failChange_sansMoves s arm c)
@[simp] theorem openCorridor_sansReports (s : State) (arm : Arm) (st : SeqState) (k : NoticeKind) (n : Nat) :
    (openCorridor s arm st k n).sansReports = s.sansReports := sansReports_of_sansMoves (openCorridor_sansMoves s arm st k n)
@[simp] theorem afterDrop_sansReports (s : State) (arm : Arm) : (afterDrop s arm).sansReports = s.sansReports :=
  sansReports_of_sansMoves (afterDrop_sansMoves s arm)
@[simp] theorem completeChange_sansReports (s : State) (arm : Arm) : (completeChange s arm).sansReports = s.sansReports :=
  sansReports_of_sansMoves (completeChange_sansMoves s arm)
@[simp] theorem endChange_sansReports (s : State) (arm : Arm) : (endChange s arm).sansReports = s.sansReports :=
  sansReports_of_sansMoves (endChange_sansMoves s arm)
@[simp] theorem wayBack_sansReports (s : State) (arm : Arm) : (wayBack s arm).sansReports = s.sansReports :=
  sansReports_of_sansMoves (wayBack_sansMoves s arm)
@[simp] theorem toldStopped_sansReports (s : State) (arm : Arm) : (toldStopped s arm).sansReports = s.sansReports :=
  sansReports_of_sansMoves (toldStopped_sansMoves s arm)

@[simp] theorem suspendCapture_sansReports (s : State) (arm : Arm) : (suspendCapture s arm).sansReports = s.sansReports := by
  unfold suspendCapture
  dsimp only
  split <;> simp

@[simp] theorem setActive_sansReports (s : State) (arm : Arm) (r : ActiveProbe) : (setActive s arm r).sansReports = s.sansReports := by
  have h (p : PerArm ActiveProbe) : ({ s with active := p } : State).sansReports = s.sansReports := rfl
  unfold setActive
  dsimp only
  split
  · split
    · exact h _
    · simp [h]
  · simp [h]

@[simp] theorem modifyEntry_sansReports (s : State) (i : Nat) (f : LibraryEntry → LibraryEntry) :
    (modifyEntry s i f).sansReports = s.sansReports := by
  unfold modifyEntry
  split <;> rfl

@[simp] theorem setLocation_sansReports (s : State) (i : Nat) (l : Location) : (setLocation s i l).sansReports = s.sansReports := by
  simp [setLocation]

@[simp] theorem mountIdentity_sansReports (s : State) (arm : Arm) (x : Nat) : (mountIdentity s arm x).sansReports = s.sansReports := by
  unfold mountIdentity
  split
  · split <;> simp [takeFromOther, mountSuspect]
  · simp

@[simp] theorem mountChange_sansReports (s : State) (arm : Arm) (r : ProbeReport) : (mountChange s arm r).sansReports = s.sansReports := by
  unfold mountChange
  split
  · unfold detachedMount
    split <;> simp
  · unfold manualMount loseOldProbe
    split <;> simp

@[simp] theorem dropReleased_sansReports (s : State) (arm : Arm) (r : ProbeReport) :
    (dropReleased s arm r).sansReports = s.sansReports := by
  unfold dropReleased
  dsimp only
  split
  · simp
  · split <;> simp
  · simp

@[simp] theorem wrongProbeUpdate_sansReports (s : State) (arm : Arm) (t x : Nat) :
    (wrongProbeUpdate s arm t x).sansReports = s.sansReports := by
  simp [wrongProbeUpdate]

@[simp] theorem pickAttached_sansReports (s : State) (arm : Arm) (x : Nat) : (pickAttached s arm x).sansReports = s.sansReports := by
  unfold pickAttached
  dsimp only
  split
  · rfl
  · split
    · simp
    · split
      · split <;> simp [takeFromOther]
      · simp

@[simp] theorem libraryReport_sansReports (s : State) (arm : Arm) (r : ProbeReport) :
    (libraryReport s arm r).sansReports = s.sansReports := by
  unfold libraryReport takeReport
  dsimp only
  split
  · split <;> simp
  · split
    · rfl
    · simp
    · rfl
    · split <;> simp
    · split <;> simp

@[simp] theorem judgeDrop_sansReports (s : State) (arm : Arm) (b : Bool) : (judgeDrop s arm b).sansReports = s.sansReports := by
  unfold judgeDrop
  dsimp only
  split <;> simp

@[simp] theorem judgeAfterFailure_sansReports (s : State) (arm : Arm) (n : Nat) (o : RackOutcome) :
    (judgeAfterFailure s arm n o).sansReports = s.sansReports := by
  unfold judgeAfterFailure
  dsimp only
  split
  · split
    · cases ‹Bool› <;> simp
    · rfl
  · rfl

/-- A rack outcome changes sequencers, rack channel, notice list and library alone (the erased fields). -/
@[simp] theorem takeOutcome_sansReports (s : State) (m : RackMessage) (o : RackOutcome) :
    (takeOutcome s m o).sansReports = s.sansReports := by
  unfold takeOutcome
  split
  · unfold dropOpeningOutcome
    split <;> simp
  · unfold pickOpeningOutcome
    split <;> simp
  · unfold dropClosingOutcome
    dsimp only
    split
    · split
      · split <;> simp
      · simp
    · split
      · split <;> simp
      · simp
    · simp
    · simp
  · unfold pickClosingOutcome
    split <;> simp
  · unfold windingOutcome
    simp only [wayBack_sansReports, judgeAfterFailure_sansReports]
    split
    · split <;> simp
    · rfl
  · unfold reclosingOutcome
    dsimp only
    split <;> simp
  · rfl

@[simp] theorem takeReply_sansReports (s : State) (r : RackReply) : (takeReply s r).sansReports = s.sansReports := by
  unfold takeReply
  split
  · simp
  · simp [lateReply]

/-! ### Stops: also the supervision state -/

/-- The state without what a stop may change. -/
def State.sansStops (s : State) : State := { s.sansReports with supervision := State.reset.supervision }

/-- A report is less than a stop. -/
theorem sansStops_of_sansReports {s t : State} (h : s.sansReports = t.sansReports) : s.sansStops = t.sansStops := by
  unfold State.sansStops
  rw [h]

@[simp] theorem setSupervision_sansStops (s : State) (arm : Arm) (v : Supervision) :
    (s.setSupervision arm v).sansStops = s.sansStops := rfl

@[simp] theorem stopArm_sansStops (s : State) (arm : Arm) (c : StopCause) : (stopArm s arm c).sansStops = s.sansStops := by
  unfold stopArm
  dsimp only
  split
  · rfl
  · rw [sansStops_of_sansReports (suspendCapture_sansReports _ _), sansStops_of_sansReports (toldStopped_sansReports _ _)]
    rfl

@[simp] theorem targetSlot_sansStops (s : State) (arm : Arm) (p : List Byte) : (targetSlot s arm p).1.sansStops = s.sansStops := by
  unfold targetSlot
  dsimp only
  split
  · rfl
  · unfold supervisedTarget
    dsimp only
    split
    · simp
    · split <;> simp
  · rfl

@[simp] theorem overtravelReport_sansStops (s : State) (arm : Arm) (r : ProbeReport) :
    (overtravelReport s arm r).sansStops = s.sansStops := by
  unfold overtravelReport
  dsimp only
  split <;> simp

end Sys2Proof.Machine
end

