-- ==== Sys2Proof/Laws/PerInstr.lean ====
section
/-! SUPPORT. Facts about commands as syntax, one lemma per constructor. -/

namespace Sys2Proof.Laws.RequestFits

open Sys2Proof.Machine

/-- The request of a well-formed command is one that a SERVICE_REQ frame to the part carries whole: at most 1 536 bytes (R2, R8, 1.9). -/
def Statement (i : Instr) : Prop :=
  i.wellFormed = true → ∀ r : Request, requestOf i = some r →
    frameFits (.serviceReq 62 r.tag r.code r.params) = true ∧ (frameBytes (.serviceReq 62 r.tag r.code r.params)).length ≤ 1536

/-- Parameters that fit give a frame of at most 1 536 bytes. -/
theorem frame_of_params {tag code : Byte} {params : List Byte} (h : paramsFit params = true) :
    frameFits (.serviceReq 62 tag code params) = true ∧ (frameBytes (.serviceReq 62 tag code params)).length ≤ 1536 := by
  have hl : params.length + 8 ≤ 1536 := of_decide_eq_true h
  refine ⟨h, ?_⟩
  simp [frameBytes, withCheck, frameBody, checkBytes, leBytes]
  omega

theorem powerUp : Statement (.powerUp) := by
  intro _ r hr
  simp [requestOf] at hr

theorem resetPin : Statement (.resetPin) := by
  intro _ r hr
  simp [requestOf] at hr

theorem frameDiscarded (port : Port) : Statement (.frameDiscarded port) := by
  intro _ r hr
  simp [requestOf] at hr

theorem badCheckFrame (port : Port) (bytes : List Byte) : Statement (.badCheckFrame port bytes) := by
  intro _ r hr
  simp [requestOf] at hr

theorem notWellFormedFrame (port : Port) (bytes : List Byte) : Statement (.notWellFormedFrame port bytes) := by
  intro _ r hr
  simp [requestOf] at hr

theorem forwardUnchanged (port : Port) (bytes : List Byte) : Statement (.forwardUnchanged port bytes) := by
  intro _ r hr
  simp [requestOf] at hr

theorem outboundCycleFrame (frame : CycleFrame) (during : List Interleaved) : Statement (.outboundCycleFrame frame during) := by
  intro _ r hr
  simp [requestOf] at hr

theorem returnCycleFrame (frame : CycleFrame) (during : List Interleaved) : Statement (.returnCycleFrame frame during) := by
  intro _ r hr
  simp [requestOf] at hr

theorem serviceReqHandedOver (tag code : Byte) (params : List Byte) : Statement (.serviceReqHandedOver tag code params) := by
  intro _ r hr
  simp [requestOf] at hr

theorem frameLeavesPort (port : Port) : Statement (.frameLeavesPort port) := by
  intro _ r hr
  simp [requestOf] at hr

theorem watchTimerExpiry : Statement (.watchTimerExpiry) := by
  intro _ r hr
  simp [requestOf] at hr

theorem originationTimerExpiry : Statement (.originationTimerExpiry) := by
  intro _ r hr
  simp [requestOf] at hr

theorem bridgeTimerExpiry : Statement (.bridgeTimerExpiry) := by
  intro _ r hr
  simp [requestOf] at hr

theorem replyTimerExpiry : Statement (.replyTimerExpiry) := by
  intro _ r hr
  simp [requestOf] at hr

theorem phaseTimerExpiry (arm : Arm) : Statement (.phaseTimerExpiry arm) := by
  intro _ r hr
  simp [requestOf] at hr

theorem tableOpen (tag : Byte) (params : List Byte) : Statement (.tableOpen tag params) := by
  intro h r hr
  simp only [requestOf, Option.some.injEq] at hr
  subst hr
  exact frame_of_params h

theorem tableData (tag : Byte) (params : List Byte) : Statement (.tableData tag params) := by
  intro h r hr
  simp only [requestOf, Option.some.injEq] at hr
  subst hr
  exact frame_of_params h

theorem tableContinue (tag : Byte) (params : List Byte) : Statement (.tableContinue tag params) := by
  intro h r hr
  simp only [requestOf, Option.some.injEq] at hr
  subst hr
  exact frame_of_params h

theorem tableRead (tag : Byte) (params : List Byte) : Statement (.tableRead tag params) := by
  intro h r hr
  simp only [requestOf, Option.some.injEq] at hr
  subst hr
  exact frame_of_params h

theorem changeProbe (tag : Byte) (params : List Byte) : Statement (.changeProbe tag params) := by
  intro h r hr
  simp only [requestOf, Option.some.injEq] at hr
  subst hr
  exact frame_of_params h

theorem abortChange (tag : Byte) (params : List Byte) : Statement (.abortChange tag params) := by
  intro h r hr
  simp only [requestOf, Option.some.injEq] at hr
  subst hr
  exact frame_of_params h

theorem stopArm (tag : Byte) (params : List Byte) : Statement (.stopArm tag params) := by
  intro h r hr
  simp only [requestOf, Option.some.injEq] at hr
  subst hr
  exact frame_of_params h

theorem releaseArm (tag : Byte) (params : List Byte) : Statement (.releaseArm tag params) := by
  intro h r hr
  simp only [requestOf, Option.some.injEq] at hr
  subst hr
  exact frame_of_params h

theorem planStart (tag : Byte) (params : List Byte) : Statement (.planStart tag params) := by
  intro h r hr
  simp only [requestOf, Option.some.injEq] at hr
  subst hr
  exact frame_of_params h

theorem planStop (tag : Byte) (params : List Byte) : Statement (.planStop tag params) := by
  intro h r hr
  simp only [requestOf, Option.some.injEq] at hr
  subst hr
  exact frame_of_params h

theorem planResume (tag : Byte) (params : List Byte) : Statement (.planResume tag params) := by
  intro h r hr
  simp only [requestOf, Option.some.injEq] at hr
  subst hr
  exact frame_of_params h

theorem setCredits (tag : Byte) (params : List Byte) : Statement (.setCredits tag params) := by
  intro h r hr
  simp only [requestOf, Option.some.injEq] at hr
  subst hr
  exact frame_of_params h

theorem addCredits (tag : Byte) (params : List Byte) : Statement (.addCredits tag params) := by
  intro h r hr
  simp only [requestOf, Option.some.injEq] at hr
  subst hr
  exact frame_of_params h

theorem readNotices (tag : Byte) (params : List Byte) : Statement (.readNotices tag params) := by
  intro h r hr
  simp only [requestOf, Option.some.injEq] at hr
  subst hr
  exact frame_of_params h

theorem setNoticeMask (tag : Byte) (params : List Byte) : Statement (.setNoticeMask tag params) := by
  intro h r hr
  simp only [requestOf, Option.some.injEq] at hr
  subst hr
  exact frame_of_params h

theorem readStatus (tag : Byte) (params : List Byte) : Statement (.readStatus tag params) := by
  intro h r hr
  simp only [requestOf, Option.some.injEq] at hr
  subst hr
  exact frame_of_params h

theorem restartRun (tag : Byte) (params : List Byte) : Statement (.restartRun tag params) := by
  intro h r hr
  simp only [requestOf, Option.some.injEq] at hr
  subst hr
  exact frame_of_params h

theorem unlistedRequestCode (tag code : Byte) (params : List Byte) : Statement (.unlistedRequestCode tag code params) := by
  intro h r hr
  simp only [Instr.wellFormed, Bool.and_eq_true] at h
  simp only [requestOf, Option.some.injEq] at hr
  subst hr
  exact frame_of_params h.2

theorem resetEnd : Statement (.resetEnd) := by
  intro _ r hr
  simp [requestOf] at hr

end Sys2Proof.Laws.RequestFits
end

