-- ==== Sys2Proof/Tests/Slice0.lean ====
section
/-! SUPPORT. Tests of the model: ill-formed commands that WellFormed refuses, single steps whose results the spec's worked cases give,
and a witness for the hypotheses of each statement. -/

-- One proof after another: the kernel evaluations below would otherwise each hold a thread of their own while they wait.
set_option Elab.async false

namespace Sys2Proof.Tests

open Sys2Proof Sys2Proof.Machine

set_option maxRecDepth 20000

/-! ### Helpers -/

/-- The state after one command. -/
def after (s : State) (c : Instr) : State :=
  match exec c s with
  | .next t => t
  | _ => s

/-- The outcomes and reasons of the replies waiting on the U port. -/
def replies (s : State) : List (ReplyOutcome × Reason × List Byte) :=
  s.link.txU.filterMap fun t => match t with
    | .reply r => some (r.answer.outcome, r.answer.reason, r.answer.data)
    | _ => none

/-- The payloads of the newest frame waiting on the D port. -/
def sentOut (s : State) : List (List Byte) :=
  match s.link.txD.getLast? with
  | some (.out f _) => f.slots.map fun sl => sl.payload
  | _ => []

/-- The kinds in the notice list. -/
def noticeKinds (s : State) : List NoticeKind := s.notices.entries.map fun e => e.kind

def targetOf (address flags : Byte) (p : Triple Int) : Slot := { address := address, kind := 0x10, payload := flags :: tripleBytes p }

def positionOf (address : Byte) (counts : Triple Int) (status : Byte) : Slot :=
  { address := address, kind := 0x11, payload := tripleBytes counts ++ status :: List.replicate 20 0 }

def probeOf (address : Byte) (identity : Nat) (flags : Byte) (edge : Nat) : Slot :=
  { address := address, kind := 0x12, payload := (if identity = 0 then 0 else 1) :: leBytes 3 identity ++ [flags] ++ leBytes 2 edge ++ [0] }

def rackOutSlotOf : Slot := { address := 5, kind := 0x14, payload := [9, 9, 9, 9] }

def rackInOf (tag station port occupancy : Byte) : Slot :=
  { address := 5, kind := 0x15, payload := [1, tag, 1, station, port, occupancy, 0, 0] }

def reportOf (words : Nat) : Slot := { address := 62, kind := 0x16, payload := List.replicate (4 * words) 0 }

def axisRecord (maxStep : Nat) : AxisEntry :=
  { resolution := 1000, origin := 0, anchor := 0, coefficient := 0, channel := none, mapEnabled := false, mapStart := 0, mapPitch := 1,
    mapCount := 2, coupled := none, coupling := 0, maxStep := maxStep }

def zoneRecord (kind : ZoneKind) (station : Nat) (low high : Triple Int) : ZoneEntry :=
  { kind := kind, station := station, scope := .both, enabled := true, minimum := low, maximum := high }

def probeRecord (identity : Nat) (home : Option Nat) (envelope : Nat) (location : Location) : LibraryEntry :=
  { identity := identity, home := home, allowed := .both, offset := ⟨0, 0, 0⟩, radius := 0, coefficient := 0, calTemp := 20000,
    calibration := .calibrated, envelope := envelope, location := location }

/-- The worked case of chapter 5: two arms in one frame. -/
def twoArms : State :=
  { State.reset with
    setup := { Setup.initial with offsetB := ⟨0, 5000000000, 0⟩, signB := ⟨.plus, .minus, .plus⟩, holdLimit := ⟨3, 50⟩ }
    axes := [(0, axisRecord 2000), (1, axisRecord 50000), (2, axisRecord 2000), (3, axisRecord 2000), (4, axisRecord 2000),
      (5, axisRecord 2000)]
    zones := [(0, zoneRecord .envelope 0 ⟨0, 0, 0⟩ ⟨6000000, 5000000, 3000000⟩)]
    library := [(0, probeRecord 5 (some 6) 150 (.mounted .a)), (1, probeRecord 6 (some 7) 100 (.mounted .b))]
    active := ⟨.known 0, .known 1⟩
    supervision :=
      ⟨{ Supervision.initial with state := .free, setpoint := some ⟨2400000000, 2000000000, 1200000000⟩ },
        { Supervision.initial with state := .free, setpoint := some ⟨2500000000, 2550000000, 1300000000⟩ }⟩ }

/-- The targets of frame 8 001 of that worked case. -/
def frame8001 : CycleFrame :=
  { cycle := 8001, slots := [targetOf 2 1 ⟨2500500000, 2553000000, 1300000000⟩, targetOf 1 1 ⟨2400000000, 2040000000, 1200000000⟩] }

/-- The worked sequence of chapter 7: arm A free, probe 0x00A104 mounted from station 4, probe 0x00A109 in station 9. -/
def changing : State :=
  { State.reset with
    zones := [(20, zoneRecord .corridor 4 ⟨5200000, 0, 0⟩ ⟨5600000, 900000, 900000⟩),
      (21, zoneRecord .corridor 9 ⟨5200000, 0, 0⟩ ⟨5600000, 900000, 900000⟩)]
    library := [(4, probeRecord 0xA104 (some 4) 150 (.mounted .a)), (9, probeRecord 0xA109 (some 9) 220 .inRack)]
    active := ⟨.known 4, .none⟩
    supervision := ⟨{ Supervision.initial with state := .free, setpoint := some ⟨0, 0, 0⟩ }, Supervision.initial⟩
    rack := { Rack.initial with nextTag := 6 } }

/-- The request of that sequence: change arm A to probe 0x00A109. -/
def changeRequest : Instr := .changeProbe 1 [0, 0x09, 0xA1, 0x00]

/-- The change with OPEN_PORT sent and the reply timer running. -/
def opening : State :=
  { changing with
    rack := { changing.rack with
      holder := some .a, nextTag := 7, replyTimer := some 100000,
      message := some { sender := .a, tag := 6, command := .openPort, station := 4, phase := .sent } }
    sequencer := ⟨{ Sequencer.initial with
      state := .dropOpening, drop := some ⟨4, 4⟩, target := some ⟨9, 9⟩, portMark := some 4, phaseTimer := some 30000000 },
      Sequencer.initial⟩ }

/-- The reset state with requests waiting. -/
def waiting (rs : List Request) : State := { State.reset with service := { Service.initial with requests := rs } }

/-- The reset state with a reply held back. -/
def heldBack : State :=
  { State.reset with
    link := { Link.initial with returnInProcessing := true }
    service := { Service.initial with
      deferred := [(3, .map 7)], heldReply := some { tag := 1, code := 0x21, answer := { outcome := .done, reason := .none, data := [] } } } }

/-- The reset state with an OPEN window. -/
def windowOn (w : WindowValues) : State := { State.reset with service := { Service.initial with window := .opened w } }

def mapWindow : WindowValues := { table := .map, start := 768, last := 807, method := .stop, pointer := 768 }

/-- A controller frame with one TARGET slot of each arm. -/
def plainFrame (cycle : CycleNumber) : CycleFrame :=
  { cycle := cycle, slots := [targetOf 1 1 ⟨1, 2, 3⟩, targetOf 2 1 ⟨4, 5, 6⟩, rackOutSlotOf] }

/-- The link after frame 4 711 (the worked sequence of chapter 1), with the arms FREE. -/
def following : State :=
  { State.reset with
    setup := { Setup.initial with cyclePeriod := 1500 }
    link := { Link.initial with template := some (plainFrame 4711), lastOutbound := some 4711 }
    supervision :=
      ⟨{ Supervision.initial with state := .free, setpoint := some ⟨1, 2, 3⟩ },
        { Supervision.initial with state := .free, setpoint := some ⟨4, 5, 6⟩ }⟩ }

/-- That link BRIDGING: cycle 4 712 originated. -/
def bridging : State :=
  { following with
    link := { following.link with
      watch := .bridging, watchTimer := none, originationTimer := some 6500, bridgeTimer := some 205000, lastOutbound := some 4712,
      outstanding := [4712] } }

def fullQueue : List TxFrame := List.replicate 8 (.asTaken [])

/-- A message as the rack sequences send it. -/
def sentMessage : RackMessage := { sender := .a, tag := 6, command := .openPort, station := 4, phase := .sent }

/-- The change of chapter 7 with its message carried by a frame in the queue, in its third slot. -/
def carrying : State :=
  { opening with
    link := { Link.initial with txD := [.out (plainFrame 1) (some 2), .asTaken []] }
    rack := { opening.rack with replyTimer := none, message := some { sentMessage with phase := .carried } } }

/-! ### WellFormed: a term refused by each check -/

theorem test_wellFormed_bytes :
    (Instr.badCheckFrame .u (withCheck [0x05])).wellFormed = false ∧ (Instr.badCheckFrame .u [0x05, 0, 0]).wellFormed = true ∧
    (Instr.notWellFormedFrame .u [0x05, 0, 0]).wellFormed = false ∧ (Instr.notWellFormedFrame .u (withCheck [0x05])).wellFormed = true := by
  decide +kernel

theorem test_wellFormed_forward :
    (Instr.forwardUnchanged .u (frameBytes (.serviceReq 62 1 0x70 []))).wellFormed = false ∧
    (Instr.forwardUnchanged .u (withCheck [0x05])).wellFormed = false ∧
    (Instr.forwardUnchanged .u (frameBytes (.serviceReq 7 1 0x70 []))).wellFormed = true := by
  decide +kernel

theorem test_wellFormed_cycle :
    (Instr.outboundCycleFrame { cycle := 1, slots := [] } []).wellFormed = false ∧
    (Instr.outboundCycleFrame { cycle := 1, slots := [{ address := 1, kind := 0x10, payload := [0, 0, 0] }] } []).wellFormed = false ∧
    (Instr.returnCycleFrame { cycle := 1, slots := List.replicate 41 rackOutSlotOf } []).wellFormed = false ∧
    (Instr.returnCycleFrame { cycle := 1, slots := [reportOf 255, reportOf 255] } []).wellFormed = false ∧
    (Instr.outboundCycleFrame (plainFrame 1) []).wellFormed = true ∧ (Instr.returnCycleFrame (plainFrame 1) []).wellFormed = true := by
  decide +kernel

theorem test_wellFormed_during :
    (Instr.outboundCycleFrame (plainFrame 1) [⟨5, .serve⟩]).wellFormed = false ∧
    (Instr.returnCycleFrame (plainFrame 1) [⟨8, .serve⟩]).wellFormed = false ∧
    (Instr.returnCycleFrame (plainFrame 1) [⟨0, .handOver 1 0x21 (List.replicate 1529 0)⟩]).wellFormed = false ∧
    (Instr.returnCycleFrame (plainFrame 1) [⟨0, .takes .u { cycle := 1, slots := [] }⟩]).wellFormed = false ∧
    (Instr.returnCycleFrame (plainFrame 1) [⟨0, .bytes .u [1, 2]⟩]).wellFormed = false ∧
    (Instr.outboundCycleFrame (plainFrame 1) [⟨3, .discards .u⟩]).wellFormed = false ∧
    (Instr.returnCycleFrame (plainFrame 1) [⟨6, .handles .d⟩]).wellFormed = false := by
  decide +kernel

theorem test_wellFormed_during_good :
    (Instr.outboundCycleFrame (plainFrame 1) [⟨4, .discards .u⟩, ⟨0, .takes .d (plainFrame 2)⟩, ⟨1, .handles .d⟩]).wellFormed = true ∧
    (Instr.returnCycleFrame (plainFrame 1) [⟨7, .serve⟩, ⟨0, .expiry .watch⟩, ⟨1, .leaves .u⟩, ⟨6, .bytes .u [1, 2, 3]⟩]).wellFormed = true := by
  decide +kernel

/-- The request rows, with these parameters. -/
def requestRows (p : List Byte) : List Instr :=
  [.serviceReqHandedOver 1 0x70 p, .tableOpen 1 p, .tableData 1 p, .tableContinue 1 p, .tableRead 1 p, .changeProbe 1 p, .abortChange 1 p,
    .stopArm 1 p, .releaseArm 1 p, .planStart 1 p, .planStop 1 p, .planResume 1 p, .setCredits 1 p, .addCredits 1 p, .readNotices 1 p,
    .setNoticeMask 1 p, .readStatus 1 p, .restartRun 1 p, .unlistedRequestCode 1 0 p]

theorem test_wellFormed_params :
    (requestRows (List.replicate 1529 0)).all (fun c => !c.wellFormed) = true ∧
    (requestRows (List.replicate 1528 0)).all (fun c => c.wellFormed) = true ∧
    (Instr.unlistedRequestCode 1 0x70 []).wellFormed = false := by
  decide +kernel

/-! ### Power and reset (R15, R105) -/

theorem test_powerUp :
    (after changing .powerUp).supervision.a = Supervision.initial ∧ (after changing .powerUp).library = [] ∧
    (after changing .powerUp).rack.nextTag = 0 := by
  decide

theorem test_resetPin :
    (after changing .resetPin).resetPin = true ∧ (after (after changing .resetPin) (.frameDiscarded .u)).link.badU = 0 := by
  decide

theorem test_resetEnd :
    (after (after (after changing .resetPin) .resetEnd) (.frameDiscarded .u)).link.badU = 1 := by
  decide

/-! ### Frames -/

theorem test_frameDiscarded :
    (after State.reset (.frameDiscarded .d)).link.badD = 1 ∧ noticeKinds (after State.reset (.frameDiscarded .d)) = [.badFrame] := by
  decide

/-- R4: forwarded unchanged on the other port, with its bad check bytes. -/
theorem test_badCheckFrame :
    (after State.reset (.badCheckFrame .d [0x05, 0, 0])).link.txU = [.asTaken [0x05, 0, 0]] ∧
    (after State.reset (.badCheckFrame .d [0x05, 0, 0])).link.badD = 1 := by
  decide +kernel

theorem test_notWellFormedFrame :
    (after State.reset (.notWellFormedFrame .u (withCheck [0x05]))).link.txD = [.asTaken (withCheck [0x05])] ∧
    (after State.reset (.notWellFormedFrame .u (withCheck [0x05]))).link.badU = 1 := by
  decide +kernel

/-- R7: a service reply of a node passes on the D port. -/
theorem test_forwardUnchanged :
    (after State.reset (.forwardUnchanged .d (frameBytes (.serviceRep 7 1 2 0 0 [])))).link.txU =
      [.asTaken (frameBytes (.serviceRep 7 1 2 0 0 []))] := by
  decide +kernel

/-- The generator 0x1021 with preset 0xFFFF (R3): its known check value for the digits 1 to 9. -/
theorem test_crc : crc [0x31, 0x32, 0x33, 0x34, 0x35, 0x36, 0x37, 0x38, 0x39] = 0x29B1 := by
  decide +kernel

/-- The worked case of chapter 5, frame 8 001: B clamped on y and passed, A held on its setpoint with the hold marker. -/
theorem test_outbound_two_arms :
    (after twoArms (.outboundCycleFrame frame8001 [])).supervision.a.state = .held ∧
    (after twoArms (.outboundCycleFrame frame8001 [])).supervision.b.clampCount = 1 ∧
    sentOut (after twoArms (.outboundCycleFrame frame8001 [])) =
      [1 :: tripleBytes ⟨2500500000, 2552000000, 1300000000⟩, 3 :: tripleBytes ⟨2400000000, 2000000000, 1200000000⟩] := by
  decide +kernel

/-- The two arms with a STOP ARM of arm A waiting. -/
def stopWaiting : State := { twoArms with service := { Service.initial with requests := [{ tag := 1, code := 0x32, params := [0] }] } }

/-- R9, R100: a STOP ARM carried out between the two TARGET slots of a frame stops arm A before its slot. -/
theorem test_outbound_stop_between :
    (after stopWaiting (.outboundCycleFrame frame8001 [⟨1, .serve⟩])).supervision.a.cause = .request ∧
    (sentOut (after stopWaiting (.outboundCycleFrame frame8001 [⟨1, .serve⟩]))).map List.head? = [some 1, some 2] := by
  decide +kernel

/-- A return frame taken before the first slot of an outbound one, its two slots (overtravel of arm A, then of arm B) handled before
the outbound frame's second slot and after it. -/
def alternating : List Interleaved :=
  [⟨0, .takes .d { cycle := 9, slots := [probeOf 3 5 2 0, probeOf 4 6 2 0] }⟩, ⟨1, .handles .d⟩, ⟨2, .handles .d⟩]

/-- R1: the slots of two frames of the two sides alternate. Arm A is STOPPED before its TARGET slot, arm B after it. -/
theorem test_slots_alternate :
    (after twoArms (.outboundCycleFrame frame8001 alternating)).supervision.b.cause = .overtravel ∧
    (sentOut (after twoArms (.outboundCycleFrame frame8001 alternating))).map List.head? = [some 1, some 2] := by
  decide +kernel

/-- R1, R7: a bad frame on the D port while an outbound frame is in processing goes to the U port before that frame is forwarded. -/
theorem test_bad_frame_between :
    (after twoArms (.outboundCycleFrame frame8001 [⟨1, .bytes .d [5, 0, 0]⟩])).link.txU = [.asTaken [5, 0, 0]] ∧
    (after twoArms (.outboundCycleFrame frame8001 [⟨1, .bytes .d [5, 0, 0]⟩])).link.badD = 1 := by
  decide +kernel

/-- The channel and the AXIS records of the worked case of chapter 4. -/
def correcting : State :=
  { State.reset with
    channels := [(3, { entry := { role := .scale 0, low := -20000, high := 80000, trim := 0, settle := 1, staleLimit := 3, debounce := 1,
                                  shift := 0, alarm := none },
                       run := { freshRun with state := .valid, filtered := some 23400, held := some 23400, seed := false } })]
    axes := [(0, { resolution := 250, origin := 1000000, anchor := 100000000, coefficient := 10500, channel := some 3, mapEnabled := true,
                   mapStart := 0, mapPitch := 50000, mapCount := 120, coupled := some 1, coupling := 4000, maxStep := 2000 }),
      (1, axisRecord 1)]
    map := [(50, -1240), (51, -1180)] }

/-- Chapter 4, one axis through the five stages: 2 500 089 240 nm. -/
theorem test_return_corrected :
    (after correcting (.returnCycleFrame { cycle := 5, slots := [positionOf 1 ⟨10001000000, 1200000000, 0⟩ 0] } [])).head.a.record.x =
      { last := some 2500089240, thermal := some 2500085680, flags := ⟨false, false, false, false⟩ } := by
  decide +kernel

/-- Chapter 4, the ends of the map. -/
theorem test_map_ends :
    [(-1 : Int), 0, 5925000000, 5949999999, 5950000000, 6400000000].map
        (mapTerm { State.reset with map := [(1280, -75), (1398, 300), (1399, 420)] } 5
          { axisRecord 1 with mapEnabled := true, mapPitch := 50000, mapCount := 120 }) =
      [(-75, true), (-75, false), (360, false), (420, false), (420, true), (420, true)] := by
  decide +kernel

/-- R14, R120: the message a frame carries becomes SENT when the frame leaves, and the reply timer starts (100 ms). -/
theorem test_frameLeavesPort :
    (let s := after (after (after changing changeRequest) (.outboundCycleFrame (plainFrame 1) [])) (.frameLeavesPort .d)
     (s.rack.message.map fun m => m.phase) = some .sent ∧ s.rack.replyTimer = some 100000 ∧ s.link.txD = []) := by
  decide +kernel

/-- R120: the RACK_OUT slot written for tag 6, OPEN_PORT, station 4. -/
theorem test_rackOut :
    (sentOut (after (after changing changeRequest) (.outboundCycleFrame (plainFrame 1) []))).getLast? = some [1, 6, 1, 4] := by
  decide +kernel

/-! ### Timers (the worked sequence of chapter 1, and chapter 7) -/

theorem test_watchTimerExpiry :
    (after following .watchTimerExpiry).link.watch = .bridging ∧ (after following .watchTimerExpiry).link.outstanding = [4712] ∧
    (after following .watchTimerExpiry).link.originationTimer = some 6500 ∧
    (after following .watchTimerExpiry).link.bridgeTimer = some 205000 ∧ noticeKinds (after following .watchTimerExpiry) = [.linkLoss] := by
  decide +kernel

theorem test_originationTimerExpiry :
    (after bridging .originationTimerExpiry).link.outstanding = [4712, 4713] ∧
    (after bridging .originationTimerExpiry).link.originationTimer = some 8000 ∧
    sentOut (after bridging .originationTimerExpiry) = [3 :: tripleBytes ⟨1, 2, 3⟩, 3 :: tripleBytes ⟨4, 5, 6⟩, [0, 0, 0, 0]] := by
  decide +kernel

theorem test_bridgeTimerExpiry :
    (after bridging .bridgeTimerExpiry).link.watch = .halted ∧ (after bridging .bridgeTimerExpiry).supervision.a.cause = .linkLoss ∧
    (after bridging .bridgeTimerExpiry).link.originationTimer = some 6500 := by
  decide

/-- R141: TIMEOUT in DROP_OPENING fails the change, and with the port mark set and no corridor the port is closed again. -/
theorem test_replyTimerExpiry :
    (after opening .replyTimerExpiry).sequencer.a.state = .reclosing ∧ noticeKinds (after opening .replyTimerExpiry) = [.changeFailed] ∧
    (after opening .replyTimerExpiry).rack.message =
      some { sender := .a, tag := 7, command := .closePort, station := 4, phase := .pending } := by
  decide

/-- R141: with the message still outstanding the sequencer winds up. -/
theorem test_phaseTimerExpiry :
    (after opening (.phaseTimerExpiry .a)).sequencer.a.state = .winding ∧ (after opening (.phaseTimerExpiry .a)).now = 30000000 := by
  decide

/-! ### Requests -/

theorem test_request_queue_full :
    (after (waiting (List.replicate 4 { tag := 1, code := 0x32, params := [0] })) (.serviceReqHandedOver 9 0x51 [5])).service.requests.length
      = 4 ∧
    replies (after (waiting (List.replicate 4 { tag := 1, code := 0x32, params := [0] })) (.serviceReqHandedOver 9 0x51 [5])) =
      [(.busy, .none, [0])] := by
  decide

/-- The worked sequence of chapter 2: the window on MAP 768 to 807. -/
theorem test_tableOpen :
    (after State.reset (.tableOpen 10 [3, 0x00, 0x03, 0x27, 0x03, 0])).service.window = .opened mapWindow ∧
    replies (after State.reset (.tableOpen 10 [3, 0x27, 0x03, 0x00, 0x03, 0])) = [(.badValue, .range, [])] := by
  decide

/-- A refused point between two good ones: the first is written, the second fails, position 2 (R36, R37). -/
theorem test_tableData :
    (let s := after (windowOn mapWindow) (.tableData 11 (3 :: (leIntBytes 4 1 ++ leIntBytes 4 (-9000000) ++ leIntBytes 4 2)))
     s.map = [(768, 1)] ∧ replies s = [(.badValue, .field, [1, 0, 2, 0x01, 0x03, 1])]) := by
  decide +kernel

/-- R40: held back while a return frame is in processing, written when it leaves. -/
theorem test_tableData_held :
    (let s := after (windowOn mapWindow) (.returnCycleFrame { cycle := 1, slots := [reportOf 4] }
        [⟨0, .handOver 12 0x21 (1 :: leIntBytes 4 7)⟩, ⟨0, .serve⟩])
     s.map = [(768, 7)] ∧ replies s = [(.done, .none, [1, 0, 0, 0x01, 0x03, 1])]) := by
  decide +kernel

theorem test_tableContinue :
    (let s := after (after (windowOn mapWindow) (.addCredits 1 [0])) (.tableContinue 2 [])
     s.service.window = .opened mapWindow ∧ (replies s).getLast? = some (.done, .none, [3, 0x00, 0x03])) := by
  decide

theorem test_tableRead :
    replies (after { State.reset with map := [(785, -2)] } (.tableRead 14 [3, 0x10, 0x03, 2])) =
      [(.done, .none, [3, 0x10, 0x03, 2, 0, 0, 0, 0, 0xFE, 0xFF, 0xFF, 0xFF])] := by
  decide +kernel

/-- The worked sequence of chapter 7: OPEN_PORT for station 4 with tag 6. -/
theorem test_changeProbe :
    (after changing changeRequest).sequencer.a.state = .dropOpening ∧
    (after changing changeRequest).rack.message =
      some { sender := .a, tag := 6, command := .openPort, station := 4, phase := .pending } := by
  decide +kernel

/-- R130: ACK OPEN SENSED opens no corridor in DROP_OPENING (the station is occupied); ACK OPEN EMPTY does. -/
theorem test_rack_outcomes :
    (after opening (.returnCycleFrame { cycle := 1, slots := [rackInOf 6 4 1 0] } [])).sequencer.a.corridor = some 4 ∧
    (after opening (.returnCycleFrame { cycle := 1, slots := [rackInOf 6 4 1 1] } [])).sequencer.a.corridor = none := by
  decide +kernel

theorem test_abortChange :
    (after opening (.abortChange 2 [0])).sequencer.a.state = .winding ∧
    replies (after changing (.abortChange 2 [0])) = [(.state, .notActive, [])] := by
  decide

theorem test_stopArm :
    (after changing (.stopArm 3 [0])).supervision.a.state = .stopped ∧ (after changing (.stopArm 3 [0])).supervision.a.cause = .request ∧
    noticeKinds (after changing (.stopArm 3 [0])) = [.armStopped] ∧ (after changing (.stopArm 3 [1])).supervision.b.cause = .reset := by
  decide

/-- A STOPPED arm of the worked case of chapter 5, with a corrected head position. -/
def stoppedArm : State :=
  { twoArms with
    supervision := ⟨{ twoArms.supervision.a with state := .stopped }, twoArms.supervision.b⟩
    head := ⟨{ Head.initial with record :=
        ⟨{ HeadAxis.initial with last := some 2400000120 }, { HeadAxis.initial with last := some 1999999950 },
          { HeadAxis.initial with last := some 1200000030 }⟩ }, Head.initial⟩ }

/-- The worked sequence of chapter 5: the release at the corrected head position. -/
theorem test_releaseArm :
    (after stoppedArm (.releaseArm 41 [0])).supervision.a.setpoint = some ⟨2400000120, 1999999950, 1200000030⟩ ∧
    (after stoppedArm (.releaseArm 41 [0])).supervision.a.state = .free ∧
    replies (after stoppedArm (.releaseArm 41 [1])) = [(.state, .notStopped, [])] := by
  decide +kernel

theorem test_planStart :
    (after State.reset (.planStart 1 [1, 0xFF, 0x01, 1])).walk.b = { state := .running, head := some 511, loop := true } ∧
    replies (after State.reset (.planStart 1 [1, 0x00, 0x02, 1])) = [(.badValue, .range, [])] := by
  decide

theorem test_planStop :
    (after { State.reset with walk := ⟨{ state := .fault, head := some 3, loop := true }, Walk.initial⟩ } (.planStop 1 [0])).walk.a =
      Walk.initial := by
  decide

theorem test_planResume :
    (after { State.reset with walk := ⟨{ state := .parked, head := some 3, loop := true }, Walk.initial⟩ } (.planResume 1 [0])).walk.a =
      { state := .running, head := some 3, loop := true } := by
  decide

theorem test_setCredits : replies (after State.reset (.setCredits 1 [200])) = [(.done, .none, [200])] := by decide

/-- R177: a grant that would pass 255 stops there. -/
theorem test_addCredits :
    replies (after { State.reset with queue := { Queue.initial with credits := 200 } } (.addCredits 1 [100])) = [(.done, .none, [255])] := by
  decide

/-- R188, R189: the class 1 entry comes first, though a class 5 entry is older. -/
theorem test_readNotices :
    (let s := after (after (after changing (.frameDiscarded .u)) (.stopArm 1 [0])) (.readNotices 2 [8])
     (replies s).getLast? = some (.done, .none, [1, 0, 1, 1, 0, 2, 0, 0, 1]) ∧ noticeKinds s = [.badFrame]) := by
  decide

theorem test_setNoticeMask :
    (after State.reset (.setNoticeMask 1 [0xFC, 0xFF, 0xFF, 0xFF])).notices.mask = 0xFFFFC ∧
    replies (after State.reset (.setNoticeMask 1 [0x02, 0, 0, 0])) = [(.badValue, .maskSafety, [])] := by
  decide

theorem test_readStatus_clears :
    (after { State.reset with link := { Link.initial with badU := 7 } } (.readStatus 1 [1])).link.badU = 0 ∧
    (after { State.reset with link := { Link.initial with badU := 7 } } (.readStatus 1 [0])).link.badU = 7 := by
  decide

theorem test_restartRun :
    (after opening (.restartRun 1 [])).sequencer.a = Sequencer.initial ∧ (after opening (.restartRun 1 [])).rack.message = none ∧
    (after opening (.restartRun 1 [])).rack.nextTag = 7 ∧ noticeKinds (after opening (.restartRun 1 [])) = [.armStopped] := by
  decide

/-- R123: the frame that waits with the message leaves without it, and its leaving makes nothing SENT. -/
theorem test_restartRun_carried :
    (after carrying (.restartRun 1 [])).link.txD =
      [.out { cycle := 1, slots := [targetOf 1 1 ⟨1, 2, 3⟩, targetOf 2 1 ⟨4, 5, 6⟩, { rackOutSlotOf with payload := [0, 0, 0, 0] }] } none,
        .asTaken []] ∧
    (after (after carrying (.restartRun 1 [])) (.frameLeavesPort .d)).rack.replyTimer = none := by
  decide

theorem test_unlistedRequestCode :
    replies (after (windowOn mapWindow) (.unlistedRequestCode 1 0x71 [])) = [(.badFormat, .none, [])] ∧
    (after (windowOn mapWindow) (.unlistedRequestCode 1 0x71 [])).service.window = .broken mapWindow := by
  decide

/-! ### Step and the table's words -/

theorem test_step_pops :
    (match step { State.reset with pending := [.setCredits 1 [5], .addCredits 2 [1]] } with
      | .next t => t.pending == [.addCredits 2 [1]] && t.queue.credits == 5
      | _ => false) = true := by
  decide

/-- The table gives no row any bits: no word spells a command, and withFetchWord changes nothing. -/
theorem test_no_words (n w : Nat) (s : State) : decodeTableWord n w = none ∧ s.withFetchWord n w = s := ⟨rfl, rfl⟩

/-! ### The worked touch of chapter 8 and the plan step of chapter 9 -/

/-- A channel VALID with a working temperature. -/
def measured (role : Role) (value : Int) : Channel :=
  { entry := { role := role, low := -20000, high := 80000, trim := 0, settle := 1, staleLimit := 255, debounce := 1, shift := 0, alarm := none }
    run := { freshRun with state := .valid, filtered := some value, held := some value, seed := false } }

def quietAt (v : Int) : Sample := { value := v, held := false, clamped := false, stale := false }

/-- The plan entry 40 of chapter 9. -/
def entry40 : PlanEntry :=
  { arm := .a, owner := .device, nominal := ⟨1180016596, 2449979405, 1146445136⟩, approach := ⟨0, 0, 16384⟩, search := 3000, tolerance := 50,
    next := some 41, verdict := none, sequence := none, deviation := 0 }

/-- Arm A in CONFIRMING with the latch of cycle 901, and its walk RUNNING at entry 40. -/
def touching : State :=
  { State.reset with
    setup := { Setup.initial with
      capture := ⟨{ CaptureSetup.initial with datum := ⟨1500000000, 2000000000, 0⟩ }, CaptureSetup.initial⟩ }
    channels := [(0, measured (.probeArm .a) 22100), (1, measured (.workpiece .a) 24044)]
    library := [(9, { probeRecord 0xA109 (some 9) 220 (.mounted .a) with
      offset := ⟨180000000, 0, -35000000⟩, radius := 1500000, coefficient := 2300, calTemp := 20500 })]
    active := ⟨.known 9, .none⟩
    plan := [(40, entry40)]
    walk := ⟨{ state := .running, head := some 40, loop := false }, Walk.initial⟩
    queue := { Queue.initial with nextSequence := 118 }
    supervision := ⟨{ Supervision.initial with state := .free, setpoint := some ⟨0, 0, 0⟩ }, Supervision.initial⟩
    capture := ⟨{ Capture.initial with
      state := .confirming, count := 1, probe := some 9,
      latch := some
        { edge := 300, current := ⟨quietAt 1000004000, quietAt 2450001000, quietAt 1179998000⟩,
          previous := some ⟨quietAt 1000000000, quietAt 2450000000, quietAt 1180000000⟩, cycle := 901, armHeld := false, probe := 9 } },
      Capture.initial⟩ }

/-- The record of the worked touch as it reaches the walk. -/
def touchRecord : CaptureRecord :=
  { arm := .a, kind := .touch, cycle := 901, edge := 300, point := ⟨1180016716, 2449979365, 1144946036⟩, identity := 0xA109, plan := none,
    flags := {} }

/-- The deflected report of frame 902. -/
def deflectedReport : ProbeReport := { identity := some 0xA109, deflected := true, overtravel := false, edge := none }

/-- Chapter 8: W, the cycle and the edge of the record; chapter 9, step 2: entry 40 matched with d = 900, number 118. -/
theorem test_touch :
    (captureStep touching .a (some deflectedReport) 902).queue.records =
      [{ sequence := 118,
         record := { arm := .a, kind := .touch, cycle := 901, edge := 300, point := ⟨1180016716, 2449979365, 1144946036⟩, identity := 0xA109,
                     plan := some { index := 40, deviation := 900, verdict := .inTol }, flags := {} } }] := by
  decide +kernel

theorem test_plan_step2 :
    (captureStep touching .a (some deflectedReport) 902).plan =
      [(40, { entry40 with owner := .controller, verdict := some .inTol, sequence := some 118, deviation := 900 })] ∧
    (captureStep touching .a (some deflectedReport) 902).walk.a.head = some 41 := by
  decide +kernel

/-- Chapter 3, frames 304 and 305 of the workpiece channel: 99 000 is out of range, 25 950 gives 24 736 and the alarm. -/
theorem test_channel :
    (let s : State := { State.reset with channels := [(9,
        { entry := { role := .workpiece .a, low := 15000, high := 35000, trim := -150, settle := 3, staleLimit := 3, debounce := 2, shift := 2,
                     alarm := some (24500, .above) },
          run := { freshRun with state := .valid, filtered := some 24381, held := some 24381, seed := false, progress := 3 } })] }
     let t := takeReading (takeReading s 9 99000) 9 25950
     ((Table.entry t.channels 9).map fun c => (c.run.filtered, c.run.state, c.run.outRun)) = some (some 24736, .valid, 0) ∧
     noticeKinds t = [.thermalAlarm]) := by
  decide +kernel

/-! ### Witnesses: for each statement with hypotheses, states and operands that meet them, clause by clause -/

def request (code : Byte) (params : List Byte) : Request := { tag := 1, code := code, params := params }

theorem witness_StepRunsFrontCommand : (step { State.reset with pending := [.powerUp] }) = exec .powerUp State.reset := rfl

theorem witness_IdleStepServesOrTicks :
    State.reset.pending = [] ∧ ({ State.reset with resetPin := true } : State).resetPin = true ∧
    (waiting [request 0x32 [0]]).service.requests = [request 0x32 [0]] ∧ (waiting [request 0x32 [0]]).service.heldReply = none ∧
    (∀ x ∈ runningTimers State.reset, State.reset.now < x) ∧
    (∃ x ∈ runningTimers { State.reset with now := 5000 }, x ≤ ({ State.reset with now := 5000 } : State).now) ∧
    heldBack.service.heldReply.isSome = true ∧ (request 0x32 [0]).code ≠ 0x21 := by
  decide

theorem witness_HeldInResetIgnoresCommands :
    ({ State.reset with resetPin := true } : State).resetPin = true ∧ Instr.frameDiscarded .u ≠ .powerUp ∧
    Instr.frameDiscarded .u ≠ .resetPin ∧ Instr.frameDiscarded .u ≠ .resetEnd := by
  decide

theorem witness_FrameRoundTrip : frameFits (.cycleOut frame8001) = true ∧ frameFits (.serviceReq 62 1 0x70 (List.replicate 1528 0)) = true := by
  decide +kernel

theorem witness_SingleBitErrorIsBadCheck :
    1 ≤ ([5] : List Byte).length ∧ ([5] : List Byte).length + 2 ≤ 1536 ∧ classify (flipBit (withCheck [5]) 2 7) = .badCheck := by
  decide +kernel

/-- An absent value's bytes. -/
def noFill : Nat → Byte := fun _ => 0

theorem witness_SetupToMapRoundTrip :
    (readSetup (setupBytes noFill Setup.initial)).toOption = some Setup.initial ∧
    (readChannel (channelBytes noFill (some (measured (.scale 0) 5)))).toOption = some (some (measured (.scale 0) 5).entry) ∧
    (readAxis 0 (axisBytes noFill (some (axisRecord 50000)))).toOption = some (some (axisRecord 50000)) ∧
    (readMap (leIntBytes 4 (-7))).toOption = some (-7) := by
  decide +kernel

theorem witness_ZoneLibraryPlanRoundTrip :
    (readZone (zoneBytes (some (zoneRecord .corridor 24 ⟨0, 0, 0⟩ ⟨1, 1, 1⟩)))).toOption =
      some (some (zoneRecord .corridor 24 ⟨0, 0, 0⟩ ⟨1, 1, 1⟩)) ∧
    (readLibrary (libraryBytes noFill (some (probeRecord 5 none 9 .outside)))).toOption = some (some (probeRecord 5 none 9 .outside)) ∧
    (readPlan (planBytes noFill (some entry40))).toOption = some (some entry40) := by
  decide +kernel

/-- The reset state with both transmit queues full. -/
def txFullState : State := { State.reset with link := { Link.initial with txU := fullQueue, txD := fullQueue } }

theorem witness_BadFramesCounted :
    State.reset.resetPin = false ∧ classify [0x05, 0, 0] = .badCheck ∧ classify (withCheck [0x05]) = .notWellFormed ∧
    State.reset.Room .u ∧ ¬ txFullState.Room .d := by
  decide +kernel

theorem witness_GoodFrameForwardedUnchanged :
    classify (frameBytes (.serviceReq 61 1 2 [])) = .good (.serviceReq 61 1 2 []) ∧ unchangedOn .u (.serviceReq 61 1 2 []) ∧
    State.reset.Room .d ∧ ¬ txFullState.Room .d :=
  ⟨by decide +kernel, by show (61 : Byte) ≠ 62; decide, by decide, by decide⟩

theorem witness_OutboundFrameForwarded :
    cycleFits frame8001 = true ∧ twoArms.resetPin = false ∧ twoArms.Room .d ∧ ¬ txFullState.Room .d ∧
    othersOnly .u frame8001.slots.length alternating ∧ (beforeEnd .u twoArms frame8001 alternating).state.Room .d ∧
    ¬ (beforeEnd .u txFullState frame8001 alternating).state.Room .d ∧
    (beforeEnd .u twoArms frame8001 alternating).back.isSome = true := by
  decide +kernel

/-- The change of chapter 7 with OPEN_PORT PENDING. -/
def offering : State := after changing changeRequest

theorem witness_OutboundFrameForwarded_rack :
    offering.ActsOnRackOut (plainFrame 1).slots 2 rackOutSlotOf ∧ offering.Room .d ∧
    ((offering.atSlot (plainFrame 1) 2).rack.message.map fun m => m.phase) = some .pending ∧
    ((opening.atSlot (plainFrame 1) 2).rack.message.map fun m => m.phase) = some .sent ∧
    (State.reset.atSlot (plainFrame 1) 2).rack.message = none ∧
    (∀ arm, ((offering.atSlot (plainFrame 1) 2).supervision.get arm).state = .stopped → (offering.supervision.get arm).state = .stopped) ∧
    (∀ sl ∈ frame8001.slots, sl.kind ≠ 0x14) :=
  ⟨by decide +kernel, by decide +kernel, by decide +kernel, by decide +kernel, by decide +kernel,
    by intro arm; cases arm <;> decide +kernel, by decide⟩

theorem witness_StoppedArmDriveDisabled :
    cycleFits (plainFrame 1) = true ∧ State.reset.Room .d ∧ State.reset.setup.armNode.a ≠ State.reset.setup.armNode.b ∧
    (State.reset.supervision.get .b).state = .stopped ∧ (plainFrame 1).slots[1]? = some (targetOf 2 1 ⟨4, 5, 6⟩) ∧
    (targetOf 2 1 ⟨4, 5, 6⟩).kind = 0x10 ∧ (targetOf 2 1 ⟨4, 5, 6⟩).address.toNat = State.reset.setup.armNode.get .b ∧
    16 ≤ (targetOf 2 1 ⟨4, 5, 6⟩).payload.length ∧ (targetOf 1 1 ⟨1, 2, 3⟩).address ≠ (targetOf 2 1 ⟨4, 5, 6⟩).address ∧
    othersOnly .u (plainFrame 1).slots.length alternating ∧ noServe alternating = true ∧ State.reset.service.deferred = [] ∧
    (beforeEnd .u State.reset (plainFrame 1) alternating).state.Room .d := by
  decide +kernel

theorem witness_SetpointStepBounded :
    cycleFits frame8001 = true ∧ (twoArms.supervision.get .a).setpoint = some ⟨2400000000, 2000000000, 1200000000⟩ ∧
    (⟨2400000000, 2000000000, 1200000000⟩ : Triple Int).all withinPosition = true ∧ noServe alternating = true ∧
    (∀ e ∈ alternating, e.event.port ≠ some .u) ∧ twoArms.service.deferred = [] := by
  decide +kernel

/-- Arm A of the worked case of chapter 5 at its hold limit of 3, and with no limit. -/
def atHoldLimit (limit : Nat) : State :=
  { twoArms with
    setup := { twoArms.setup with holdLimit := ⟨limit, 50⟩ }
    supervision := ⟨{ twoArms.supervision.a with state := .held, holdRun := 3 }, twoArms.supervision.b⟩ }

/-- R97, R92: the fourth hold passes the limit 3 and stops the arm; with limit 0 it stays HELD. The next slot of a STOPPED arm has drive
enable cleared. -/
theorem test_hold_limit :
    (after (atHoldLimit 3) (.outboundCycleFrame frame8001 [])).supervision.a.cause = .holdLimit ∧
    (sentOut (after (atHoldLimit 3) (.outboundCycleFrame frame8001 []))).map List.head? = [some 1, some 2] ∧
    (after (atHoldLimit 0) (.outboundCycleFrame frame8001 [])).supervision.a.state = .held ∧
    (sentOut (after stoppedArm (.outboundCycleFrame frame8001 []))).map List.head? = [some 1, some 2] := by
  decide +kernel

theorem witness_SetpointStepBounded_slots :
    twoArms.ActsOnTarget .b frame8001.slots 0 (targetOf 2 1 ⟨2500500000, 2553000000, 1300000000⟩) ∧
    twoArms.ActsOnTarget .a frame8001.slots 1 (targetOf 1 1 ⟨2400000000, 2040000000, 1200000000⟩) ∧
    zoneCheck (twoArms.atSlot frame8001 0) .b ⟨2500500000, 2552000000, 1300000000⟩ = true ∧
    twoArms.clampedAll .b ⟨2500000000, 2550000000, 1300000000⟩ (targetOf 2 1 ⟨2500500000, 2553000000, 1300000000⟩).payload =
      ⟨2500500000, 2552000000, 1300000000⟩ ∧
    zoneCheck (twoArms.atSlot frame8001 1) .a ⟨2400000000, 2040000000, 1200000000⟩ = false ∧
    twoArms.clampsOn .b ⟨2500000000, 2550000000, 1300000000⟩ (targetOf 2 1 ⟨2500500000, 2553000000, 1300000000⟩).payload = 1 ∧
    ((atHoldLimit 3).supervision.get .a).holdRun = 3 ∧ (stoppedArm.supervision.get .a).state = .stopped ∧
    (stoppedArm.supervision.get .a).setpoint ≠ none ∧ (State.reset.supervision.get .a).setpoint = none := by
  decide +kernel

/-- The worked case of chapter 5: the gap of the two arm boxes on y when arm B's slot passes, 78 000 000 nm. -/
theorem test_interference_gap :
    twoArms.lowOn .b ⟨2500500000, 2552000000, 1300000000⟩ .y - twoArms.highOn .a ⟨2400000000, 2000000000, 1200000000⟩ .y = 78000000 := by
  decide +kernel

/-- An outbound frame taken within a return frame, one of its slots handled before the return frame's end. -/
def within : List Interleaved := [⟨0, .takes .u (plainFrame 3)⟩, ⟨1, .handles .u⟩, ⟨2, .leaves .u⟩]

theorem witness_ReturnFrameKeepsShape :
    cycleFits { cycle := 1, slots := [reportOf 22] } = true ∧ State.reset.service.heldReply = none ∧ State.reset.service.deferred = [] ∧
    (1 : CycleNumber) ∉ State.reset.link.outstanding ∧ State.reset.Room .u ∧ ¬ txFullState.Room .u ∧ othersOnly .d 4 within ∧
    (beforeEnd .d State.reset { cycle := 1, slots := [reportOf 22] } within).state.Room .u ∧
    ¬ (beforeEnd .d txFullState { cycle := 1, slots := [reportOf 22] } [⟨1, .handles .u⟩]).state.Room .u ∧
    (beforeEnd .d State.reset { cycle := 1, slots := [reportOf 22] } within).out.isSome = true := by
  decide +kernel

theorem witness_OriginatedReturnNotForwarded :
    cycleFits { cycle := 4712, slots := [reportOf 22] } = true ∧ (4712 : CycleNumber) ∈ bridging.link.outstanding ∧
    bridging.service.heldReply = none ∧ bridging.service.deferred = [] ∧ bridging.setup.armNode.a ≠ bridging.setup.armNode.b ∧
    (∀ sl ∈ [reportOf 22], sl.kind = 0x11 → sl.address.toNat ≠ bridging.setup.armNode.get .a) ∧ othersOnly .d 4 within ∧
    (beforeEnd .d bridging { cycle := 4712, slots := [reportOf 22] } within).state.queue.records = [] ∧
    (beforeEnd .d { bridging with queue := { Queue.initial with records := [⟨0, touchRecord⟩] } }
      { cycle := 4712, slots := [reportOf 22] } within).state.queue.records ≠ [] := by
  decide +kernel

theorem witness_ReportDelivers :
    (List.replicate 88 (0 : Byte)).length % 4 = 0 ∧ 16 ≤ (List.replicate 16 (0 : Byte)).length ∧
    (List.replicate 1020 (0 : Byte)).length ≤ 1020 ∧ State.reset.Room .u ∧ (5 : CycleNumber) ∉ State.reset.link.outstanding ∧
    State.reset.service.heldReply = none ∧ State.reset.service.deferred = [] ∧ othersOnly .d 4 within ∧
    (beforeEnd .d State.reset { cycle := 5, slots := [reportOf 22] } within).state.service.heldReply = none ∧
    (beforeEnd .d State.reset { cycle := 5, slots := [reportOf 22] } within).state.service.deferred = [] ∧
    (beforeEnd .d State.reset { cycle := 5, slots := [reportOf 22] } within).state.Room .u := by
  decide +kernel

theorem witness_FrameLeavesPort :
    State.reset.link.tx .u = [] ∧ carrying.link.tx .d = [.out (plainFrame 1) (some 2), .asTaken []] ∧
    carrying.rack.message = some { sentMessage with phase := .carried } ∧
    (opening.rack.message.map fun m => m.phase) = some .sent := by
  decide

theorem witness_OnlyReleaseLeavesStopped :
    bringsNoRelease (.restartRun 1 []) = true ∧ bringsNoRelease (.outboundCycleFrame (plainFrame 1) [⟨0, .leaves .u⟩]) = true ∧
    (State.reset.supervision.get .a).state = .stopped ∧
    exec (.frameDiscarded .u) State.reset = .next (after State.reset (.frameDiscarded .u)) :=
  ⟨by decide, by decide, by decide, rfl⟩

theorem witness_WatchExpiry :
    ({ State.reset with link := { Link.initial with watchTimer := none } } : State).link.watchTimer = none ∧
    State.reset.link.watchTimer = some 5000 ∧ State.reset.link.template = none ∧ State.reset.link.lossMark = false ∧
    ({ State.reset with link := { Link.initial with lossMark := true } } : State).link.lossMark = true ∧
    following.link.watchTimer = some 5000 ∧ following.link.template = some (plainFrame 4711) ∧ following.link.lastOutbound = some 4711 ∧
    following.Room .d ∧ 0 < following.setup.bridgeTime ∧
    ({ following with setup := { following.setup with bridgeTime := 0 } } : State).setup.bridgeTime = 0 := by
  decide

theorem witness_OriginationExpiry :
    State.reset.link.originationTimer = none ∧ bridging.link.originationTimer = some 6500 ∧
    bridging.link.template = some (plainFrame 4711) ∧ bridging.link.lastOutbound = some 4712 ∧ bridging.Room .d := by
  decide

/-- That link with a stopped arm B that has no hold position, and bridge time 0. -/
def followingStopped : State :=
  { following with
    setup := { following.setup with bridgeTime := 0 }
    supervision := ⟨following.supervision.a, Supervision.initial⟩ }

/-- R23: the TARGET slots of an originated frame in HALTED: arm A's hold position without drive enable, arm B's template targets. -/
theorem test_originated_stopped :
    sentOut (after followingStopped .watchTimerExpiry) = [2 :: tripleBytes ⟨1, 2, 3⟩, 0 :: tripleBytes ⟨4, 5, 6⟩, [0, 0, 0, 0]] := by
  decide +kernel

theorem witness_originated_slots :
    following.ActsOnTarget .a (plainFrame 4711).slots 0 (targetOf 1 1 ⟨1, 2, 3⟩) ∧
    following.ActsOnTarget .b (plainFrame 4711).slots 1 (targetOf 2 1 ⟨4, 5, 6⟩) ∧
    following.ActsOnRackOut (plainFrame 4711).slots 2 rackOutSlotOf ∧ (following.supervision.get .a).setpoint ≠ none ∧
    (followingStopped.supervision.get .b).setpoint = none ∧ (offering.rack.message.map fun m => m.phase) = some .pending ∧
    following.rack.message = none ∧ followingStopped.setup.bridgeTime = 0 := by
  decide +kernel

theorem witness_BridgeExpiryStopsArms :
    State.reset.link.bridgeTimer = none ∧ bridging.link.bridgeTimer = some 205000 ∧ bridging.resetPin = false := by
  decide

/-- The change in RECLOSING with CLOSE_PORT sent. -/
def reclosing : State :=
  { opening with
    sequencer := ⟨{ opening.sequencer.a with state := .reclosing, phaseTimer := none }, Sequencer.initial⟩
    rack := { opening.rack with message := some { sentMessage with command := .closePort } } }

theorem witness_ReplyExpiry :
    State.reset.rack.replyTimer = none ∧ opening.rack.replyTimer = some 100000 ∧ opening.rack.message = some sentMessage ∧
    (opening.sequencer.get .a).state = .dropOpening ∧ (reclosing.sequencer.get .a).state = .reclosing ∧
    reclosing.rack.replyTimer = some 100000 := by
  decide

theorem witness_PhaseExpiry :
    (State.reset.sequencer.get .a).phaseTimer = none ∧ (opening.sequencer.get .a).phaseTimer = some 30000000 ∧
    (opening.sequencer.get .a).state.isPhase = true := by
  decide

/-- Requests waiting behind a held-back TABLE DATA. -/
def blocked : State := { heldBack with service := { heldBack.service with requests := [request 0x32 [0]] } }

theorem witness_RequestsTakenInOrder :
    State.reset.service.requests.length < 4 ∧ 4 ≤ (waiting (List.replicate 4 (request 0x32 [0]))).service.requests.length ∧
    requestOf (.stopArm 1 [0]) = some (request 0x32 [0]) ∧ (request 0x32 [0]).params.length ≤ 1528 ∧
    (waiting [request 0x51 [1]]).service.requests = request 0x51 [1] :: [] ∧ request 0x51 [1] ≠ request 0x32 [0] ∧
    (waiting [request 0x32 [0]]).service.requests = request 0x32 [0] :: [] ∧ blocked.service.heldReply ≠ none ∧
    blocked.service.requests = request 0x32 [0] :: [] ∧ (request 0x32 [0]).code ≠ 0x21 := by
  decide

/-- The reset state takes requests as they arrive. -/
theorem witness_Ready : State.reset.Ready ∧ changing.Ready ∧ opening.Ready ∧ twoArms.Ready := by decide

theorem witness_BadFormatAnswered :
    requestOf (.stopArm 1 []) = some (request 0x32 []) ∧ ((request 0x32 []).code, (request 0x32 []).params.length) ∉ listedLengths ∧
    requestOf (.unlistedRequestCode 1 0x71 []) = some (request 0x71 []) ∧ ((0x71 : Byte), 0) ∉ listedLengths := by
  decide

theorem witness_TableDataWritesNothing :
    heldBack.service.heldReply ≠ none ∧ heldBack.service.requests = [] ∧ State.reset.service.heldReply = none ∧
    State.reset.service.window = .closed ∧ (windowOn mapWindow).service.window = .opened mapWindow ∧
    (mapWindow.table.heldBack && (windowOn mapWindow).link.returnInProcessing) = false ∧
    ([1, 2] : List Byte).length ≠ 1 + (([1, 2] : List Byte).headD 0).toNat * entryLength mapWindow.table ∧
    ([0] : List Byte).length = 1 + (([0] : List Byte).headD 0).toNat * entryLength mapWindow.table ∧
    (17 :: List.replicate 68 (0 : Byte)).length = 1 + 17 * entryLength mapWindow.table := by
  decide

/-- The window at its end, and a window in method WRAP. -/
def endWindow : WindowValues := { mapWindow with pointer := 808 }
def wrapWindow : WindowValues := { mapWindow with method := .wrap, pointer := 807 }

theorem witness_TableDataOneEntry :
    (windowOn mapWindow).Ready ∧ (leIntBytes 4 7).length = entryLength mapWindow.table ∧ endWindow.last < endWindow.pointer ∧
    mapWindow.pointer ≤ mapWindow.last ∧ wrapWindow.method = .wrap ∧
    checkEntry (windowOn mapWindow) .map 768 (leIntBytes 4 (-9000000)) = .error .field ∧
    checkEntry (windowOn mapWindow) .map 768 (leIntBytes 4 7) = .ok (.map 7) :=
  ⟨by decide, by decide, by decide, by decide, by decide, by rfl, by rfl⟩

/-- Two MAP entries from the last index on in method STOP: the first is written, the second is past the end (R36, R37). -/
theorem test_tableData_past :
    replies (after (windowOn { mapWindow with pointer := 807 }) (.tableData 11 (2 :: (leIntBytes 4 1 ++ leIntBytes 4 2)))) =
      [(.done, .none, [1, 1, 0, 0x28, 0x03, 1])] := by
  decide +kernel

theorem witness_TableDataCounts :
    (windowOn mapWindow).Ready ∧ (∀ b ∈ [leIntBytes 4 1, leIntBytes 4 2], b.length = entryLength mapWindow.table) ∧
    1 + [leIntBytes 4 1, leIntBytes 4 2].length * entryLength mapWindow.table ≤ 1528 ∧ 1 + 16 * entryLength mapWindow.table ≤ 1528 ∧
    (DataRun.start State.reset endWindow).window.last < (DataRun.start State.reset endWindow).window.pointer ∧
    (DataRun.start State.reset wrapWindow).window.method = .wrap ∧
    (DataRun.start State.reset mapWindow).window.pointer ≤ (DataRun.start State.reset mapWindow).window.last := by
  decide

/-- The TABLE DATA of one MAP entry, handed over and taken between the slot and the first stage of a return frame. -/
def dataBetween : List Interleaved := [⟨1, .handOver 12 0x21 (1 :: leIntBytes 4 7)⟩, ⟨1, .serve⟩]

/-- The hypotheses of the part on RETURN_CYCLE_FRAME, all met together. -/
theorem witness_TableDataHeldBack_between :
    (windowOn mapWindow).Ready ∧ cycleFits { cycle := 1, slots := [reportOf 22] } = true ∧ (windowOn mapWindow).service.deferred = [] ∧
    (windowOn mapWindow).link.txU.length ≤ 6 ∧ (windowOn mapWindow).service.window = .opened mapWindow ∧
    mapWindow.table.heldBack = true ∧ (leIntBytes 4 7).length = entryLength mapWindow.table ∧ mapWindow.pointer ≤ mapWindow.last ∧
    checkEntry (framePieces .d dataBetween 0 1 ((Mid.idle (windowOn mapWindow)).takes .d { cycle := 1, slots := [reportOf 22] })).state
      mapWindow.table mapWindow.pointer (leIntBytes 4 7) = .ok (.map 7) ∧
    (1 : CycleNumber) ∉ (windowOn mapWindow).link.outstanding ∧ wrapWindow.method = .wrap ∧ (1 : CycleNumber) ∈ ([1] : List CycleNumber) :=
  ⟨by decide, by decide +kernel, by decide, by decide, by decide, by decide, by decide, by decide, by rfl, by decide, by decide, by decide⟩

/-- The part on RETURN_CYCLE_FRAME at those operands: the frame goes, the entry is written, and the reply follows it. -/
theorem test_tableData_between :
    (let s := after (windowOn mapWindow) (.returnCycleFrame { cycle := 1, slots := [reportOf 22] } dataBetween)
     s.map = [(768, 7)] ∧ s.link.txU.length = 2 ∧ replies s = [(.done, .none, [1, 0, 0, 0x01, 0x03, 1])]) := by
  decide +kernel

theorem witness_TableDataHeldBack :
    mapWindow.table.heldBack = true ∧ heldBack.link.returnInProcessing = true ∧ heldBack.Room .u ∧
    heldBack.service.heldReply = some { tag := 1, code := 0x21, answer := { outcome := .done, reason := .none, data := [] } } := by
  decide

theorem witness_TableContinue :
    ({ State.reset with service := { Service.initial with window := .broken mapWindow } } : State).service.window = .broken mapWindow ∧
    State.reset.service.window = .closed := by
  decide

theorem witness_TableRead :
    tableOf (7 : Byte).toNat = none ∧ tableOf (3 : Byte).toNat = some .map ∧ 1 ≤ (16 : Byte).toNat ∧ (16 : Byte).toNat ≤ 16 ∧
    tableSize .map < (0xF1 : Byte).toNat + 256 * (5 : Byte).toNat + (16 : Byte).toNat ∧
    (0xF0 : Byte).toNat + 256 * (5 : Byte).toNat + (16 : Byte).toNat ≤ tableSize .map := by
  decide

/-- The change state with arm A's record UNKNOWN. -/
def unknownProbe : State := { changing with active := ⟨.unknown 5, .none⟩ }

/-- The change state with arm B's change waiting for probe 9, with the probe of arm A without a home, and without corridors. -/
def targetWanted : State :=
  { changing with sequencer := ⟨Sequencer.initial, { Sequencer.initial with state := .queued, target := some ⟨9, 9⟩ }⟩ }
def homeless : State :=
  { changing with
    library := [(4, probeRecord 0xA104 none 150 (.mounted .a)), (9, probeRecord 0xA109 (some 9) 220 .inRack)] }
def noZones : State := { changing with zones := [] }

theorem witness_ChangeProbeRefused_stations :
    (targetWanted.sequencer.get (otherArm .a)).state ≠ .idle ∧ (targetWanted.sequencer.get (otherArm .a)).target = some ⟨9, 9⟩ ∧
    (targetWanted.sequencer.get .a).state = .idle ∧ targetWanted.active.get .a ≠ .known 9 ∧
    homeless.active.get .a = .known 4 ∧ Table.entry homeless.library 4 = some (probeRecord 0xA104 none 150 (.mounted .a)) ∧
    findIdentity homeless 0xA109 = some (9, probeRecord 0xA109 (some 9) 220 .inRack) ∧
    (homeless.sequencer.get (otherArm .a)).state = .idle ∧ corridorOf noZones .a 4 = none ∧
    Table.entry noZones.library 4 = some (probeRecord 0xA104 (some 4) 150 (.mounted .a)) ∧
    ({ noZones with active := ⟨.none, .none⟩ } : State).active.get .a = .none ∧ corridorOf noZones .a 9 = none := by
  decide +kernel

theorem witness_ChangeProbeRefused :
    armOf (2 : Byte).toNat = none ∧ armOf (0 : Byte).toNat = some .a ∧ (opening.sequencer.get .a).state ≠ .idle ∧
    (State.reset.supervision.get .a).state = .stopped ∧ (State.reset.sequencer.get .a).state = .idle ∧
    (changing.supervision.get .a).state ≠ .stopped ∧ findIdentity changing 3 = none ∧
    findIdentity changing 0xA104 = some (4, probeRecord 0xA104 (some 4) 150 (.mounted .a)) ∧
    (probeRecord 0xA104 (some 4) 150 (.mounted .a)).allowed.covers .a = true ∧ Scope.onlyB.covers .a = false ∧
    changing.active.get .a = .known 4 ∧ (probeRecord 0xA104 (some 4) 150 (.mounted .a)).location ≠ .inRack ∧
    unknownProbe.active.get .a ≠ .known 4 ∧ unknownProbe.active.get .a = .unknown 5 ∧
    targetTaken unknownProbe .a 9 (probeRecord 0xA109 (some 9) 220 .inRack) = false ∧ State.reset.active.get .a = .none ∧
    judgeChange unknownProbe .a 0xA109 = .refused { outcome := .state, reason := .noDropStation, data := [] } := by
  decide +kernel

theorem witness_ChangeProbeAccepted :
    judgeChange changing .a 0xA109 = .accepted { drop := some ⟨4, 4⟩, target := some ⟨9, 9⟩ } ∧
    ((some ⟨4, 4⟩ : Option Berth).or (some ⟨9, 9⟩)) = some ⟨4, 4⟩ ∧ changing.rack.holder = none ∧ changing.rack.message = none ∧
    ({ changing with rack := { changing.rack with holder := some .b } } : State).rack.holder = some (otherArm .a) ∧
    ({ changing with rack := { changing.rack with holder := some .b } } : State).rack.waiting = none := by
  decide +kernel

/-- The change in DROP_CORRIDOR, in PICK_CORRIDOR, and in PICK_CORRIDOR with its target MOUNTED on arm B. -/
def dropping : State :=
  { opening with sequencer := ⟨{ opening.sequencer.a with state := .dropCorridor, corridor := some 4 }, Sequencer.initial⟩ }
def picking : State :=
  { opening with
    active := ⟨.none, .none⟩
    library := [(4, probeRecord 0xA104 (some 4) 150 .inRack), (9, probeRecord 0xA109 (some 9) 220 .inRack)]
    sequencer := ⟨{ opening.sequencer.a with state := .pickCorridor, corridor := some 9 }, Sequencer.initial⟩ }
def pickingMounted : State :=
  { picking with active := ⟨.none, .known 9⟩, library := [(9, probeRecord 0xA109 (some 9) 220 (.mounted .b))] }

/-- A PROBE report of a mount state, without deflection or overtravel. -/
def mountReport (identity : Option Nat) : ProbeReport := { identity := identity, deflected := false, overtravel := false, edge := none }

theorem witness_ChangeProbeAccepted_reports :
    (dropping.sequencer.get .a).state = .dropCorridor ∧ (dropping.sequencer.get .a).drop = some ⟨4, 4⟩ ∧
    dropping.active.get .a = .known 4 ∧ ({ dropping with active := ⟨.none, .none⟩ } : State).active.get .a = .none ∧
    (picking.sequencer.get .a).state = .pickCorridor ∧ picking.active.get .a = .none ∧ (picking.sequencer.get .a).target = some ⟨9, 9⟩ ∧
    Table.entry picking.library 9 = some (probeRecord 0xA109 (some 9) 220 .inRack) ∧
    Table.entry pickingMounted.library 9 = some (probeRecord 0xA109 (some 9) 220 (.mounted .b)) ∧ findIdentity picking 7 = none ∧
    (opening.sequencer.get .a).state ≠ .idle ∧ reportAgrees opening .a (mountReport (some 0xA104)) = true ∧
    (opening.sequencer.get .a).state ∈
      [SeqState.queued, .dropOpening, .pickOpening, .dropLeaving, .pickLeaving, .dropClosing, .pickClosing] ∧
    reportAgrees opening .a (mountReport none) = false ∧ (reclosing.sequencer.get .a).state = .reclosing ∧
    reportAgrees reclosing .a (mountReport none) = false := by
  decide +kernel

/-- The change in PICK_CORRIDOR with another probe MOUNTED on arm B. -/
def pickingOther : State :=
  { picking with
    active := ⟨.none, .known 4⟩
    library := [(4, probeRecord 0xA104 (some 4) 150 (.mounted .b)), (9, probeRecord 0xA109 (some 9) 220 .inRack)] }

/-- R137: the probe that this change has dropped, in the rack, is mounted SUSPECT; one MOUNTED on arm B is LOST. The target is LOST. -/
theorem test_wrong_probe :
    (libraryReport picking .a (mountReport (some 0xA104))).library =
      [(4, { probeRecord 0xA104 (some 4) 150 (.mounted .a) with calibration := .suspect }), (9, probeRecord 0xA109 (some 9) 220 .lost)] ∧
    noticeKinds (libraryReport pickingOther .a (mountReport (some 0xA104))) = [.probeLost, .changeFailed] ∧
    (libraryReport pickingOther .a (mountReport (some 0xA104))).active = ⟨.unknown 0xA104, .none⟩ := by
  decide +kernel

theorem witness_ChangeProbeAccepted_found :
    (picking.sequencer.get .a).state = .pickCorridor ∧ picking.active.get .a = .none ∧ (picking.sequencer.get .a).target = some ⟨9, 9⟩ ∧
    Table.entry picking.library 9 = some (probeRecord 0xA109 (some 9) 220 .inRack) ∧
    (probeRecord 0xA109 (some 9) 220 .inRack).identity ≠ 0xA104 ∧
    findIdentity picking 0xA104 = some (4, probeRecord 0xA104 (some 4) 150 .inRack) ∧
    Table.entry picking.library 4 = some (probeRecord 0xA104 (some 4) 150 .inRack) ∧ pickingOther.active.get .a = .none ∧
    findIdentity pickingOther 0xA104 = some (4, probeRecord 0xA104 (some 4) 150 (.mounted (otherArm .a))) := by
  decide +kernel

theorem witness_AbortChange :
    (changing.sequencer.get .a).state = .idle ∧ (reclosing.sequencer.get .a).state ∈ [SeqState.winding, .clearing, .reclosing] ∧
    ({ Sequencer.initial with state := .queued } : Sequencer).state = .queued ∧ (opening.sequencer.get .a).state.isPhase = true := by
  decide

theorem witness_StopArm :
    (changing.supervision.get .a).state ≠ .stopped ∧ (changing.supervision.get .b).state = .stopped ∧ armOf (1 : Byte).toNat = some .b := by
  decide

/-- The change in DROP_CORRIDOR with its OPEN_PORT answered, and arm A in CONFIRMING with two frames to go. -/
def inCorridor : State :=
  { dropping with
    rack := { dropping.rack with message := none, replyTimer := none }
    capture := ⟨{ Capture.initial with state := .confirming, count := 2 }, Capture.initial⟩ }

/-- R140, R141, R147: the stop in DROP_CORRIDOR fails the change into CLEARING, the corridor kept; the latched touch is a bounce. In
DROP_OPENING the sequencer goes on. -/
theorem test_stopArm_change :
    (after inCorridor (.stopArm 3 [0])).sequencer.a.state = .clearing ∧ (after inCorridor (.stopArm 3 [0])).sequencer.a.corridor = some 4 ∧
    (after inCorridor (.stopArm 3 [0])).notices.entries.map (fun e => (e.kind, e.detail)) = [(.armStopped, 2), (.changeFailed, 9)] ∧
    (after inCorridor (.stopArm 3 [0])).capture.a = { Capture.initial with bounces := 1 } ∧
    (after opening (.stopArm 3 [0])).sequencer = opening.sequencer := by
  decide +kernel

theorem witness_StopArm_change :
    inCorridor.Ready ∧ (inCorridor.supervision.get .a).state ≠ .stopped ∧
    (inCorridor.sequencer.get .a).state ∈ [SeqState.dropCorridor, .dropLeaving, .pickCorridor, .pickLeaving] ∧
    (opening.sequencer.get .a).state ∉ [SeqState.dropCorridor, .dropLeaving, .pickCorridor, .pickLeaving] ∧
    (inCorridor.sequencer.get .a).portMark = some 4 ∧ (inCorridor.sequencer.get .a).corridor ≠ none ∧ inCorridor.rack.message = none ∧
    dropping.rack.message = some sentMessage ∧ sentMessage.sender = .a ∧ inCorridor.rack.holder = some .a ∧
    inCorridor.rack.waiting = none := by
  decide +kernel

theorem witness_ReleaseArm :
    (changing.supervision.get .a).state ≠ .stopped ∧ bridging.link.watch ≠ .watching ∧ (stoppedArm.supervision.get .a).state = .stopped ∧
    stoppedArm.link.watch = .watching ∧ (stoppedArm.supervision.get .a).overtravel ≠ some true ∧
    correctedHead State.reset .a = none ∧ correctedHead stoppedArm .a = some ⟨2400000120, 1999999950, 1200000030⟩ ∧
    zoneCheck stoppedArm .a ⟨2400000120, 1999999950, 1200000030⟩ = true ∧ zoneCheck State.reset .a ⟨0, 0, 0⟩ = false := by
  decide +kernel

theorem witness_PlanStartAndResume :
    armOf (0 : Byte).toNat = some .a ∧ (1 : Byte).toNat ≤ 1 ∧ 511 < (0 : Byte).toNat + 256 * (2 : Byte).toNat ∧
    (0xFF : Byte).toNat + 256 * (1 : Byte).toNat ≤ 511 ∧ (touching.walk.get .a).state = .running ∧
    (State.reset.walk.get .a).state ≠ .running ∧ (State.reset.walk.get .a).state ≠ .parked ∧
    ({ state := .parked, head := some 3, loop := true } : Walk).head ≠ none := by
  decide

theorem witness_PlanStop :
    armOf (1 : Byte).toNat = some .b ∧ (State.reset.walk.get .a).state ≠ .running ∧ (State.reset.walk.get .a).head = none ∧
    (State.reset.walk.get .b).state ≠ .running ∧ (State.reset.walk.get .b).head = none := by
  decide

theorem witness_ReadNotices : (9 : Byte) ≠ 0 ∧ 8 < (9 : Byte).toNat ∧ 1 ≤ (8 : Byte).toNat ∧ (8 : Byte).toNat ≤ 8 := by decide

theorem witness_SetNoticeMask : (2 : Byte).toNat % 4 ≠ 0 ∧ (4 : Byte).toNat % 4 = 0 := by decide

theorem witness_ReadStatus :
    1 < (2 : Byte).toNat ∧ (1 : Byte).toNat ≤ 1 ∧ State.reset.Ready ∧ opening.Ready ∧ (State.reset.supervision.get .a).setpoint = none ∧
    (opening.supervision.get .a).setpoint = some ⟨0, 0, 0⟩ ∧ ((State.reset.head.get .a).record.get .x).last = none ∧
    ((stoppedArm.head.get .a).record.get .x).last = some 2400000120 ∧ (State.reset.sequencer.get .a).phaseTimer = none ∧
    (opening.sequencer.get .a).phaseTimer = some 30000000 ∧ (State.reset.walk.get .a).head = none ∧
    (touching.walk.get .a).head = some 40 := by
  decide

/-- A waiting frame with its message, and arms to stop. -/
theorem witness_RestartRun : carrying.Ready ∧ twoArms.Ready ∧ twoArms.supervision.a.state ≠ .stopped ∧ twoArms.supervision.b.state ≠ .stopped := by
  decide

/-- A notice list with one entry, and a full one. -/
def oneNotice : Notices := { Notices.initial with entries := [⟨.badFrame, .none, 0, 5, 255⟩] }
def fullNotices : Notices := { Notices.initial with entries := (List.range 32).map fun i => ⟨.channelStale, .channel i, 0, 0, 1⟩ }

theorem witness_NoticeRaised :
    ({ Notices.initial with mask := 0x20000 } : Notices).mask.getLsbD (noticeCode .badFrame) = true ∧
    Notices.initial.mask.getLsbD (noticeCode .badFrame) = false ∧ oneNotice.entries = [] ++ ⟨.badFrame, .none, 0, 5, 255⟩ :: [] ∧
    Notices.initial.entries.length < 32 ∧ 32 ≤ fullNotices.entries.length ∧
    (∀ x ∈ fullNotices.entries, ¬ (x.kind = .badFrame ∧ x.subject = .none)) := by
  decide

theorem witness_ChannelTakesReading :
    Table.entry State.reset.channels 31 = none ∧ Table.entry touching.channels 0 = some (measured (.probeArm .a) 22100) ∧
    (measured (.probeArm .a) 22100).entry.low ≤ 80000 + (measured (.probeArm .a) 22100).entry.trim ∧
    80000 + (measured (.probeArm .a) 22100).entry.trim ≤ (measured (.probeArm .a) 22100).entry.high ∧
    (measured (.probeArm .a) 22100).run.filtered = some 22100 ∧ (measured (.probeArm .a) 22100).run.seed = false ∧
    (measured (.probeArm .a) 22100).run.state = .valid ∧ freshRun.seed = true ∧
    ¬ ((80001 : Int) + (measured (.probeArm .a) 22100).entry.trim ≤ (measured (.probeArm .a) 22100).entry.high) := by
  decide

/-- A channel SETTLING towards two readings, one in FAULT, and one VALID at the edge of its stale limit. -/
def settling : Channel :=
  { measured (.scale 0) 20000 with
    entry := { (measured (.scale 0) 20000).entry with settle := 2 }
    run := { (measured (.scale 0) 20000).run with state := .settling, progress := 1 } }
def faulted : Channel := { settling with run := { settling.run with state := .fault } }
def ageing : Channel := { measured (.scale 0) 20000 with run := { (measured (.scale 0) 20000).run with age := 254 } }

/-- The worked rule of R52 at both sides of the settle count, and R54 at the stale limit. -/
theorem test_settling_and_ageing :
    ((Table.entry (takeReading { State.reset with channels := [(2, settling)] } 2 20000).channels 2).map fun c => c.run.state) = some .valid ∧
    ((Table.entry (takeReading { State.reset with channels := [(2, faulted)] } 2 20000).channels 2).map fun c =>
      (c.run.state, c.run.progress)) = some (.settling, 1) ∧
    noticeKinds (ageChannels { State.reset with channels := [(2, ageing)] } []) = [.channelStale] := by
  decide +kernel

theorem witness_ChannelTakesReading_ageing :
    settling.run.state = .settling ∧ faulted.run.state = .fault ∧ freshRun.alarmOn = false ∧
    Table.entry ({ State.reset with channels := [(2, ageing)] } : State).channels 2 = some ageing ∧
    ([(2, ageing)] : Table Channel) = [] ++ (2, ageing) :: [] ∧ 2 ∉ ([] : List Nat) ∧ ageing.run.state = .valid ∧
    ageing.entry.staleLimit ≤ min 255 (ageing.run.age + 1) ∧
    (∀ p ∈ ([(2, settling)] : Table Channel), ¬ (p.1 ∉ ([] : List Nat) ∧ p.2.run.state = .valid ∧
      p.2.entry.staleLimit ≤ min 255 (p.2.run.age + 1))) := by
  decide

/-- R54: two channels that go STALE in one ageing stage, with one between them that does not, and one that had a reading. -/
def twoAgeing : State := { State.reset with channels := [(2, ageing), (3, settling), (5, ageing), (6, ageing)] }

/-- Each of the two is raised, the lower one first (log 20). -/
theorem test_two_stale :
    (ageChannels twoAgeing [6]).notices.entries.map (fun e => (e.kind, e.subject)) =
      [(.channelStale, .channel 2), (.channelStale, .channel 5)] := by
  decide +kernel

theorem witness_ChannelTakesReading_two :
    Table.wf 32 twoAgeing.channels = true ∧ [2, 5].Pairwise (· < ·) ∧ Table.entry twoAgeing.channels 2 = some ageing ∧
    Table.entry twoAgeing.channels 5 = some ageing ∧ 2 ∉ [6] ∧ 5 ∉ [6] ∧
    (∀ p ∈ twoAgeing.channels, p.1 ∉ [6] → p.2.run.state = .valid → p.2.entry.staleLimit ≤ min 255 (p.2.run.age + 1) → p.1 ∈ [2, 5]) ∧
    ageing.entry.alarm = none := by
  decide

/-- R55: at the threshold an ABOVE alarm is true, and a BELOW alarm one below it. -/
theorem test_alarm :
    [(20000, AlarmDirection.above, 20000), (20001, .above, 20000), (20000, .below, 20000), (20001, .below, 20000)].map (fun p =>
      (Table.entry (takeReading { State.reset with channels :=
        [(2, { ageing with entry := { ageing.entry with alarm := some (p.1, p.2.1) } })] } 2 p.2.2).channels 2).map fun c => c.run.alarmOn) =
      [some true, some false, some false, some true] := by
  decide +kernel

theorem witness_MapTermBetweenNeighbours :
    ({ axisRecord 1 with mapEnabled := true } : AxisEntry).mapEnabled = true ∧ 2 ≤ (axisRecord 1).mapCount ∧ 1 ≤ (axisRecord 1).mapPitch ∧
    (axisRecord 1).mapEnabled = false ∧ (-1 : Int) < (axisRecord 1).mapStart ∧ (axisRecord 1).mapStart ≤ 999 ∧
    ((999 - (axisRecord 1).mapStart) / ((axisRecord 1).mapPitch * 1000 : Nat)).toNat + 1 < (axisRecord 1).mapCount ∧
    (axisRecord 1).mapCount ≤ ((1000 - (axisRecord 1).mapStart) / ((axisRecord 1).mapPitch * 1000 : Nat)).toNat + 1 := by
  decide

theorem witness_PositionSlotCorrected :
    36 ≤ (positionOf 1 ⟨1, 2, 3⟩ 0x08).payload.length ∧ Table.entry twoArms.axes (axisIndex .a .x) = some (axisRecord 2000) ∧
    (axisRecord 2000).mapEnabled = false ∧ (axisRecord 2000).coupled = none ∧
    ((positionOf 1 ⟨1, 2, 3⟩ 0x08).payload.getD 15 0).toNat / 4 ^ axisCode .x % 4 ≤ 1 ∧
    2 ≤ ((positionOf 1 ⟨1, 2, 3⟩ 0x08).payload.getD 15 0).toNat / 4 ^ axisCode .y % 4 ∧
    Table.entry State.reset.axes (axisIndex .b .z) = none := by
  decide +kernel

theorem witness_PositionSlotCorrected_terms :
    Table.entry correcting.axes (axisIndex .a .x) ≠ none ∧
    correcting.thermalPosition .a (positionOf 1 ⟨10001000000, 1200000000, 0⟩ 0).payload .x = some 2500085680 ∧
    (∀ ax, (twoArms.thermalPosition .a (positionOf 1 ⟨1, 2, 3⟩ 0).payload ax).isSome = true) ∧
    (twoArms.thermalPosition .a (positionOf 1 ⟨1, 2, 3⟩ 0x08).payload .y).isSome = false ∧
    ((State.reset.head.get .a).record.get .y).last = none ∧ ((stoppedArm.head.get .a).record.get .y).last = some 1999999950 ∧
    withinPosition 1999999950 = true :=
  ⟨by decide +kernel, by decide +kernel, by intro ax; cases ax <;> decide +kernel, by decide +kernel, by decide, by decide, by decide⟩

/-- R77, R79: the third FAIL cycle of a run at the limit 3 stops the arm with cause SCALE_FAIL. -/
theorem test_missing_position_stops :
    (missingPosition { twoArms with head := ⟨{ Head.initial with failRun := 2 }, Head.initial⟩ } .a false).supervision.a.cause = .scaleFail ∧
    (missingPosition { twoArms with head := ⟨{ Head.initial with failRun := 1 }, Head.initial⟩ } .a false).supervision.a.state = .free := by
  decide

/-- The latch of a head that stands still, and the touch state with it and its walk stopped. -/
def stillLatch : TouchLatch :=
  { edge := 300, current := ⟨quietAt 1000, quietAt 2000, quietAt 3000⟩, previous := some ⟨quietAt 1000, quietAt 2000, quietAt 3000⟩,
    cycle := 901, armHeld := true, probe := 9 }
def standing : State :=
  { touching with
    walk := ⟨Walk.initial, Walk.initial⟩
    capture := ⟨{ touching.capture.a with latch := some stillLatch }, Capture.initial⟩ }

theorem witness_TouchCommitted :
    (Table.entry standing.library stillLatch.probe).isSome = true ∧ stillLatch.previous = some stillLatch.current ∧
    stillLatch.current.any (fun x => x.stale) = false ∧ (standing.walk.get .a).state ≠ .running ∧
    (standing.capture.get .a).state = .confirming ∧ (standing.capture.get .a).latch = some stillLatch ∧
    (standing.capture.get .a).count ≤ 1 ∧ deflectedReport.deflected = true := by
  decide

theorem witness_PlanMatch :
    touchRecord.kind = .touch ∧ touching.walk.get touchRecord.arm = { state := .running, head := some 40, loop := false } ∧
    Table.entry touching.plan 40 = some entry40 ∧ entry40.arm = touchRecord.arm ∧ entry40.owner = .device ∧
    touching.queue.records.length < 64 ∧
    max (max (touchRecord.point.x - entry40.nominal.x).natAbs (touchRecord.point.y - entry40.nominal.y).natAbs)
      (touchRecord.point.z - entry40.nominal.z).natAbs ≤ entry40.search * 1000 := by
  decide +kernel

theorem witness_RackReplyTaken :
    opening.rack.message = some sentMessage ∧ opening.rack.replyTimer = some 100000 ∧ sentMessage.phase = .sent ∧
    sentMessage.tag = ({ tag := 6, station := 4, outcome := .timeout } : RackReply).tag ∧
    sentMessage.station = ({ tag := 6, station := 4, outcome := .timeout } : RackReply).station ∧ State.reset.rack.message = none ∧
    sentMessage.tag ≠ ({ tag := 7, station := 4, outcome := .timeout } : RackReply).tag := by
  decide

/-- The touch state in another capture state. -/
def capturing (state : CaptureState) (count : Nat) : State :=
  { touching with capture := ⟨{ touching.capture.a with state := state, count := count }, Capture.initial⟩ }

/-- R151, R157: the count reaches the stuck limit 2 000. R152: the fourth quiet report ends REARMING (rearm count 4). -/
theorem test_stuck_and_rearm :
    (captureStep (capturing .deflected 1999) .a (some deflectedReport) 902).queue.records.length = 1 ∧
    (captureStep (capturing .deflected 1998) .a (some deflectedReport) 902).queue.records.length = 0 ∧
    (captureStep (capturing .rearming 3) .a (some (mountReport (some 0xA109))) 902).capture.a.state = .armed ∧
    (captureStep (capturing .rearming 2) .a (some (mountReport (some 0xA109))) 902).capture.a.state = .rearming := by
  decide +kernel

theorem witness_TouchCommitted_states :
    ((capturing .armed 0).capture.get .a).probe = some 9 ∧ 1 ≤ (touching.setup.capture.get .a).debounce ∧ deflectedReport.deflected = true ∧
    (mountReport none).deflected = false ∧ 2 ≤ ((capturing .confirming 2).capture.get .a).count ∧
    ((capturing .deflected 1999).capture.get .a).stuckCommitted = false ∧ (touching.setup.capture.get .a).stuckLimit ≤ min 65535 (1999 + 1) ∧
    min 65535 (1998 + 1) < (touching.setup.capture.get .a).stuckLimit ∧ (Table.entry touching.library 9).isSome = true ∧
    (State.reset.capture.get .a).state = .suspended := by
  decide

/-- The latch of the worked touch of chapter 8. -/
def workedLatch : TouchLatch :=
  { edge := 300, current := ⟨quietAt 1000004000, quietAt 2450001000, quietAt 1179998000⟩
    previous := some ⟨quietAt 1000000000, quietAt 2450000000, quietAt 1180000000⟩, cycle := 901, armHeld := false, probe := 9 }

/-- The record of the worked touch, and with a STALE axis the fallback to the current position (R153). -/
theorem test_touchRecord :
    ((Table.entry touching.library 9).map fun e => touching.touchRecord .a workedLatch e) = some touchRecord ∧
    ((Table.entry touching.library 9).map fun e =>
      (touching.touchRecord .a { workedLatch with previous := none } e).flags.positionStale) = some true ∧
    { workedLatch with previous := none }.headOn .y = 2450001000 := by
  decide +kernel

/-- The touch state in ARMED with a debounce count of 0, and in SUSPENDED with a rearm count. -/
def undebounced : State :=
  { capturing .armed 0 with setup := { touching.setup with capture := ⟨{ CaptureSetup.initial with debounce := 0 }, CaptureSetup.initial⟩ } }
def resting (rearm : Nat) : State :=
  { stoppedArm with
    supervision := ⟨{ stoppedArm.supervision.a with state := .free }, stoppedArm.supervision.b⟩
    setup := { stoppedArm.setup with capture := ⟨{ CaptureSetup.initial with rearm := rearm }, CaptureSetup.initial⟩ } }

/-- R149: with a debounce count of 0 the deflected report commits at once. R148: the first evaluation leaves SUSPENDED with the KNOWN probe,
and its quiet report counts; with a rearm count of 0 the arm is ARMED. R146: the previous position follows. -/
theorem test_capture_edges :
    (captureStep undebounced .a (some deflectedReport) 902).capture.a.state = .deflected ∧
    (captureStep undebounced .a (some deflectedReport) 902).queue.records.length = 1 ∧
    (let c := (evaluateArm (resting 4) .a (some (mountReport (some 5))) 7).capture.a
     (c.state, c.count, c.probe)) = (.rearming, 1, some 0) ∧
    (evaluateArm (resting 0) .a none 7).capture.a.state = .armed ∧
    (evaluateArm (resting 0) .a none 7).capture.a.previous =
      some ⟨quietAt 2400000120, quietAt 1999999950, quietAt 1200000030⟩ ∧
    (evaluateArm State.reset .a none 7).capture.a = Capture.initial := by
  decide +kernel

theorem witness_TouchCommitted_edges :
    (undebounced.capture.get .a).state = .armed ∧ (undebounced.setup.capture.get .a).debounce = 0 ∧
    (undebounced.capture.get .a).probe = some 9 ∧ (Table.entry undebounced.library 9).isSome = true ∧
    ((resting 4).capture.get .a).state = .suspended ∧ ((resting 4).supervision.get .a).state ≠ .stopped ∧
    ((resting 4).sequencer.get .a).state = .idle ∧ (resting 4).active.get .a = .known 0 ∧
    (State.reset.supervision.get .a).state = .stopped ∧ (∀ i, State.reset.active.get .a ≠ .known i) ∧
    (touching.capture.get .a).state ≠ .suspended :=
  ⟨by decide, by decide, by decide, by decide, by decide, by decide, by decide, by decide, by decide, by intro i; simp [State.reset, PerArm.get],
    by decide⟩

/-- R147: a manual mount on arm B of the probe that arm A carries suspends arm A's capture, and the touch in CONFIRMING is a bounce. -/
theorem test_suspended_by_probe :
    (libraryReport touching .b (mountReport (some 0xA109))).capture.a.state = .suspended ∧
    (libraryReport touching .b (mountReport (some 0xA109))).capture.a.bounces = 1 ∧
    (libraryReport touching .b (mountReport (some 0xA109))).active.a = .none := by
  decide +kernel

/-- The walk at an empty entry, at one of arm B, at one owned by CONTROLLER, and at one that lies away. -/
def planAt (e : Table PlanEntry) : State := { touching with plan := e }

theorem witness_PlanMatch_unplanned :
    Table.entry (planAt []).plan 40 = none ∧ ({ entry40 with arm := .b } : PlanEntry).arm ≠ touchRecord.arm ∧
    ({ entry40 with owner := .controller } : PlanEntry).owner = .controller ∧
    ({ entry40 with search := 1 } : PlanEntry).search * 1000 < max (max (touchRecord.point.x - entry40.nominal.x).natAbs
      (touchRecord.point.y - entry40.nominal.y).natAbs) (touchRecord.point.z - entry40.nominal.z).natAbs ∧
    ({ touchRecord with kind := .stuck } : CaptureRecord).kind = .stuck ∧ (State.reset.walk.get .a).state ≠ .running := by
  decide +kernel

/-- R168 to R170: FAULT, the parked walk, and the walk that stands. -/
theorem test_plan_unplanned :
    (handRecord (planAt []) touchRecord 0).walk.a.state = .fault ∧
    (handRecord (planAt [(40, { entry40 with owner := .controller })]) touchRecord 0).walk.a =
      { state := .parked, head := some 40, loop := false } ∧
    (handRecord (planAt [(40, { entry40 with search := 1 })]) touchRecord 0).walk.a.state = .running := by
  decide +kernel

/-- The change in DROP_CLOSING and in PICK_CLOSING with its message answered, and leaving a corridor. -/
def dropClosing (target : Option Berth) : State :=
  { opening with
    active := ⟨.none, .none⟩
    library := [(4, probeRecord 0xA104 (some 4) 150 .inRack), (9, probeRecord 0xA109 (some 9) 220 .inRack)]
    rack := { opening.rack with message := none, replyTimer := none }
    sequencer := ⟨{ opening.sequencer.a with state := .dropClosing, target := target, dropUnconfirmed := true }, Sequencer.initial⟩ }
def pickClosing : State :=
  { dropClosing none with sequencer := ⟨{ opening.sequencer.a with state := .pickClosing }, Sequencer.initial⟩ }
def leaving (state : SeqState) (x : Int) : State :=
  { dropClosing (some ⟨9, 9⟩) with
    sequencer := ⟨{ opening.sequencer.a with state := state, corridor := some 4 }, Sequencer.initial⟩
    head := ⟨{ Head.initial with record :=
      ⟨{ HeadAxis.initial with last := some x }, { HeadAxis.initial with last := some 0 }, { HeadAxis.initial with last := some 0 }⟩ },
      Head.initial⟩ }

/-- R133 to R135, R138: the drop confirmed, the drop not sensed, the pick complete, and a head outside the corridor. -/
theorem test_change_closing :
    (takeOutcome (dropClosing (some ⟨9, 9⟩)) { sentMessage with command := .closePort } (.ack false true)).sequencer.a.state =
      .pickOpening ∧
    noticeKinds (takeOutcome (dropClosing none) { sentMessage with command := .closePort } (.ack false false)) = [.changeFailed] ∧
    noticeKinds (takeOutcome pickClosing { sentMessage with command := .closePort, station := 9 } (.ack false true)) = [.changeDone] ∧
    (leavingTest (leaving .dropLeaving 0) .a).sequencer.a.state = .dropClosing ∧
    (leavingTest (leaving .dropLeaving 5300000000) .a).sequencer.a.state = .dropLeaving := by
  decide +kernel

theorem witness_RackReplyTaken_closing :
    (dropClosing none).rack.message = none ∧ (dropClosing none).rack.holder = some sentMessage.sender ∧
    ((dropClosing none).sequencer.get .a).state = .dropClosing ∧ ((dropClosing none).sequencer.get .a).drop = some ⟨4, 4⟩ ∧
    ((dropClosing none).sequencer.get .a).dropUnconfirmed = true ∧ sentMessage.station = 4 ∧ (dropClosing none).rack.waiting = none ∧
    ((dropClosing none).sequencer.get .a).target = none ∧ ((dropClosing (some ⟨9, 9⟩)).sequencer.get .a).target = some ⟨9, 9⟩ ∧
    Table.entry (dropClosing none).library 4 = some (probeRecord 0xA104 (some 4) 150 .inRack) ∧
    (pickClosing.sequencer.get .a).state = .pickClosing ∧ pickClosing.rack.holder = some sentMessage.sender := by
  decide +kernel

/-- The change in an opening state, its OPEN_PORT answered, with arm B waiting for the rack. -/
def answered (state : SeqState) : State :=
  { opening with
    rack := { opening.rack with message := none, replyTimer := none, waiting := some .b }
    sequencer := ⟨{ opening.sequencer.a with state := state, portMark := if state = .pickOpening then some 9 else some 4 },
      { Sequencer.initial with state := .queued, target := some ⟨9, 9⟩ }⟩ }

/-- R130: the corridor of the station, the drop's and the target's, opens with DROP_READY and PICK_READY. -/
theorem test_corridor_opens :
    (takeOutcome (answered .dropOpening) sentMessage (.ack true false)).sequencer.a.corridor = some 4 ∧
    noticeKinds (takeOutcome (answered .dropOpening) sentMessage (.ack true false)) = [.dropReady] ∧
    (takeOutcome (answered .pickOpening) { sentMessage with station := 9 } (.ack true true)).sequencer.a.corridor = some 9 ∧
    noticeKinds (takeOutcome (answered .pickOpening) { sentMessage with station := 9 } (.ack true true)) = [.pickReady] := by
  decide +kernel

/-- R118, R130, R141, R142: a closed port leaves nothing open, and the waiting arm is granted the rack; an occupied station is closed again;
WINDING goes on to RECLOSING, and RECLOSING ends with RACK_PORT_UNKNOWN on a NAK. -/
theorem test_opening_fails :
    (takeOutcome (answered .dropOpening) sentMessage (.ack false false)).sequencer.a = Sequencer.initial ∧
    (takeOutcome (answered .dropOpening) sentMessage (.ack false false)).sequencer.b.state = .pickOpening ∧
    (takeOutcome (answered .dropOpening) sentMessage (.ack true true)).sequencer.a.state = .reclosing ∧
    (takeOutcome (answered .winding) sentMessage .timeout).sequencer.a.state = .reclosing ∧
    noticeKinds (takeOutcome (answered .reclosing) sentMessage (.nak 3)) = [.rackPortUnknown] := by
  decide +kernel

theorem witness_RackReplyTaken_opening :
    (answered .dropOpening).rack.message = none ∧ (answered .dropOpening).rack.holder = some sentMessage.sender ∧
    ((answered .dropOpening).sequencer.get .a).drop = some ⟨4, 4⟩ ∧ sentMessage.station = 4 ∧
    ((answered .pickOpening).sequencer.get .a).target = some ⟨9, 9⟩ ∧ ((answered .dropOpening).supervision.get .a).state ≠ .stopped ∧
    (({ answered .dropOpening with supervision := ⟨Supervision.initial, Supervision.initial⟩ } : State).supervision.get .a).state = .stopped ∧
    ((answered .winding).sequencer.get .a).state = .winding ∧ ((answered .winding).sequencer.get .a).portMark = some sentMessage.station ∧
    ((answered .reclosing).sequencer.get .a).state = .reclosing ∧ (answered .reclosing).rack.waiting = some .b ∧
    ((answered .reclosing).sequencer.get .b).state = .queued ∧
    ((answered .reclosing).sequencer.get .b).drop.or ((answered .reclosing).sequencer.get .b).target = some ⟨9, 9⟩ := by
  decide +kernel

theorem witness_RackReplyTaken_leaving :
    ((leaving .dropLeaving 0).sequencer.get .a).corridor = some 4 ∧
    corridorOf (leaving .dropLeaving 0) .a 4 = some (zoneRecord .corridor 4 ⟨5200000, 0, 0⟩ ⟨5600000, 900000, 900000⟩) ∧
    correctedHead (leaving .dropLeaving 0) .a = some ⟨0, 0, 0⟩ ∧
    (armBox (leaving .dropLeaving 0) .a ⟨0, 0, 0⟩).intersects (zoneBox (zoneRecord .corridor 4 ⟨5200000, 0, 0⟩ ⟨5600000, 900000, 900000⟩)) =
      false ∧
    (armBox (leaving .dropLeaving 5300000000) .a ⟨5300000000, 0, 0⟩).intersects
      (zoneBox (zoneRecord .corridor 4 ⟨5200000, 0, 0⟩ ⟨5600000, 900000, 900000⟩)) = true ∧
    (leaving .dropLeaving 0).rack.message = none ∧ (leaving .dropLeaving 0).rack.holder = some .a ∧
    ((leaving .dropLeaving 0).sequencer.get .a).drop = some ⟨4, 4⟩ ∧ ((leaving .pickLeaving 0).sequencer.get .a).target = some ⟨9, 9⟩ ∧
    ((leaving .clearing 0).sequencer.get .a).portMark = some 4 ∧
    (dropping.sequencer.get .a).state ∉ [SeqState.dropLeaving, .pickLeaving, .clearing] := by
  decide +kernel

/-- A full capture queue. -/
def fullRecords : List QueuedRecord := List.replicate 63 ⟨0, touchRecord⟩ ++ [⟨1, touchRecord⟩]

theorem witness_RecordCommittedOrDropped :
    State.reset.queue.records.length < 64 ∧ fullRecords = List.replicate 63 ⟨0, touchRecord⟩ ++ [⟨1, touchRecord⟩] ∧
    64 ≤ fullRecords.length ∧ State.reset.queue.missingMark = false ∧ ({ Queue.initial with missingMark := true } : Queue).missingMark = true ∧
    State.reset.setup.stallCycles ≤ min 255 (99 + 1) ∧ min 255 (98 + 1) < State.reset.setup.stallCycles ∧ State.reset.queue.stallMark = false ∧
    State.reset.queue.records = [] ∧ fullRecords ≠ [] ∧ (∀ sl ∈ [rackOutSlotOf], sl.kind = 0x16 → sl.address ≠ 62) := by
  decide

/-- A DETACHED report. -/
def detachedReport : ProbeReport := { identity := none, deflected := false, overtravel := false, edge := none }

theorem witness_DetachedReport :
    detachedReport.identity = none ∧ Table.wf 32 changing.library = true ∧ (changing.sequencer.get .a).state = .idle ∧ changing.active.get .a = .known 4 ∧
    Table.entry changing.library 4 = some (probeRecord 0xA104 (some 4) 150 (.mounted .a)) ∧
    unknownProbe.active.get .a = .unknown 5 := by
  decide

/-- R113, R114: a manual mount of a probe in the rack, and of one MOUNTED on the other arm. -/
theorem test_manual_mount :
    (libraryReport changing .a (mountReport (some 0xA109))).active.a = .known 9 ∧
    noticeKinds (libraryReport changing .a (mountReport (some 0xA109))) = [.probeLost, .probeMountedManual] ∧
    (libraryReport changing .b (mountReport (some 0xA104))).active = ⟨.none, .unknown 0xA104⟩ := by
  decide +kernel

theorem witness_DetachedReport_attached :
    (changing.sequencer.get .b).state = .idle ∧ reportAgrees changing .a (mountReport (some 0xA104)) = true ∧
    reportAgrees changing .a (mountReport (some 0xA109)) = false ∧ findIdentity changing 7 = none ∧
    findIdentity changing 0xA109 = some (9, probeRecord 0xA109 (some 9) 220 .inRack) ∧ changing.active.get .a ≠ .known 9 ∧
    findIdentity changing 0xA104 = some (4, probeRecord 0xA104 (some 4) 150 (.mounted (otherArm .b))) ∧ changing.active.get .b ≠ .known 4 ∧
    unknownProbe.active.get .a = .unknown (probeRecord 5 none 0 .outside).identity ∧
    unknownProbe.active.get (otherArm .a) ≠ .unknown (probeRecord 5 none 0 .outside).identity ∧
    (∀ arm, State.reset.active.get arm ≠ .unknown 5) ∧ (changing.supervision.get .a).state ≠ .stopped ∧
    (State.reset.supervision.get .a).state = .stopped :=
  ⟨by decide, by decide +kernel, by decide +kernel, by decide, by decide +kernel, by decide, by decide +kernel, by decide, by decide, by decide,
    by intro arm; cases arm <;> decide, by decide, by decide⟩

/-- Arm A released, arm B in STOPPED. -/
def released : State := after { stoppedArm with supervision := ⟨stoppedArm.supervision.a, Supervision.initial⟩ } (.releaseArm 41 [0])

/-- The invariants hold at reset, and the premises of each are met by a change under way or a released arm. -/
theorem witness_StepKeeps :
    State.reset.tableInv = true ∧ State.reset.betweenFrames = true ∧ State.reset.boundsInv = true ∧ State.reset.numbersInv = true ∧
    State.reset.armInv = true ∧ State.reset.rackInv = true ∧ opening.tableInv = true ∧ opening.betweenFrames = true ∧
    opening.boundsInv = true ∧ opening.rackInv = true ∧ (released.supervision.get .a).state = .free ∧ released.armInv = true ∧
    (captureStep touching .a (some deflectedReport) 902).numbersInv = true ∧ State.reset.libraryInv = true ∧ opening.libraryInv = true ∧
    picking.tableInv = true ∧ picking.libraryInv = true ∧ pickingMounted.libraryInv = true := by
  decide +kernel

theorem witness_step_next : step State.reset = .next { State.reset with now := 1 } := rfl

end Sys2Proof.Tests
end

section
/-! Every step keeps queues, counters and the notice list within bounds (StepKeepsBounds). The invariant is stated block by block as
`State.Bounded`; each operation of the model keeps it, said once per operation, and the step is their composition. An operation on a
block that `State.Bounded` does not read keeps it by definition. -/

namespace Sys2Proof.Machine

/-! ### The invariant, block by block -/

/-- The link block within bounds (R6, R14, R24). -/
structure LinkBounds (l : Link) : Prop where
  txU : l.txU.length ≤ 8
  txD : l.txD.length ≤ 8
  outstanding : l.outstanding.length ≤ 16
  nodup : l.outstanding.Nodup
  badU : l.badU ≤ 65535
  badD : l.badD ≤ 65535

/-- The capture queue within bounds (R174, R176, R177, R183). -/
structure QueueBounds (q : Queue) : Prop where
  records : q.records.length ≤ 64
  credits : q.credits ≤ 255
  overruns : q.overruns ≤ 65535
  stallCount : q.stallCount ≤ 255

/-- The notice list within bounds (R187). -/
structure NoticesBounds (n : Notices) : Prop where
  depth : n.entries.length ≤ 32
  lost : n.lost ≤ 65535
  nodup : (n.entries.map fun e => (e.kind, e.subject)).Nodup
  repeats : ∀ e ∈ n.entries, 1 ≤ e.repeats ∧ e.repeats ≤ 255

/-- An arm's supervision counters within bounds (R97, R104). -/
structure SupervisionBounds (v : Supervision) : Prop where
  clampCount : v.clampCount ≤ 65535
  holdCount : v.holdCount ≤ 65535
  holdRun : v.holdRun ≤ 65535

/-- An arm's capture counters within bounds (R159). -/
structure CaptureBounds (c : Capture) : Prop where
  bounces : c.bounces ≤ 65535
  stucks : c.stucks ≤ 65535

/-- The blocks that the invariant reads, each within its bounds. -/
structure BlocksBounded (link : Link) (requests : List Request) (queue : Queue) (notices : Notices) (lateReplies : Nat)
    (supervision : PerArm Supervision) (capture : PerArm Capture) (head : PerArm Head) : Prop where
  link : LinkBounds link
  requests : requests.length ≤ 4
  queue : QueueBounds queue
  notices : NoticesBounds notices
  lateReplies : lateReplies ≤ 65535
  supervision : ∀ arm, SupervisionBounds (supervision.get arm)
  capture : ∀ arm, CaptureBounds (capture.get arm)
  head : ∀ arm, (head.get arm).failRun ≤ 255

/-- `State.boundsInv` block by block. -/
def State.Bounded (s : State) : Prop :=
  BlocksBounded s.link s.service.requests s.queue s.notices s.rack.lateReplies s.supervision s.capture s.head

theorem noticesDistinct_iff (l : List Notice) :
    noticesDistinct l = true ↔
      (l.map fun e => (e.kind, e.subject)).Nodup ∧ ∀ e ∈ l, 1 ≤ e.repeats ∧ e.repeats ≤ 255 := by
  simp [noticesDistinct]

theorem State.armCountersOk_iff (s : State) (arm : Arm) :
    s.armCountersOk arm = true ↔
      SupervisionBounds (s.supervision.get arm) ∧ CaptureBounds (s.capture.get arm) ∧ (s.head.get arm).failRun ≤ 255 := by
  simp only [State.armCountersOk, counterOk, Bool.and_eq_true, decide_eq_true_eq]
  exact ⟨fun ⟨⟨⟨⟨⟨cl, ho⟩, hr⟩, bo⟩, st⟩, fr⟩ => ⟨⟨cl, ho, hr⟩, ⟨bo, st⟩, fr⟩,
    fun ⟨⟨cl, ho, hr⟩, ⟨bo, st⟩, fr⟩ => ⟨⟨⟨⟨⟨cl, ho⟩, hr⟩, bo⟩, st⟩, fr⟩⟩

theorem Arm.forall_iff {P : Arm → Prop} : (∀ arm, P arm) ↔ P .a ∧ P .b :=
  ⟨fun h => ⟨h .a, h .b⟩, fun ⟨ha, hb⟩ arm => by cases arm; exacts [ha, hb]⟩

theorem State.bounded_iff (s : State) : s.boundsInv = true ↔ s.Bounded := by
  simp only [State.boundsInv, State.depthsOk, State.countersOk, Bool.and_eq_true, State.armCountersOk_iff, noticesDistinct_iff,
    decide_eq_true_eq, counterOk]
  constructor
  · rintro ⟨⟨⟨⟨⟨⟨⟨⟨⟨u, d⟩, r⟩, o⟩, on⟩, q⟩, c⟩, n⟩, ⟨⟨⟨⟨⟨⟨⟨bu, bd⟩, l⟩, ov⟩, lo⟩, st⟩, sa, ca, fa⟩, sb, cb, fb⟩⟩, nd, nr⟩
    exact ⟨⟨u, d, o, on, bu, bd⟩, r, ⟨q, c, ov, st⟩, ⟨n, lo, nd, nr⟩, l, Arm.forall_iff.2 ⟨sa, sb⟩, Arm.forall_iff.2 ⟨ca, cb⟩,
      Arm.forall_iff.2 ⟨fa, fb⟩⟩
  · rintro ⟨⟨u, d, o, on, bu, bd⟩, r, ⟨q, c, ov, st⟩, ⟨n, lo, nd, nr⟩, l, hs, hc, hf⟩
    exact ⟨⟨⟨⟨⟨⟨⟨⟨⟨u, d⟩, r⟩, o⟩, on⟩, q⟩, c⟩, n⟩,
      ⟨⟨⟨⟨⟨⟨⟨bu, bd⟩, l⟩, ov⟩, lo⟩, st⟩, hs .a, hc .a, hf .a⟩, hs .b, hc .b, hf .b⟩⟩, nd, nr⟩

/-! ### Counters -/

theorem addUpTo_le (limit n k : Nat) : addUpTo limit n k ≤ limit := Nat.min_le_left _ _

theorem bump16_le (n : Nat) : bump16 n ≤ 65535 := addUpTo_le _ _ _

theorem bump8_le (n : Nat) : bump8 n ≤ 255 := addUpTo_le _ _ _

theorem one_le_bump8 (n : Nat) : 1 ≤ bump8 n := by unfold bump8 addUpTo; omega

/-- What holds of every arm's value holds of every arm's after one is replaced by a value of which it holds. -/
theorem PerArm.forall_put {α : Type} {P : α → Prop} {p : PerArm α} {arm : Arm} {v : α} (h : ∀ x, P (p.get x)) (hv : P v) :
    ∀ x, P ((p.put arm v).get x) := by
  intro x
  by_cases e : x = arm
  · subst e; simpa using hv
  · simpa [PerArm.get_put_ne p v e] using h x

/-! ### The notice list -/

theorem NoticesBounds.enter {n : Notices} (h : NoticesBounds n) (k : NoticeKind) (j : Subject) (d : Nat) :
    NoticesBounds (n.enter k j d) := by
  rcases n.enter_cases k j d with e | e | ⟨hl, hn, e⟩ | e <;> rw [e]
  · exact h
  · refine ⟨by simpa using h.depth, h.lost, ?_, ?_⟩
    · convert h.nodup using 1
      simp only [List.map_map]
      exact List.map_congr_left fun x _ => by simp only [Function.comp]; split <;> rfl
    · intro x hx
      obtain ⟨y, hy, rfl⟩ := List.mem_map.1 hx
      split
      · exact ⟨one_le_bump8 _, bump8_le _⟩
      · exact h.repeats y hy
  · have fresh : (k, j) ∉ n.entries.map fun e => (e.kind, e.subject) := by
      intro hm
      obtain ⟨x, hx, he⟩ := List.mem_map.1 hm
      have := List.any_eq_false.1 hn x hx
      simp_all
    refine ⟨by simp; omega, h.lost, ?_, ?_⟩
    · rw [List.map_append, List.map_singleton]
      exact h.nodup.append (List.nodup_singleton _) (List.disjoint_singleton.2 fresh)
    · intro x hx
      rcases List.mem_append.1 hx with hx | hx
      · exact h.repeats x hx
      · rw [List.mem_singleton.1 hx]; simp
  · exact ⟨h.depth, bump16_le _, h.nodup, h.repeats⟩

/-- Entries that stay after some were taken away are still within bounds. -/
theorem NoticesBounds.sublist {n : Notices} (h : NoticesBounds n) {l : List Notice} (hl : l.Sublist n.entries) :
    NoticesBounds { n with entries := l } :=
  ⟨hl.length_le.trans h.depth, h.lost, h.nodup.sublist (hl.map _), fun e he => h.repeats e (hl.subset he)⟩

theorem takeClass_sublist (c n : Nat) (es : List Notice) : (takeClass c n es).2.Sublist es := by
  induction es generalizing n with
  | nil => cases n <;> simp [takeClass]
  | cons e es ih =>
    cases n with
    | zero => simp [takeClass]
    | succ n =>
      simp only [takeClass]
      split
      · exact (ih n).cons e
      · exact (ih (n + 1)).cons_cons e

end Sys2Proof.Machine
end

section
/-! Bounds kept by updates, thermal block, rack channel, sequencers, library and supervisor. -/

namespace Sys2Proof.Machine

/-! ### Updates of one block -/

section
variable {s : State} (h : s.Bounded)
include h

theorem State.Bounded.setLink {v : Link} (hv : LinkBounds v) : (s.setLink v).Bounded := { h with link := hv }

theorem State.Bounded.setQueue {v : Queue} (hv : QueueBounds v) : (s.setQueue v).Bounded := { h with queue := hv }

theorem State.Bounded.setNotices {v : Notices} (hv : NoticesBounds v) : (s.setNotices v).Bounded := { h with notices := hv }

theorem State.Bounded.setRack {v : Rack} (hv : v.lateReplies ≤ 65535) : (s.setRack v).Bounded := { h with lateReplies := hv }

theorem State.Bounded.setSupervision {arm : Arm} {v : Supervision} (hv : SupervisionBounds v) :
    (s.setSupervision arm v).Bounded :=
  { h with supervision := PerArm.forall_put h.supervision hv }

theorem State.Bounded.setCapture {arm : Arm} {v : Capture} (hv : CaptureBounds v) : (s.setCapture arm v).Bounded :=
  { h with capture := PerArm.forall_put h.capture hv }

theorem State.Bounded.setHead {arm : Arm} {v : Head} (hv : v.failRun ≤ 255) : (s.setHead arm v).Bounded :=
  { h with head := PerArm.forall_put (P := fun v : Head => v.failRun ≤ 255) h.head hv }

theorem State.Bounded.setSequencer {arm : Arm} {v : Sequencer} : (s.setSequencer arm v).Bounded := h

theorem State.Bounded.setLibrary {l : Table LibraryEntry} : State.Bounded { s with library := l } := h

theorem State.Bounded.setReport {r : PerArm (Option ProbeReport)} : State.Bounded { s with latestReport := r } := h

theorem State.Bounded.raise {k : NoticeKind} {j : Subject} {d : Nat} : (s.raise k j d).Bounded :=
  h.setNotices (h.notices.enter k j d)

theorem State.Bounded.setCurrentCycle {c : CycleNumber} : (s.setCurrentCycle c).Bounded :=
  h.setNotices ⟨h.notices.depth, h.notices.lost, h.notices.nodup, h.notices.repeats⟩

/-! ### Bad frames and the transmit queues -/

theorem State.Bounded.countBadFrame {p : Port} : (s.countBadFrame p).Bounded := by
  obtain ⟨u, d, o, n, bu, bd⟩ := h.link
  cases p
  · exact (h.setLink (v := { s.link with badU := bump16 s.link.badU }) ⟨u, d, o, n, bump16_le _, bd⟩).raise
  · exact (h.setLink (v := { s.link with badD := bump16 s.link.badD }) ⟨u, d, o, n, bu, bump16_le _⟩).raise

theorem State.Bounded.setTx {p : Port} {q : List TxFrame} (hq : q.length ≤ 8) : (s.setLink (s.link.setTx p q)).Bounded := by
  obtain ⟨u, d, o, n, bu, bd⟩ := h.link
  cases p
  · exact h.setLink ⟨hq, d, o, n, bu, bd⟩
  · exact h.setLink ⟨u, hq, o, n, bu, bd⟩

theorem State.Bounded.placeTx {p : Port} {t : TxFrame} : (s.placeTx p t).Bounded := by
  rcases s.placeTx_cases p t with ⟨_, e⟩ | ⟨hl, e⟩ <;> rw [e]
  · exact h
  · exact h.setTx (by simp; omega)

theorem State.Bounded.forward {p : Port} {t : TxFrame} : (s.forward p t).Bounded := by
  rcases s.forward_cases p t with ⟨_, e⟩ | ⟨hl, e⟩ <;> rw [e]
  · exact h.countBadFrame
  · exact h.setTx (by simp; omega)

/-! ### Thermal block -/

theorem State.Bounded.takeReading {c : Nat} {t : Int} : (takeReading s c t).Bounded := by
  unfold Machine.takeReading
  split
  · exact h
  · dsimp only
    split
    · split
      · exact State.Bounded.raise h
      · exact h
    · split
      · exact State.Bounded.raise h
      · exact h

/-! ### The rack channel and the sequencers' moves -/

omit h in
@[simp] theorem offerMessage_lateReplies (r : Rack) (arm : Arm) (c : PortCommand) (n : Nat) :
    (offerMessage r arm c n).lateReplies = r.lateReplies := by
  unfold offerMessage; split <;> rfl

omit h in
@[simp] theorem askRack_lateReplies (r : Rack) (arm : Arm) : (askRack r arm).1.lateReplies = r.lateReplies := by
  rcases askRack_cases r arm with ⟨_, e⟩ | ⟨_, _, _, _, e⟩ | ⟨_, e⟩ <;> rw [e]

omit h in
@[simp] theorem releaseHolder_lateReplies (r : Rack) (arm : Arm) : (releaseHolder r arm).1.lateReplies = r.lateReplies := by
  rcases releaseHolder_cases r arm with ⟨_, e⟩ | ⟨_, e⟩ <;> rw [e]

omit h in
@[simp] theorem withdrawRack_lateReplies (r : Rack) (arm : Arm) : (withdrawRack r arm).lateReplies = r.lateReplies := by
  unfold withdrawRack; split <;> rfl

theorem State.Bounded.offer {arm : Arm} {c : PortCommand} {n : Nat} : (offer s arm c n).Bounded :=
  h.setRack (by simpa using h.lateReplies)

theorem State.Bounded.startPhase {arm : Arm} {q : Sequencer} {st : SeqState} : (startPhase s arm q st).Bounded := h

theorem State.Bounded.enterOpening {arm : Arm} {st : SeqState} {n : Nat} : (enterOpening s arm st n).Bounded :=
  h.offer.startPhase

theorem State.Bounded.grantOpening {arm : Arm} : (grantOpening s arm).Bounded := by
  unfold Machine.grantOpening
  dsimp only
  split
  · split
    · exact h.enterOpening
    · exact h.enterOpening
    · exact h
  · exact h

theorem State.Bounded.releaseRack {arm : Arm} : (releaseRack s arm).Bounded := by
  have hr : (s.setRack (releaseHolder s.rack arm).1).Bounded := h.setRack (by simpa using h.lateReplies)
  unfold Machine.releaseRack
  dsimp only
  split
  · exact hr.grantOpening
  · exact hr

theorem State.Bounded.endChange {arm : Arm} : (endChange s arm).Bounded := State.Bounded.releaseRack h.setSequencer

theorem State.Bounded.completeChange {arm : Arm} : (completeChange s arm).Bounded :=
  h.setSequencer.raise.releaseRack

theorem State.Bounded.enterReclosing {arm : Arm} : (enterReclosing s arm).Bounded := by
  unfold Machine.enterReclosing
  dsimp only
  split
  · exact h.offer.setSequencer
  · exact h.endChange

theorem State.Bounded.enterClearing {arm : Arm} : (enterClearing s arm).Bounded := by
  unfold Machine.enterClearing
  dsimp only
  split
  · exact h.setSequencer
  · exact h.setSequencer.enterReclosing

theorem State.Bounded.wayBack {arm : Arm} : (wayBack s arm).Bounded := by
  unfold Machine.wayBack
  split
  · exact h.enterClearing
  · exact h.endChange

theorem State.Bounded.failPhase {arm : Arm} {c : FailureCause} : (failPhase s arm c).Bounded := by
  unfold Machine.failPhase
  dsimp only
  split
  · exact h.setSequencer.raise.setSequencer
  · exact h.setSequencer.raise.wayBack

theorem State.Bounded.failQueued {arm : Arm} {c : FailureCause} : (failQueued s arm c).Bounded :=
  (h.raise.setRack (by simpa using h.lateReplies)).setSequencer

theorem State.Bounded.failChange {arm : Arm} {c : FailureCause} : (failChange s arm c).Bounded := by
  unfold Machine.failChange
  split
  any_goals exact h
  · exact h.failQueued
  · exact h.failPhase

/-! ### Capture suspension, the library and the active probe records -/

theorem State.Bounded.suspendCapture {arm : Arm} : (suspendCapture s arm).Bounded := by
  unfold Machine.suspendCapture
  dsimp only
  split
  · exact h
  · refine h.setCapture ⟨?_, (h.capture arm).stucks⟩
    dsimp only
    split
    · exact bump16_le _
    · exact (h.capture arm).bounces

theorem State.Bounded.setActive {arm : Arm} {r : ActiveProbe} : (setActive s arm r).Bounded := by
  have ha : State.Bounded { s with active := s.active.put arm r } := h
  unfold Machine.setActive
  dsimp only
  split
  · split
    · exact ha
    · exact ha.suspendCapture
  · exact ha.suspendCapture

theorem State.Bounded.modifyEntry {i : Nat} {f : LibraryEntry → LibraryEntry} : (modifyEntry s i f).Bounded := by
  unfold Machine.modifyEntry
  split <;> exact h

theorem State.Bounded.setLocation {i : Nat} {l : Location} : (setLocation s i l).Bounded := h.modifyEntry

theorem State.Bounded.takeFromOther {arm : Arm} {i x : Nat} : (takeFromOther s arm i x).Bounded :=
  h.setLocation.setActive.raise.setActive

theorem State.Bounded.mountIdentity {arm : Arm} {x : Nat} : (mountIdentity s arm x).Bounded := by
  unfold Machine.mountIdentity
  split
  · split
    · exact h.takeFromOther
    · exact h.modifyEntry.setActive
  · exact h.setActive

theorem State.Bounded.loseOldProbe {arm : Arm} : (loseOldProbe s arm).Bounded := by
  unfold Machine.loseOldProbe
  split
  · exact h.setLocation.raise
  · exact h

theorem State.Bounded.mountChange {arm : Arm} {r : ProbeReport} : (mountChange s arm r).Bounded := by
  unfold Machine.mountChange
  split
  · unfold detachedMount
    split
    · exact h.setLocation.setActive.raise
    · exact h.setActive
    · exact h
  · exact h.loseOldProbe.mountIdentity.raise

theorem State.Bounded.writeLibrary {i : Nat} {e : Option LibraryEntry} : (writeLibrary s i e).Bounded := by
  unfold Machine.writeLibrary
  split
  · exact h
  · split
    · exact (h.setLibrary (l := Table.store s.library i _)).setActive
    · exact h

/-! ### Changes: acceptance, outcomes, reports -/

theorem State.Bounded.changeProbe {arm : Arm} {x : Nat} : (changeProbe s arm x).1.Bounded := by
  unfold Machine.changeProbe
  split
  · exact h
  · exact h.raise
  · unfold acceptChange
    dsimp only
    have hs {q : Sequencer} : (Machine.suspendCapture (s.setSequencer arm q) arm).Bounded := h.setSequencer.suspendCapture
    split
    · exact (hs.setRack (by simpa using hs.lateReplies)).grantOpening
    · exact hs.setRack (by simpa using hs.lateReplies)

theorem State.Bounded.abortChange {arm : Arm} : (abortChange s arm).1.Bounded := by
  unfold Machine.abortChange
  split
  · exact h
  · exact h.failChange

theorem State.Bounded.clearPortMark {arm : Arm} : (clearPortMark s arm).Bounded := h

theorem State.Bounded.openCorridor {arm : Arm} {st : SeqState} {k : NoticeKind} {n : Nat} :
    (openCorridor s arm st k n).Bounded := by
  unfold Machine.openCorridor
  split
  · exact h.failChange
  · exact h.startPhase.raise

theorem State.Bounded.judgeDrop {arm : Arm} {b : Bool} : (judgeDrop s arm b).Bounded := by
  unfold Machine.judgeDrop
  dsimp only
  split
  · exact h.setSequencer.modifyEntry
  · exact h.setSequencer

theorem State.Bounded.afterDrop {arm : Arm} : (afterDrop s arm).Bounded := by
  unfold Machine.afterDrop
  split
  · exact h.enterOpening
  · exact h.completeChange

theorem State.Bounded.judgeAfterFailure {arm : Arm} {n : Nat} {o : RackOutcome} : (judgeAfterFailure s arm n o).Bounded := by
  unfold Machine.judgeAfterFailure
  split
  · dsimp only
    split
    · split
      · exact h.judgeDrop
      · exact h.judgeDrop.raise
    · exact h
  · exact h

theorem State.Bounded.dropOpeningOutcome {arm : Arm} {n : Nat} {o : RackOutcome} : (dropOpeningOutcome s arm n o).Bounded := by
  unfold Machine.dropOpeningOutcome
  split
  · exact h.clearPortMark.failChange
  · exact h.failChange
  · exact h.openCorridor
  · exact h.failChange
  · exact h.failChange

theorem State.Bounded.pickOpeningOutcome {arm : Arm} {n : Nat} {o : RackOutcome} : (pickOpeningOutcome s arm n o).Bounded := by
  unfold Machine.pickOpeningOutcome
  split
  · exact h.clearPortMark.failChange
  · exact h.openCorridor
  · exact h.failChange
  · exact h.failChange
  · exact h.failChange

theorem State.Bounded.dropClosingOutcome {arm : Arm} {n : Nat} {o : RackOutcome} : (dropClosingOutcome s arm n o).Bounded := by
  unfold Machine.dropClosingOutcome
  dsimp only
  split
  · split
    · split
      · exact h.clearPortMark.judgeDrop.afterDrop
      · exact h.clearPortMark.judgeDrop.failChange
    · exact h.clearPortMark.afterDrop
  · split
    · split
      · exact h.judgeDrop.failChange
      · exact h.judgeDrop.failChange.raise
    · exact h.failChange
  · exact h.failChange
  · exact h.failChange

theorem State.Bounded.pickClosingOutcome {arm : Arm} {o : RackOutcome} : (pickClosingOutcome s arm o).Bounded := by
  unfold Machine.pickClosingOutcome
  split
  · exact h.clearPortMark.completeChange
  · exact h.failChange
  · exact h.failChange
  · exact h.failChange

theorem State.Bounded.windingOutcome {arm : Arm} {n : Nat} {o : RackOutcome} : (windingOutcome s arm n o).Bounded := by
  refine State.Bounded.wayBack (State.Bounded.judgeAfterFailure ?_)
  split
  · split
    · exact h.clearPortMark
    · exact h
  · exact h

theorem State.Bounded.reclosingOutcome {arm : Arm} {n : Nat} {o : RackOutcome} : (reclosingOutcome s arm n o).Bounded := by
  unfold Machine.reclosingOutcome
  dsimp only
  split
  · exact h.judgeAfterFailure.endChange
  · exact h.judgeAfterFailure.raise.endChange

theorem State.Bounded.takeOutcome {m : RackMessage} {o : RackOutcome} : (takeOutcome s m o).Bounded := by
  unfold Machine.takeOutcome
  split
  · exact h.dropOpeningOutcome
  · exact h.pickOpeningOutcome
  · exact h.dropClosingOutcome
  · exact h.pickClosingOutcome
  · exact h.windingOutcome
  · exact h.reclosingOutcome
  · exact h

theorem State.Bounded.takeReply {r : RackReply} : (takeReply s r).Bounded := by
  unfold Machine.takeReply
  split
  · exact (h.setRack (v := s.rack.endWait) h.lateReplies).takeOutcome
  · exact (h.setRack (bump16_le _)).raise

theorem State.Bounded.dropReleased {arm : Arm} {r : ProbeReport} : (dropReleased s arm r).Bounded := by
  unfold Machine.dropReleased
  dsimp only
  split
  · exact h.startPhase
  · split
    · exact h.setLocation.setActive.startPhase
    · exact h.mountChange.failChange
  · exact h.mountChange.failChange

theorem State.Bounded.wrongProbeUpdate {arm : Arm} {t x : Nat} : (wrongProbeUpdate s arm t x).Bounded :=
  h.modifyEntry.mountIdentity

theorem State.Bounded.pickAttached {arm : Arm} {x : Nat} : (pickAttached s arm x).Bounded := by
  unfold Machine.pickAttached
  dsimp only
  split
  · exact h
  · split
    · exact h.wrongProbeUpdate.failChange
    · split
      · split
        · exact h.takeFromOther.raise.failChange
        · exact h.setLocation.setActive.startPhase
      · exact h.wrongProbeUpdate.failChange

theorem State.Bounded.takeReport {arm : Arm} {r : ProbeReport} {b : Bool} : (takeReport s arm r b).Bounded := by
  unfold Machine.takeReport
  split
  · exact h
  · exact h.dropReleased
  · exact h
  · split
    · exact h
    · exact h.pickAttached
  · split
    · exact h
    · exact h.mountChange.failChange

theorem State.Bounded.libraryReport {arm : Arm} {r : ProbeReport} : (libraryReport s arm r).Bounded := by
  unfold Machine.libraryReport
  dsimp only
  split
  · split
    · exact h
    · exact h.mountChange
  · exact h.takeReport

theorem State.Bounded.toldStopped {arm : Arm} : (toldStopped s arm).Bounded := by
  unfold Machine.toldStopped
  split
  any_goals exact h.failChange
  exact h

theorem State.Bounded.leavingTest {arm : Arm} : (leavingTest s arm).Bounded := by
  unfold Machine.leavingTest
  split
  · unfold leaveCorridor
    dsimp only
    split
    · exact h.setSequencer.offer.startPhase
    · exact h.setSequencer.offer.startPhase
    · exact h.setSequencer.enterReclosing
    · exact h.setSequencer
  · exact h

theorem State.Bounded.reach {t : Nat} : (s.reach t).Bounded := h

theorem State.Bounded.phaseTimerExpires {arm : Arm} : (phaseTimerExpires s arm).Bounded := by
  unfold Machine.phaseTimerExpires
  split
  · exact h
  · split
    · exact h.reach.failChange
    · exact h

theorem State.Bounded.replyTimerExpires : (replyTimerExpires s).Bounded := by
  unfold Machine.replyTimerExpires
  split
  · exact (h.reach.setRack (v := s.rack.endWait) h.lateReplies).takeOutcome
  · exact h

/-! ### Motion supervisor -/

theorem State.Bounded.stopArm {arm : Arm} {c : StopCause} : (stopArm s arm c).Bounded := by
  have hv := h.supervision arm
  unfold Machine.stopArm
  dsimp only
  split
  · exact h
  · have stopped : (s.setSupervision arm { s.supervision.get arm with state := .stopped, cause := c }).Bounded :=
      h.setSupervision ⟨hv.clampCount, hv.holdCount, hv.holdRun⟩
    exact stopped.raise.toldStopped.suspendCapture

theorem State.Bounded.targetSlot {arm : Arm} {p : List Byte} : (targetSlot s arm p).1.Bounded := by
  unfold Machine.targetSlot
  dsimp only
  split
  · exact h
  · unfold supervisedTarget
    dsimp only
    have held {n : Nat} : (s.setSupervision arm (heldSupervision (s.supervision.get arm) n)).Bounded :=
      h.setSupervision ⟨addUpTo_le _ _ _, bump16_le _, bump16_le _⟩
    split
    · exact h.setSupervision ⟨addUpTo_le _ _ _, (h.supervision arm).holdCount, Nat.zero_le _⟩
    · split
      · exact held.stopArm
      · exact held
  · exact h

theorem State.Bounded.probeSlot {arm : Arm} {r : ProbeReport} : (probeSlot s arm r).Bounded := by
  have hl : (Machine.libraryReport { s with latestReport := s.latestReport.put arm (some r) } arm r).Bounded :=
    h.setReport.libraryReport
  have hv := hl.supervision arm
  have ho := hl.setSupervision (arm := arm) (v := { (Machine.libraryReport _ arm r).supervision.get arm with
    overtravel := some r.overtravel }) ⟨hv.clampCount, hv.holdCount, hv.holdRun⟩
  unfold Machine.probeSlot overtravelReport
  dsimp only
  split
  · exact ho.stopArm
  · exact ho

theorem State.Bounded.releaseArm {arm : Arm} : (releaseArm s arm).1.Bounded := by
  have hv := h.supervision arm
  unfold Machine.releaseArm
  dsimp only
  split; · exact h
  split; · exact h
  split; · exact h
  split; · exact h
  split
  · exact h.setSupervision ⟨hv.clampCount, hv.holdCount, Nat.zero_le _⟩
  · exact h

end

end Sys2Proof.Machine
end

section
/-! Bounds kept by correction, capture, delivery and the service block. -/

namespace Sys2Proof.Machine

section
variable {s : State} (h : s.Bounded)
include h

/-! ### Correction engine, capture queue, plan walker, capture engine -/

theorem State.Bounded.countFail {arm : Arm} : (countFail s arm).Bounded := by
  have hc : (s.setHead arm (failCycle (s.setup.scaleFailLimit.get arm) (s.head.get arm)).1).Bounded :=
    h.setHead (by unfold failCycle; dsimp only; split <;> exact bump8_le _)
  unfold Machine.countFail
  dsimp only
  split
  · exact hc.stopArm
  · exact hc

theorem State.Bounded.positionSlot {arm : Arm} {p : List Byte} : (positionSlot s arm p).Bounded := by
  have hr : (updateRecord s arm p).Bounded := h.setHead (h.head arm)
  unfold Machine.positionSlot
  dsimp only
  split
  · exact (hr.setHead (arm := arm) (v := endFailRun ((updateRecord s arm p).head.get arm)) (Nat.zero_le _)).leavingTest
  · exact hr.countFail

theorem State.Bounded.missingPosition {arm : Arm} {b : Bool} : (missingPosition s arm b).Bounded := by
  have hm : (s.setHead arm { s.head.get arm with record := missingRecord (s.head.get arm).record }).Bounded := h.setHead (h.head arm)
  unfold Machine.missingPosition
  split
  · exact h
  · exact hm.countFail

theorem State.Bounded.enqueueRecord {r : CaptureRecord} : (enqueueRecord s r).1.Bounded := by
  obtain ⟨hr, hc, ho, hs⟩ := h.queue
  rcases enqueueRecord_cases s r with ⟨hl, e⟩ | ⟨hl, e⟩ <;> rw [e]
  · have hq : (s.setQueue { s.queue with
        records := s.queue.records ++ [{ sequence := s.queue.nextSequence, record := r }],
        nextSequence := s.queue.nextSequence + 1 }).Bounded := h.setQueue ⟨by simp; omega, hc, ho, hs⟩
    unfold commitRecord
    dsimp only
    split
    · exact hq.raise
    · exact hq
  · exact (h.setQueue (v := { s.queue with records := markBack s.queue.records, overruns := bump16 s.queue.overruns })
      ⟨by simpa using hr, hc, bump16_le _, hs⟩).raise

theorem State.Bounded.setWalk {arm : Arm} {w : Walk} : (s.setWalk arm w).Bounded := h

theorem State.Bounded.setPlan {l : Table PlanEntry} : State.Bounded { s with plan := l } := h

theorem State.Bounded.matchRecord {arm : Arm} {i : Nat} {e : PlanEntry} {r : CaptureRecord} {n : Nat} :
    (matchRecord s arm i e r n).Bounded := by
  unfold Machine.matchRecord
  dsimp only
  split
  · exact h.setWalk.raise.enqueueRecord.setPlan
  · exact h.setWalk.enqueueRecord.setPlan

theorem State.Bounded.walkRecord {arm : Arm} {i : Nat} {r : CaptureRecord} {n : Nat} : (walkRecord s arm i r n).Bounded := by
  unfold Machine.walkRecord
  dsimp only
  split
  · exact h.setWalk.raise.enqueueRecord
  · split; · exact h.setWalk.raise.enqueueRecord
    split; · exact h.setWalk.raise.enqueueRecord
    split
    · exact h.matchRecord
    · exact h.enqueueRecord

theorem State.Bounded.handRecord {r : CaptureRecord} {n : Nat} : (handRecord s r n).Bounded := by
  unfold Machine.handRecord
  dsimp only
  split
  · exact h.walkRecord
  · exact h.enqueueRecord

theorem State.Bounded.commitTouch {arm : Arm} {l : TouchLatch} : (commitTouch s arm l).Bounded := by
  unfold Machine.commitTouch
  split
  · exact h.handRecord
  · exact h

theorem State.Bounded.commitStuck {arm : Arm} {c : CycleNumber} : (commitStuck s arm c).Bounded := by
  unfold Machine.commitStuck
  split
  · exact h.handRecord
  · exact h

theorem State.Bounded.enterRearming {arm : Arm} {c : Capture} (hc : CaptureBounds c) : (enterRearming s arm c).Bounded :=
  h.setCapture ⟨hc.bounces, hc.stucks⟩

theorem State.Bounded.leaveSuspended {arm : Arm} : (leaveSuspended s arm).Bounded := by
  unfold Machine.leaveSuspended
  dsimp only
  split
  · exact h.enterRearming ⟨(h.capture arm).bounces, (h.capture arm).stucks⟩
  · exact h

theorem State.Bounded.armedStep {arm : Arm} {r : ProbeReport} {c : CycleNumber} : (armedStep s arm r c).Bounded := by
  obtain ⟨hb, hs⟩ := h.capture arm
  unfold Machine.armedStep
  dsimp only
  split
  · split
    · exact (h.setCapture (v := { s.capture.get arm with state := .deflected, count := 0 }) ⟨hb, hs⟩).commitTouch
    · exact h.setCapture ⟨hb, hs⟩
  · exact h

theorem State.Bounded.bounceTouch {arm : Arm} : (bounceTouch s arm).Bounded :=
  h.setCapture ⟨bump16_le _, (h.capture arm).stucks⟩

theorem State.Bounded.confirmTouch {arm : Arm} : (confirmTouch s arm).Bounded := by
  obtain ⟨hb, hs⟩ := h.capture arm
  have hd : (s.setCapture arm { s.capture.get arm with state := .deflected, count := 0, latch := none }).Bounded :=
    h.setCapture ⟨hb, hs⟩
  unfold Machine.confirmTouch
  dsimp only
  split
  · split
    · exact hd.commitTouch
    · exact hd
  · exact h.setCapture ⟨hb, hs⟩

theorem State.Bounded.deflectedStep {arm : Arm} {r : ProbeReport} {c : CycleNumber} : (deflectedStep s arm r c).Bounded := by
  obtain ⟨hb, hs⟩ := h.capture arm
  unfold Machine.deflectedStep
  dsimp only
  split
  · split
    · exact (h.setCapture (arm := arm) (v := { s.capture.get arm with
        count := bump16 (s.capture.get arm).count, stuckCommitted := true, stucks := bump16 (s.capture.get arm).stucks })
        ⟨hb, bump16_le _⟩).commitStuck
    · exact h.setCapture ⟨hb, hs⟩
  · exact h.enterRearming ⟨hb, hs⟩

theorem State.Bounded.rearmingStep {arm : Arm} {r : ProbeReport} : (rearmingStep s arm r).Bounded := by
  obtain ⟨hb, hs⟩ := h.capture arm
  unfold Machine.rearmingStep
  dsimp only
  split
  · exact h.setCapture ⟨hb, hs⟩
  · split
    · exact h.setCapture ⟨hb, hs⟩
    · exact h.setCapture ⟨hb, hs⟩

theorem State.Bounded.captureStep {arm : Arm} {r : Option ProbeReport} {c : CycleNumber} : (captureStep s arm r c).Bounded := by
  unfold Machine.captureStep
  split
  · exact h.armedStep
  · split
    · exact h.confirmTouch
    · exact h.bounceTouch
  · exact h.bounceTouch
  · exact h.deflectedStep
  · exact h.rearmingStep
  · exact h

theorem State.Bounded.evaluateArm {arm : Arm} {r : Option ProbeReport} {c : CycleNumber} : (evaluateArm s arm r c).Bounded := by
  have hc : (Machine.captureStep (Machine.leaveSuspended s arm) arm r c).Bounded := h.leaveSuspended.captureStep
  exact hc.setCapture ⟨(hc.capture arm).bounces, (hc.capture arm).stucks⟩

/-! ### Delivery -/

theorem State.Bounded.writeReport {l : List Slot} : (writeReport s l).1.Bounded := by
  obtain ⟨hr, hc, ho, hs⟩ := h.queue
  unfold Machine.writeReport
  split
  · split
    · exact h.setQueue ⟨by simp [deliver]; omega, (Nat.sub_le _ _).trans hc, ho, hs⟩
    · exact h
  · exact h

theorem State.Bounded.judgeMissing {b : Bool} : (judgeMissing s b).Bounded := by
  obtain ⟨hr, hc, ho, hs⟩ := h.queue
  have hm {m : Bool} : (s.setQueue { s.queue with missingMark := m }).Bounded := h.setQueue ⟨hr, hc, ho, hs⟩
  unfold Machine.judgeMissing
  split
  · exact hm
  · split
    · exact h
    · exact hm.raise

theorem State.Bounded.judgeStall {n : Nat} : (judgeStall s n).Bounded := by
  obtain ⟨hr, hc, ho, hs⟩ := h.queue
  have hq {k : Nat} {m : Bool} (hk : k ≤ 255) : (s.setQueue { s.queue with stallCount := k, stallMark := m }).Bounded :=
    h.setQueue ⟨hr, hc, ho, hk⟩
  unfold Machine.judgeStall
  dsimp only
  split
  · exact hq (Nat.zero_le _)
  · split
    · split
      · exact (hq (bump8_le _)).raise
      · exact hq (bump8_le _)
    · exact hq (Nat.zero_le _)

theorem State.Bounded.finishForwarded {c : CycleNumber} {l : List Slot} : (finishForwarded s c l).Bounded :=
  h.writeReport.judgeMissing.judgeStall.forward

/-! ### Service block -/

theorem State.Bounded.setService {v : Service} (hv : v.requests.length ≤ 4) : (s.setService v).Bounded :=
  { h with requests := hv }

theorem State.Bounded.breakWindow : (breakWindow s).Bounded := h

theorem State.Bounded.openWindow {p : List Byte} : (openWindow s p).1.Bounded := by
  unfold Machine.openWindow
  split
  · dsimp only
    split <;> exact h
  · exact h

theorem State.Bounded.continueWindow {w : Window} : (continueWindow w s).1.Bounded := by
  unfold Machine.continueWindow
  split <;> exact h

theorem State.Bounded.readTable {p : List Byte} : (readTable s p).1.Bounded := by
  unfold Machine.readTable
  split
  · exact h
  · dsimp only
    split; · exact h
    split <;> exact h

theorem State.Bounded.writeEntry {i : Nat} {e : Entry} : (writeEntry s i e).Bounded := by
  cases e with
  | library l => exact h.writeLibrary
  | _ => exact h

theorem State.Bounded.placeEntry {held : Bool} {i : Nat} {e : Entry} : (placeEntry held s i e).Bounded := by
  unfold Machine.placeEntry
  split
  · exact h
  · exact h.writeEntry

omit h in
theorem State.Bounded.handleEntries {held : Bool} {k : Nat} {l : List (List Byte)} {d : DataRun} (h : d.state.Bounded) :
    (handleEntries held k l d).state.Bounded := by
  induction l generalizing k d with
  | nil => exact h
  | cons b bs ih =>
    unfold Machine.handleEntries
    split
    · exact ih h
    · split
      · exact h
      · exact ih h.placeEntry

theorem State.Bounded.dataInWindow {held : Bool} {w : WindowValues} {p : List Byte} : (dataInWindow held s w p).1.Bounded := by
  unfold Machine.dataInWindow
  split
  · exact h
  · dsimp only
    split; · exact h
    split; · exact h
    have hd {k : Nat} {l : List (List Byte)} : (Machine.handleEntries held k l (DataRun.start s w)).state.Bounded :=
      State.Bounded.handleEntries h
    exact hd.setService hd.requests

theorem State.Bounded.tableDataTaken {p : List Byte} : (tableDataTaken s p).1.Bounded := by
  unfold Machine.tableDataTaken
  split
  · exact h
  · split
    · split
      · exact h.dataInWindow
      · exact h.dataInWindow
    · exact h

theorem State.Bounded.readNotices {p : List Byte} : (readNotices s p).1.Bounded := by
  unfold Machine.readNotices
  dsimp only
  split
  · exact h.setNotices (h.notices.sublist (takeClass_sublist _ _ _))
  · exact h

theorem State.Bounded.setNoticeMask {p : List Byte} : (setNoticeMask s p).1.Bounded := by
  obtain ⟨hd, hl, hn, hr⟩ := h.notices
  unfold Machine.setNoticeMask
  dsimp only
  split
  · exact h
  · exact h.setNotices ⟨hd, hl, hn, hr⟩

theorem State.Bounded.clearCounters : (clearCounters s).Bounded where
  link := ⟨h.link.txU, h.link.txD, h.link.outstanding, h.link.nodup, Nat.zero_le _, Nat.zero_le _⟩
  requests := h.requests
  queue := ⟨h.queue.records, h.queue.credits, Nat.zero_le _, h.queue.stallCount⟩
  notices := ⟨h.notices.depth, Nat.zero_le _, h.notices.nodup, h.notices.repeats⟩
  lateReplies := Nat.zero_le _
  supervision := Arm.forall_iff.2
    ⟨⟨Nat.zero_le _, Nat.zero_le _, (h.supervision .a).holdRun⟩, ⟨Nat.zero_le _, Nat.zero_le _, (h.supervision .b).holdRun⟩⟩
  capture := Arm.forall_iff.2 ⟨⟨Nat.zero_le _, Nat.zero_le _⟩, ⟨Nat.zero_le _, Nat.zero_le _⟩⟩
  head := h.head

theorem State.Bounded.drawn : s.drawn.Bounded := h

theorem State.Bounded.readStatus {p : List Byte} : (readStatus s p).1.Bounded := by
  unfold Machine.readStatus
  split
  · exact h
  · dsimp only
    split
    · exact h.drawn.clearCounters
    · exact h

theorem State.Bounded.restartArm {arm : Arm} : (restartArm s arm).Bounded := by
  have hv : (s.setSupervision arm (restartSupervision (s.supervision.get arm))).Bounded :=
    h.setSupervision ⟨(h.supervision arm).clampCount, (h.supervision arm).holdCount, Nat.zero_le _⟩
  unfold Machine.restartArm
  dsimp only
  split
  · exact hv
  · exact hv.raise

theorem State.Bounded.restartRun : (restartRun s).Bounded := by
  have hn : (restartNotices s).Bounded := h.setNotices (h.notices.sublist (List.nil_sublist _))
  have hr : (Machine.restartArm (Machine.restartArm (restartNotices s) .a) .b).Bounded := hn.restartArm.restartArm
  exact
    { link := ⟨hr.link.txU, (List.length_map _).trans_le hr.link.txD, hr.link.outstanding, hr.link.nodup, hr.link.badU, hr.link.badD⟩
      requests := hr.requests
      queue := ⟨Nat.zero_le _, Nat.zero_le _, hr.queue.overruns, Nat.zero_le _⟩
      notices := hr.notices
      lateReplies := hr.lateReplies
      supervision := hr.supervision
      capture := Arm.forall_iff.2
        ⟨⟨(hr.capture .a).bounces, (hr.capture .a).stucks⟩, ⟨(hr.capture .b).bounces, (hr.capture .b).stucks⟩⟩
      head := Arm.forall_iff.2 ⟨Nat.zero_le _, Nat.zero_le _⟩ }

theorem State.Bounded.withArm {p : List Byte} {f : Arm → State × Answer} (hf : ∀ arm, (f arm).1.Bounded) :
    (withArm s p f).1.Bounded := by
  unfold Machine.withArm
  split
  · exact hf _
  · exact h

theorem State.Bounded.planStartRequest {p : List Byte} : (planStartRequest s p).1.Bounded := by
  refine h.withArm fun arm => ?_
  split
  · exact h
  · split
    · exact h
    · unfold planStart
      split <;> exact h

theorem State.Bounded.planResume {arm : Arm} : (planResume s arm).1.Bounded := by
  unfold Machine.planResume
  dsimp only
  split <;> exact h

omit h in
theorem uField_one_le (p : List Byte) (o : Nat) : uField p o 1 ≤ 255 := by
  unfold uField fieldBytes
  rcases p.drop o with _ | ⟨b, bs⟩
  · exact Nat.zero_le _
  · have := b.isLt
    simp [leNat]
    omega

theorem State.Bounded.setCredits {n : Nat} (hn : n ≤ 255) : (setCredits s n).Bounded :=
  h.setQueue ⟨h.queue.records, hn, h.queue.overruns, h.queue.stallCount⟩

omit h in
/-- Of two answers, whichever a test chooses. -/
theorem State.Bounded.answer_ite {c : Prop} [Decidable c] {x y : State × Answer} (hx : x.1.Bounded) (hy : y.1.Bounded) :
    (if c then x else y).1.Bounded := by
  split
  · exact hx
  · exact hy

open State.Bounded in
theorem State.Bounded.carryOutListed {w : Window} {c : Byte} {p : List Byte} : (carryOutListed w s c p).1.Bounded :=
  answer_ite h.openWindow <| answer_ite h.continueWindow <| answer_ite h.readTable <|
  answer_ite (h.withArm fun _ => h.changeProbe) <| answer_ite (h.withArm fun _ => h.abortChange) <|
  answer_ite (h.withArm fun _ => h.stopArm) <| answer_ite (h.withArm fun _ => h.releaseArm) <|
  answer_ite h.planStartRequest <| answer_ite (h.withArm fun _ => h.setWalk) <|
  answer_ite (h.withArm fun _ => h.planResume) <| answer_ite (h.setCredits (uField_one_le _ _)) <|
  answer_ite (h.setCredits (addUpTo_le _ _ _)) <| answer_ite h.readNotices <| answer_ite h.setNoticeMask <|
  answer_ite h.readStatus <| answer_ite h.restartRun h

theorem State.Bounded.carryOut {c : Byte} {p : List Byte} : (carryOut s c p).1.Bounded := by
  unfold Machine.carryOut
  split
  · exact h.breakWindow.carryOutListed
  · exact h.breakWindow

theorem State.Bounded.completeRequest {r : Request} : (completeRequest s r).Bounded := by
  unfold Machine.completeRequest
  split
  · dsimp only
    split
    · exact h.tableDataTaken.placeTx
    · exact h.tableDataTaken.setService h.tableDataTaken.requests
  · exact h.carryOut.placeTx

theorem State.Bounded.serveOldest : (serveOldest s).Bounded := by
  unfold Machine.serveOldest
  split
  · exact h
  · rename_i r rest e
    split
    · exact h
    · have hl : (r :: rest).length ≤ 4 := e ▸ h.requests
      exact (h.setService (v := { s.service with requests := rest }) (Nat.le_of_succ_le hl)).completeRequest

theorem State.Bounded.handOver {r : Request} : (handOver s r).Bounded := by
  unfold Machine.handOver
  split
  · exact h.placeTx
  · rename_i hf
    have hl : ¬ 4 ≤ s.service.requests.length := fun hl => hf (decide_eq_true hl)
    exact h.setService (by simp; omega)

theorem State.Bounded.arriveRequest {r : Request} : (arriveRequest s r).Bounded := by
  unfold Machine.arriveRequest
  split
  · unfold requestStep
    split; · exact h.completeRequest
    split
    · exact h.serveOldest
    · exact h.handOver
  · exact h.countBadFrame

theorem State.Bounded.takeRequest {r : Request} : (takeRequest s r).Bounded := by
  unfold Machine.takeRequest
  split
  · exact h.handOver
  · exact h.countBadFrame

/-- What every action of a list keeps, the whole list keeps. -/
theorem State.Bounded.foldl {α : Type} {f : State → α → State} (hf : ∀ {s : State} (_ : s.Bounded) (x : α), (f s x).Bounded)
    (l : List α) : (l.foldl f s).Bounded := by
  induction l generalizing s with
  | nil => exact h
  | cons x xs ih => exact ih (hf h x)

theorem State.Bounded.leaveProcessing : (leaveProcessing s).Bounded := by
  obtain ⟨u, d, o, n, bu, bd⟩ := h.link
  have hl : (s.setLink { s.link with returnInProcessing := false }).Bounded := h.setLink ⟨u, d, o, n, bu, bd⟩
  have hw : (writeDeferred (s.setLink { s.link with returnInProcessing := false })).Bounded :=
    have hf := hl.foldl (f := fun s (p : Nat × Entry) => Machine.writeEntry s p.1 p.2) (fun h _ => h.writeEntry) s.service.deferred
    hf.setService hl.requests
  unfold Machine.leaveProcessing releaseHeldReply
  split
  · exact hw
  · exact (hw.setService (v := { (writeDeferred _).service with heldReply := none }) hw.requests).placeTx

end

end Sys2Proof.Machine
end

section
/-! Bounds kept by the link, cycle frames, commands and the step. -/

namespace Sys2Proof.Machine

section
variable {s : State} (h : s.Bounded)
include h

/-! ### Rack messages and outbound frames -/

theorem State.Bounded.messageSent : (messageSent s).Bounded := by
  unfold Machine.messageSent
  split
  · split
    · exact h.setRack h.lateReplies
    · exact h
  · exact h

theorem State.Bounded.rackOutSlot {p : List Byte} : (rackOutSlot s p).1.Bounded := by
  unfold Machine.rackOutSlot
  split
  · split
    · exact h.setRack h.lateReplies
    · exact h
  · exact h

theorem State.Bounded.outSlot {f : State → Arm → List Byte → State × List Byte} {d : OutRun} {sl : Slot}
    (hf : ∀ {s : State} (_ : s.Bounded) (arm : Arm) (p : List Byte), (f s arm p).1.Bounded) : (outSlot f s d sl).1.Bounded := by
  unfold Machine.outSlot
  split
  · exact h
  · dsimp only
    split
    · split
      · exact hf h _ _
      · exact h.rackOutSlot
    · exact h

theorem State.Bounded.outSlots {f : State → Arm → List Byte → State × List Byte} {d : OutRun} {l : List Slot}
    (hf : ∀ {s : State} (_ : s.Bounded) (arm : Arm) (p : List Byte), (f s arm p).1.Bounded) : (outSlots f s d l).1.Bounded := by
  induction l generalizing s d with
  | nil => exact h
  | cons sl rest ih => exact ih (h.outSlot hf)

theorem State.Bounded.placeOut {f : CycleFrame} {l : List (RackTag × Nat)} : (placeOut s f l).Bounded := by
  obtain ⟨u, d, o, n, bu, bd⟩ := h.link
  have hl : (s.setLink { s.link with lastOutbound := some f.cycle }).Bounded := h.setLink ⟨u, d, o, n, bu, bd⟩
  unfold Machine.placeOut
  dsimp only
  split
  · split
    · exact hl.messageSent
    · exact hl
  · exact hl.placeTx

theorem State.Bounded.forwardOut {f : CycleFrame} {l : List (RackTag × Nat)} : (forwardOut s f l).Bounded := by
  unfold Machine.forwardOut
  split
  · exact h.countBadFrame.placeOut
  · exact h.placeOut

/-! ### Originated frames and the link watch -/

omit h in
/-- An entered number leaves the list with at most 16 numbers, each once. -/
theorem listNumber_bounds {l : List CycleNumber} (hn : l.Nodup) (c : CycleNumber) :
    (listNumber l c).length ≤ 16 ∧ (listNumber l c).Nodup := by
  refine ⟨by simp [listNumber, Config.outstandingDepth]; omega, ?_⟩
  refine List.Nodup.append ((hn.filter _).sublist (List.drop_sublist _ _)) (List.nodup_singleton c) ?_
  exact List.disjoint_singleton.2 fun hc => by simpa using (List.mem_filter.1 (List.mem_of_mem_drop hc)).2

theorem State.Bounded.setOrigination {t : Option Nat} : (s.setLink { s.link with originationTimer := t }).Bounded := by
  obtain ⟨u, d, o, n, bu, bd⟩ := h.link
  exact h.setLink ⟨u, d, o, n, bu, bd⟩

theorem State.Bounded.listed {c : CycleNumber} :
    (s.setLink { s.link with outstanding := listNumber s.link.outstanding c }).Bounded := by
  obtain ⟨u, d, o, n, bu, bd⟩ := h.link
  obtain ⟨hl, hn⟩ := listNumber_bounds n c
  exact h.setLink ⟨u, d, hl, hn, bu, bd⟩

theorem State.Bounded.originate : (originate s).Bounded := by
  unfold Machine.originate
  split
  · exact h
  · dsimp only
    have hp {t : CycleFrame} {c : CycleNumber} {f : CycleFrame} {l : List (RackTag × Nat)} :
        (Machine.placeOut (originatedSlots (s.setCurrentCycle c) t).1 f l).Bounded :=
      State.Bounded.placeOut (h.setCurrentCycle.outSlots fun h _ _ => h)
    split
    · exact hp
    · exact hp.listed

theorem State.Bounded.originateAndStart : (originateAndStart s).Bounded := h.originate.setOrigination

theorem State.Bounded.enterHalted : (enterHalted s).Bounded := by
  obtain ⟨u, d, o, n, bu, bd⟩ := h.link
  have hl : (s.setLink { s.link with watch := .halted, bridgeTimer := none }).Bounded := h.setLink ⟨u, d, o, n, bu, bd⟩
  exact hl.stopArm.stopArm

theorem State.Bounded.enterBridging : (enterBridging s).Bounded := by
  obtain ⟨u, d, o, n, bu, bd⟩ := h.link
  have hl : (s.setLink { s.link with watch := .bridging, bridgeTimer := s.after (s.setup.bridgeTime * 1000) }).Bounded :=
    h.setLink ⟨u, d, o, n, bu, bd⟩
  exact hl.originateAndStart

theorem State.Bounded.watchTimerExpires : (watchTimerExpires s).Bounded := by
  obtain ⟨u, d, o, n, bu, bd⟩ := h.link
  have hw {t : Nat} : ((s.reach t).setLink { s.link with watchTimer := none }).Bounded := h.reach.setLink ⟨u, d, o, n, bu, bd⟩
  have hm {t : Nat} : (((s.reach t).setLink { s.link with watchTimer := none }).setLink
      { s.link with watchTimer := none, lossMark := true }).Bounded := hw.setLink ⟨u, d, o, n, bu, bd⟩
  unfold Machine.watchTimerExpires
  split
  · exact h
  · dsimp only
    split
    · unfold loseController
      dsimp only
      split
      · exact hw.raise.enterHalted.originateAndStart
      · exact hw.raise.enterBridging
    · unfold loseWithoutTemplate
      split
      · exact hw
      · exact hm.raise

theorem State.Bounded.timerExpires {t : Timer} : (timerExpires s t).Bounded := by
  cases t with
  | watch => exact h.watchTimerExpires
  | origination =>
    change (originationTimerExpires s).Bounded
    unfold originationTimerExpires
    split
    · exact h
    · exact h.reach.originateAndStart
  | bridge =>
    change (bridgeTimerExpires s).Bounded
    unfold bridgeTimerExpires
    split
    · exact h
    · exact h.reach.enterHalted
  | reply => exact h.replyTimerExpires
  | phase arm => exact h.phaseTimerExpires

theorem State.Bounded.frameLeaves {p : Port} : (frameLeaves s p).Bounded := by
  have hd : ∀ p, (s.link.tx p).length ≤ 8 := fun p => by cases p; exacts [h.link.txU, h.link.txD]
  unfold Machine.frameLeaves
  split
  · exact h
  · rename_i t rest e
    have hl : (t :: rest).length ≤ 8 := e ▸ hd p
    have hr : (s.setLink (s.link.setTx p rest)).Bounded := h.setTx (Nat.le_of_succ_le hl)
    dsimp only
    split
    · exact hr.messageSent
    · exact hr

/-! ### Cycle frames -/

theorem State.Bounded.startOut {f : CycleFrame} : (startOut s f).1.Bounded := by
  obtain ⟨u, d, o, n, bu, bd⟩ := h.link
  have hw : (watchFrame s f).Bounded := h.setLink ⟨u, d, (List.length_filter_le _ _).trans o, n.filter _, bu, bd⟩
  exact hw.setCurrentCycle

theorem State.Bounded.startBack {f : CycleFrame} : (startBack s f).1.Bounded := by
  obtain ⟨u, d, o, n, bu, bd⟩ := h.link
  have hp : (s.setLink { s.link with
      returnInProcessing := true, outstanding := s.link.outstanding.filter (fun c => c != f.cycle) }).Bounded :=
    h.setLink ⟨u, d, (List.length_filter_le _ _).trans o, n.filter _, bu, bd⟩
  exact hp.setCurrentCycle

theorem State.Bounded.endOut {g : OutFrame} : (endOut s g).Bounded := h.forwardOut

theorem State.Bounded.finishOut {g : OutFrame} : (finishOut s g).Bounded :=
  State.Bounded.endOut (h.outSlots fun h _ _ => h.targetSlot)

theorem State.Bounded.handleOut {g : OutFrame} : (handleOut s g).1.Bounded := by
  unfold Machine.handleOut
  split
  · exact h.endOut
  · exact h.outSlot fun h _ _ => h.targetSlot

theorem State.Bounded.thermalSlot {hub : Nat} {p : List Byte} : (thermalSlot s hub p).Bounded := by
  refine h.foldl (fun h _ => ?_) _
  split
  · exact h.takeReading
  · exact h

theorem State.Bounded.backSlot {d : BackRun} {sl : Slot} : (backSlot s d sl).1.Bounded := by
  unfold Machine.backSlot
  split
  · exact h
  · dsimp only
    split
    · exact h
    · unfold handleBack
      split
      · split
        · exact h.thermalSlot
        · exact h
      · split
        · exact h.positionSlot
        · exact h
      · split
        · exact h.probeSlot
        · exact h
      · split
        · exact h.takeReply
        · exact h

theorem State.Bounded.backSlots {d : BackRun} {l : List Slot} : (backSlots s d l).1.Bounded := by
  induction l generalizing s d with
  | nil => exact h
  | cons sl rest ih => exact ih h.backSlot

theorem State.Bounded.setChannels {t : Table Channel} : State.Bounded { s with channels := t } := h

theorem State.Bounded.ageChannels {l : List Nat} : (ageChannels s l).Bounded :=
  h.setChannels.foldl (fun h _ => h.raise) _

theorem State.Bounded.endStage {d : BackRun} {c : CycleNumber} {g : EndStage} : (endStage d c s g).Bounded := by
  cases g with
  | ageing => exact h.ageChannels.missingPosition.missingPosition
  | capture arm => exact h.evaluateArm

theorem State.Bounded.endBack {b : BackFrame} : (endBack s b).Bounded := by
  refine State.Bounded.leaveProcessing ?_
  split
  · exact h.judgeStall
  · exact h.finishForwarded

theorem State.Bounded.handleReturn {b : BackFrame} : (handleReturn s b).1.Bounded := by
  unfold Machine.handleReturn
  split
  · exact h.backSlot
  · exact h.endStage
  · exact h.endBack

theorem State.Bounded.finishReturn {b : BackFrame} : (finishReturn s b).Bounded :=
  (h.backSlots.foldl (fun h _ => h.endStage) _).endBack

theorem State.Bounded.takeFrame {p : Port} {bytes : List Byte} : (takeFrame s p bytes).Bounded := by
  unfold Machine.takeFrame
  split
  · exact h.countBadFrame
  · exact h.countBadFrame.forward
  · exact h.countBadFrame.forward
  · unfold takeGood
    split
    · exact h.forward
    · split
      · exact h.startOut.finishOut
      · exact h.startBack.finishReturn
      · exact h.takeRequest
      · exact h

end

/-! ### The two receive sides -/

section
variable {m : Mid} (h : m.state.Bounded)
include h

theorem State.Bounded.midHandle {p : Port} : (m.handle p).state.Bounded := by
  unfold Mid.handle
  cases p <;> dsimp only <;> split
  · exact h
  · exact h.handleOut
  · exact h
  · exact h.handleReturn

theorem State.Bounded.midFinish {p : Port} : (m.finish p).state.Bounded := by
  unfold Mid.finish
  cases p <;> dsimp only <;> split
  · exact h
  · exact h.finishOut
  · exact h
  · exact h.finishReturn

theorem State.Bounded.midTakes {p : Port} {f : CycleFrame} : (m.takes p f).state.Bounded := by
  have hf : (m.finish p).state.Bounded := h.midFinish
  unfold Mid.takes
  dsimp only
  split
  · cases p
    · exact hf.startOut
    · exact hf.startBack
  · exact hf.takeFrame

theorem State.Bounded.midEvent {e : MidEvent} : (midEvent m e).state.Bounded := by
  cases e with
  | handOver tag code params => exact h.midFinish.takeRequest
  | serve => exact h.serveOldest
  | takes p f => exact h.midTakes
  | handles p => exact h.midHandle
  | bytes p frame => exact h.midFinish.takeFrame
  | discards p => exact h.midFinish.countBadFrame
  | expiry t => exact h.timerExpires
  | leaves p => exact h.frameLeaves

end

theorem State.Bounded.cycleFrameWith {s : State} (h : s.Bounded) {p : Port} {f : CycleFrame} {during : List Interleaved} :
    (cycleFrameWith p s f during).Bounded := by
  obtain ⟨m, hm, e⟩ := cycleFrameWith_keeps (P := fun m => m.state.Bounded) (during := during)
    (State.Bounded.midTakes (m := Mid.idle s) (p := p) (f := f) h) (fun _ _ _ h => h.midEvent) (fun _ h => h.midHandle)
    (fun _ _ h => h.midFinish)
  exact e ▸ hm

/-! ### Commands and the step -/

theorem State.reset_bounded : State.reset.Bounded := (State.bounded_iff _).1 (by decide)

section
variable {s : State} (h : s.Bounded)
include h

theorem State.Bounded.unlessReset {f : State → State} (hf : s.Bounded → (f s).Bounded) : (s.unlessReset f).Bounded := by
  unfold State.unlessReset
  split
  · exact h
  · exact hf h

theorem State.Bounded.idleStep : (idleStep s).Bounded := by
  rcases idleStep_cases s with ⟨_, e⟩ | ⟨_, _, e⟩ | ⟨_, _, _, e⟩ | ⟨_, _, _, e⟩ <;> rw [e]
  · exact h
  · exact h.serveOldest
  · exact h
  · exact h

/-- Every command keeps the bounds. -/
theorem State.Bounded.exec {c : Instr} {t : State} (ht : exec c s = .next t) : t.Bounded := by
  cases c <;> obtain rfl := Host.Outcome.next.inj ht
  case powerUp => exact State.reset_bounded
  case resetPin => exact State.reset_bounded
  case frameDiscarded => exact h.unlessReset fun h => h.countBadFrame
  case badCheckFrame => exact h.unlessReset fun h => h.takeFrame
  case notWellFormedFrame => exact h.unlessReset fun h => h.takeFrame
  case forwardUnchanged => exact h.unlessReset fun h => h.takeFrame
  case outboundCycleFrame => exact h.unlessReset fun h => h.cycleFrameWith
  case returnCycleFrame => exact h.unlessReset fun h => h.cycleFrameWith
  case serviceReqHandedOver => exact h.unlessReset fun h => h.takeRequest
  case frameLeavesPort => exact h.unlessReset fun h => h.frameLeaves
  case watchTimerExpiry => exact h.unlessReset fun h => h.timerExpires (t := .watch)
  case originationTimerExpiry => exact h.unlessReset fun h => h.timerExpires (t := .origination)
  case bridgeTimerExpiry => exact h.unlessReset fun h => h.timerExpires (t := .bridge)
  case replyTimerExpiry => exact h.unlessReset fun h => h.timerExpires (t := .reply)
  case phaseTimerExpiry => exact h.unlessReset fun h => h.phaseTimerExpires
  case resetEnd => exact h
  all_goals exact h.unlessReset fun h => h.arriveRequest

end

/-- Settles O57: the step is the front command or what the part does between commands, and each keeps the bounds block by block. -/
theorem stepKeepsBounds : Obligations.StepKeepsBounds := by
  intro s t h ht
  rw [State.bounded_iff] at h ⊢
  rcases step_cases ht with ⟨_, rfl⟩ | ⟨c, rest, _, he⟩
  · exact h.idleStep
  · have hr : State.Bounded { s with pending := rest } := h
    exact hr.exec he

end Sys2Proof.Machine
end

section
/-! Power, reset, and frames that reach no block: what a command that is not acted on leaves. -/

namespace Sys2Proof.Machine

/-! ### Power and reset -/

/-- Settles O3: every such command runs its action only while the pin is deasserted. -/
theorem heldInResetIgnoresCommands : Obligations.HeldInResetIgnoresCommands := by
  intro c s hpin hpower hreset hend
  cases c
  case powerUp => exact absurd rfl hpower
  case resetPin => exact absurd rfl hreset
  case resetEnd => exact absurd rfl hend
  all_goals exact congrArg Host.Outcome.next (State.unlessReset_held _ hpin)

/-- Settles O4: each of the three rows is its next state by definition. -/
theorem powerAndReset : Obligations.PowerAndReset := fun _ => ⟨rfl, rfl, rfl⟩

/-- Settles O5: the items of `State.reset`, for each arm. -/
theorem resetValues : Obligations.ResetValues := by
  refine ⟨rfl, rfl, rfl, rfl, rfl, rfl, rfl, rfl, rfl, rfl, rfl, rfl, rfl, rfl, rfl, rfl, rfl, rfl, rfl, rfl, rfl, rfl, rfl, rfl,
    rfl, rfl, ?_, rfl, rfl, rfl, rfl, rfl, rfl⟩
  intro arm
  cases arm <;> exact ⟨rfl, by decide, rfl, rfl, rfl, rfl, rfl, rfl, rfl, rfl⟩

/-! ### Frames that reach no block -/

theorem State.room_iff (s : State) (p : Port) : s.Room p ↔ (s.link.tx p).length < 8 := by cases p <;> exact Iff.rfl

theorem State.countBadFrame_eq_badFrameOn (s : State) (p : Port) : s.countBadFrame p = s.badFrameOn p := s.countBadFrame_eq p

/-- Counting a bad frame leaves both transmit queues. -/
@[simp] theorem State.badFrameOn_tx (s : State) (p q : Port) : (s.badFrameOn p).link.tx q = s.link.tx q := by
  cases p <;> cases q <;> rfl

theorem State.forward_of_room {s : State} {p : Port} (h : s.Room (otherPort p)) (t : TxFrame) :
    s.forward p t = s.sentOn (otherPort p) t := by
  rw [State.room_iff] at h
  rcases s.forward_cases p t with ⟨hl, _⟩ | ⟨_, e⟩
  · omega
  · rw [e]; cases p <;> rfl

theorem State.forward_of_full {s : State} {p : Port} (h : ¬ s.Room (otherPort p)) (t : TxFrame) :
    s.forward p t = s.badFrameOn p := by
  rw [State.room_iff] at h
  rcases s.forward_cases p t with ⟨_, e⟩ | ⟨hl, _⟩
  · rw [e, s.countBadFrame_eq_badFrameOn]
  · omega

theorem State.badFrameOn_room (s : State) (p q : Port) : (s.badFrameOn p).Room q ↔ s.Room q := by
  rw [State.room_iff, State.room_iff, State.badFrameOn_tx]

/-- A frame that is counted and forwarded as taken, with and without room for it (R4, R5, R6, R14). -/
theorem forwardBad_cases (s : State) (p : Port) (bytes : List Byte) :
    (s.Room (otherPort p) → forwardBad s p bytes = (s.badFrameOn p).sentOn (otherPort p) (.asTaken bytes)) ∧
    (¬ s.Room (otherPort p) → forwardBad s p bytes = (s.badFrameOn p).badFrameOn p) := by
  unfold forwardBad
  rw [s.countBadFrame_eq_badFrameOn]
  exact ⟨fun h => State.forward_of_room ((s.badFrameOn_room p _).2 h) _,
    fun h => State.forward_of_full (mt (s.badFrameOn_room p _).1 h) _⟩

/-- Settles O10: each row is `takeFrame` on bytes of its class, which is `forwardBad`. -/
theorem badFramesCounted : Obligations.BadFramesCounted := by
  intro s p bytes hpin
  obtain ⟨room, full⟩ := forwardBad_cases s p bytes
  have runs (c : Instr) (f : State → State) (hc : exec c s = .next (s.unlessReset f)) : exec c s = .next (f s) := by
    rw [hc, State.unlessReset_runs f hpin]
  refine ⟨?_, fun hb => ?_, fun hb => ?_⟩
  · rw [runs (.frameDiscarded p) _ rfl, s.countBadFrame_eq_badFrameOn]
  · have taken : takeFrame s p bytes = forwardBad s p bytes := by simp only [takeFrame, hb]
    rw [runs (.badCheckFrame p bytes) _ rfl, taken]
    exact ⟨fun h => by rw [room h], fun h => by rw [full h]⟩
  · have taken : takeFrame s p bytes = forwardBad s p bytes := by simp only [takeFrame, hb]
    rw [runs (.notWellFormedFrame p bytes) _ rfl, taken]
    exact ⟨fun h => by rw [room h], fun h => by rw [full h]⟩

theorem passesThrough_of_unchangedOn {p : Port} {f : Frame} (h : unchangedOn p f) : passesThrough p f = true := by
  cases p <;> cases f
  case u.cycleOut => exact h.elim
  case d.cycleBack => exact h.elim
  case u.serviceReq dest _ _ _ => exact bne_iff_ne.2 fun e => h (BitVec.eq_of_toNat_eq e)
  all_goals rfl

/-- Settles O11: such a frame passes through its port. -/
theorem goodFrameForwardedUnchanged : Obligations.GoodFrameForwardedUnchanged := by
  intro s p bytes f hpin hf hu
  have taken : exec (.forwardUnchanged p bytes) s = .next (s.forward p (.asTaken bytes)) := by
    change Host.Outcome.next (s.unlessReset _) = _
    rw [State.unlessReset_runs _ hpin]
    simp only [takeFrame, hf, takeGood, passesThrough_of_unchangedOn hu, if_true]
  exact ⟨fun h => by rw [taken, State.forward_of_room h], fun h => by rw [taken, State.forward_of_full h], rfl⟩

/-! ### A frame leaves a port -/

theorem messageSent_of_carried {s : State} {m : RackMessage} (hm : s.rack.message = some m) (hp : m.phase = .carried) :
    messageSent s =
      s.setRack { s.rack with message := some { m with phase := .sent }, replyTimer := some (s.now + s.setup.replyWait * 1000) } := by
  simp only [messageSent, hm, hp]; rfl

theorem messageSent_of_not_carried {s : State} (h : ∀ m, s.rack.message = some m → m.phase ≠ .carried) : messageSent s = s := by
  unfold messageSent
  split
  · rename_i m hm
    split
    · exact absurd ‹_› (h m hm)
    · rfl
  · rfl

/-- Settles O18: the queue's front is taken off, and `messageSent` acts for a frame that carries the message. -/
theorem frameLeavesPort : Obligations.FrameLeavesPort := by
  intro s p hpin
  have runs : exec (.frameLeavesPort p) s = .next (frameLeaves s p) :=
    congrArg Host.Outcome.next (State.unlessReset_runs _ hpin)
  rw [runs]
  refine ⟨fun he => by simp only [frameLeaves, he], fun t rest ht => ?_⟩
  have leaves : frameLeaves s p =
      if t.carriesMessage then messageSent (s.setLink (s.link.setTx p rest)) else s.setLink (s.link.setTx p rest) := by
    simp only [frameLeaves, ht]
  rw [leaves]
  refine ⟨fun hn => ?_, fun f n m hf hm hp => ?_, fun f n hf hm => ?_⟩
  · have : t.carriesMessage = false := by
      cases t with
      | out f c =>
        cases c with
        | none => rfl
        | some n => exact absurd rfl (hn f n)
      | _ => rfl
    rw [this]; rfl
  · subst hf
    have carries : (TxFrame.out f (some n)).carriesMessage = true := rfl
    rw [if_pos carries, messageSent_of_carried (s := s.setLink (s.link.setTx p rest)) hm hp]; rfl
  · subst hf
    have carries : (TxFrame.out f (some n)).carriesMessage = true := rfl
    rw [if_pos carries, messageSent_of_not_carried (by simpa using hm)]; rfl

end Sys2Proof.Machine
end

section
/-! Frames as bytes: what is sent is read back, and one inverted bit is found by the check (R3, R5). -/

namespace Sys2Proof.Machine

/-! ### Multi-byte fields -/

@[simp] theorem leBytes_length (n v : Nat) : (leBytes n v).length = n := by
  induction n generalizing v with
  | zero => rfl
  | succ n ih => simp [leBytes, ih]

theorem leNat_leBytes (n v : Nat) : leNat (leBytes n v) = v % 256 ^ n := by
  induction n generalizing v with
  | zero => simp [leBytes, leNat, Nat.mod_one]
  | succ n ih =>
    have split : v % (256 * 256 ^ n) = v % 256 + 256 * (v / 256 % 256 ^ n) := Nat.mod_mul
    rw [leBytes, leNat, ih, BitVec.toNat_ofNat, pow_succ' 256 n, split]

theorem leNat_lt (bs : List Byte) : leNat bs < 256 ^ bs.length := by
  induction bs with
  | nil => simp [leNat]
  | cons b bs ih =>
    have := b.isLt
    simp only [leNat, List.length_cons, pow_succ]
    omega

theorem leNat_leBytes_of_lt {n v : Nat} (h : v < 256 ^ n) : leNat (leBytes n v) = v := by
  rw [leNat_leBytes, Nat.mod_eq_of_lt h]

/-! ### The check -/

@[simp] theorem checkBytes_length (bs : List Byte) : (checkBytes bs).length = 2 := leBytes_length _ _

@[simp] theorem withCheck_length (bs : List Byte) : (withCheck bs).length = bs.length + 2 := by simp [withCheck]

theorem coveredBytes_append {bs check : List Byte} (h : check.length = 2) : coveredBytes (bs ++ check) = bs := by
  simp [coveredBytes, h]

/-- The check of bytes followed by two more is good when these are their check bytes. -/
theorem goodCheck_append {bs check : List Byte} (h : check.length = 2) :
    goodCheck (bs ++ check) = (check == checkBytes bs) := by
  simp [goodCheck, coveredBytes_append h, h]

theorem goodCheck_withCheck (bs : List Byte) : goodCheck (withCheck bs) = true := by
  simp [withCheck, goodCheck_append]

/-- A sent frame of a length that the part keeps is read as its covered bytes are (R2 to R5). -/
theorem classify_withCheck {body : List Byte} {f : Frame} (h1 : 1 ≤ body.length) (h2 : body.length + 2 ≤ 1536)
    (hf : parseBody body = some f) : classify (withCheck body) = .good f := by
  have hl : ¬ ((withCheck body).length > Config.maxFrameBytes ∨ (withCheck body).length < 3) := by
    rw [withCheck_length, Config.maxFrameBytes]; omega
  have hc : coveredBytes (withCheck body) = body := coveredBytes_append (checkBytes_length body)
  simp only [classify, hl, if_false, goodCheck_withCheck, if_true, hc, hf]

/-! ### Slots and cycle frames -/

theorem slotFits_iff (sl : Slot) : slotFits sl = true ↔ sl.payload.length % 4 = 0 ∧ sl.payload.length ≤ 1020 := by
  simp [slotFits]

theorem cycleFits_iff (f : CycleFrame) :
    cycleFits f = true ↔ 1 ≤ f.slots.length ∧ f.slots.length ≤ 40 ∧ (∀ sl ∈ f.slots, slotFits sl = true) ∧
      (cycleBytes 0x01 f).length + 2 ≤ 1536 := by
  simp only [cycleFits, Bool.and_eq_true, decide_eq_true_eq, List.all_eq_true, and_assoc]
  exact Iff.rfl

theorem byteOf_toNat {n : Nat} (h : n < 256) : (byteOf n).toNat = n := by simp [byteOf, Nat.mod_eq_of_lt h]

/-- Slots written one after another are read as these slots (R5). -/
theorem parseSlots_flatMap {slots : List Slot} (h : ∀ sl ∈ slots, slotFits sl = true) :
    parseSlots slots.length (slots.flatMap slotBytes) = some slots := by
  induction slots with
  | nil => rfl
  | cons sl rest ih =>
    obtain ⟨hm, hl⟩ := (slotFits_iff sl).1 (h sl (by simp))
    have hw : 4 * (byteOf (sl.payload.length / 4)).toNat = sl.payload.length := by rw [byteOf_toNat (by omega)]; omega
    have hr := ih fun x hx => h x (by simp [hx])
    simp [slotBytes, parseSlots, hw, hr]

theorem parseCycle_cycleBytes {kind : Byte} {f : CycleFrame} (h : cycleFits f = true) :
    parseCycle (cycleBytes kind f).tail = some f := by
  obtain ⟨h1, h40, hs, _⟩ := (cycleFits_iff f).1 h
  have hn : (byteOf f.slots.length).toNat = f.slots.length := byteOf_toNat (by omega)
  have hc : BitVec.ofNat 16 (leNat (leBytes 2 f.cycle.toNat)) = f.cycle := by
    rw [leNat_leBytes_of_lt (by have := f.cycle.isLt; omega)]; simp
  have hl : 1 ≤ f.slots.length ∧ f.slots.length ≤ Config.maxSlots := ⟨h1, h40⟩
  simp only [leBytes] at hc
  simp only [cycleBytes, leBytes, List.tail_cons, List.cons_append, List.nil_append, parseCycle, hn, hl, if_pos, and_self,
    parseSlots_flatMap hs, hc]

/-- A request's or a reply's length field reads as the length of what follows it (1.9). -/
theorem leNat_lengthField {bs : List Byte} (h : bs.length ≤ 1536) :
    leNat [BitVec.ofNat 8 bs.length, BitVec.ofNat 8 (bs.length / 256)] = bs.length :=
  leNat_leBytes_of_lt (n := 2) (by omega)

theorem parseBody_frameBody {f : Frame} (h : frameFits f = true) : parseBody (frameBody f) = some f := by
  cases f with
  | cycleOut f =>
    have hp := parseCycle_cycleBytes (kind := 0x01) h
    simp only [cycleBytes, List.tail_cons] at hp
    simp [frameBody, cycleBytes, parseBody, hp]
  | cycleBack f =>
    have hp := parseCycle_cycleBytes (kind := 0x02) h
    simp only [cycleBytes, List.tail_cons] at hp
    simp [frameBody, cycleBytes, parseBody, hp]
  | serviceReq dest tag code params =>
    have hl : params.length + 8 ≤ 1536 := of_decide_eq_true h
    simp [frameBody, parseBody, leBytes, leNat_lengthField (bs := params) (by omega)]
  | serviceRep source tag code outcome reason data =>
    have hl : data.length + 10 ≤ 1536 := of_decide_eq_true h
    simp [frameBody, parseBody, leBytes, leNat_lengthField (bs := data) (by omega)]

theorem frameBody_length {f : Frame} (h : frameFits f = true) : 1 ≤ (frameBody f).length ∧ (frameBody f).length + 2 ≤ 1536 := by
  cases f with
  | cycleOut f => exact ⟨by simp [frameBody, cycleBytes], ((cycleFits_iff f).1 h).2.2.2⟩
  | cycleBack f =>
    have hk : (cycleBytes 0x02 f).length = (cycleBytes 0x01 f).length := by simp [cycleBytes]
    exact ⟨by simp [frameBody, cycleBytes], by rw [frameBody, hk]; exact ((cycleFits_iff f).1 h).2.2.2⟩
  | serviceReq dest tag code params =>
    have hl : params.length + 8 ≤ 1536 := of_decide_eq_true h
    simp [frameBody]; omega
  | serviceRep source tag code outcome reason data =>
    have hl : data.length + 10 ≤ 1536 := of_decide_eq_true h
    simp [frameBody]; omega

/-- Settles O6: the check is good, the covered bytes are those of the frame, and reading them gives it back. -/
theorem frameRoundTrip : Obligations.FrameRoundTrip := fun _ h =>
  classify_withCheck (frameBody_length h).1 (frameBody_length h).2 (parseBody_frameBody h)

/-! ### One inverted bit -/

/-- One bit of the check is a one-to-one map: bit 0 of the result is the bit that was shifted out. -/
theorem crcBit_injective : Function.Injective crcBit := by
  intro c d h
  have hbit (i : Nat) : (crcBit c).getLsbD i = (crcBit d).getLsbD i := by rw [h]
  have hmsb : c.msb = d.msb := by
    have h0 := hbit 0
    unfold crcBit at h0
    cases hc : c.msb <;> cases hd : d.msb <;> simp [hc, hd] at h0 ⊢
  have hshift : c <<< 1 = d <<< 1 := by
    unfold crcBit at h
    rw [hmsb] at h
    split at h
    · exact (BitVec.xor_left_inj _).1 h
    · exact h
  refine BitVec.eq_of_getElem_eq fun i hi => ?_
  by_cases h15 : i = 15
  · subst h15; simpa [BitVec.msb_eq_getLsbD_last] using hmsb
  · have := congrArg (fun x => x.getLsbD (i + 1)) hshift
    simpa [BitVec.getLsbD_shiftLeft, show i + 1 < 16 by omega, hi] using this

theorem crcByte_left_injective (b : Byte) : Function.Injective (fun c => crcByte c b) := by
  intro c d h
  simp only [crcByte, crcBit_injective.eq_iff] at h
  exact (BitVec.xor_left_inj _).1 h

theorem crcByte_right_injective (c : BitVec 16) : Function.Injective (crcByte c) := by
  intro b d h
  simp only [crcByte, crcBit_injective.eq_iff] at h
  have hs : b.zeroExtend 16 <<< 8 = d.zeroExtend 16 <<< 8 := (BitVec.xor_right_inj _).1 h
  refine BitVec.eq_of_getElem_eq fun i hi => ?_
  have := congrArg (fun x => x.getLsbD (i + 8)) hs
  simpa [BitVec.getLsbD_shiftLeft, show i + 8 < 16 by omega, show i < 16 by omega, hi] using this

/-- What follows keeps two different checks different. -/
theorem foldl_crcByte_injective (bs : List Byte) : Function.Injective (fun c => bs.foldl crcByte c) := by
  induction bs with
  | nil => exact fun _ _ h => h
  | cons b bs ih => exact fun c d h => crcByte_left_injective b (ih h)

/-- One changed byte changes the check. -/
theorem crc_ne_of_byte_ne (pre post : List Byte) {b d : Byte} (h : b ≠ d) : crc (pre ++ b :: post) ≠ crc (pre ++ d :: post) := by
  intro e
  simp only [crc, List.foldl_append, List.foldl_cons] at e
  exact h (crcByte_right_injective _ (foldl_crcByte_injective post e))

theorem checkBytes_injective {bs ds : List Byte} (h : checkBytes bs = checkBytes ds) : crc bs = crc ds := by
  have hn := congrArg leNat h
  have hb := (crc bs).isLt
  have hd := (crc ds).isLt
  simp only [checkBytes] at hn
  rw [leNat_leBytes_of_lt (by omega), leNat_leBytes_of_lt (by omega)] at hn
  exact BitVec.eq_of_toNat_eq hn

/-- A byte with one bit inverted. -/
def invertBit (b : Byte) (k : Nat) : Byte := b ^^^ (1 <<< k)

theorem invertBit_ne (b : Byte) {k : Nat} (hk : k < 8) : invertBit b k ≠ b := by
  intro e
  have hb : (invertBit b k).getLsbD k = !b.getLsbD k := by
    simp only [invertBit, BitVec.natCast_eq_ofNat, BitVec.getLsbD_xor, BitVec.getLsbD_ofNat]
    simp [Nat.testBit_shiftLeft, hk]
  rw [e] at hb
  exact (Bool.eq_not_self _).1 hb

/-- Inverting a bit of a list replaces the byte at that place. -/
theorem flipBit_append (pre post : List Byte) (b : Byte) (k : Nat) :
    flipBit (pre ++ b :: post) pre.length k = pre ++ invertBit b k :: post := by
  have h : pre.length < (pre ++ b :: post).length := by simp
  simp [flipBit, invertBit, List.modify_eq_take_cons_drop h]

/-- A list at a place of it. -/
theorem exists_split_at {l : List Byte} {i : Nat} (h : i < l.length) : ∃ pre b post, l = pre ++ b :: post ∧ pre.length = i :=
  ⟨l.take i, l[i], l.drop (i + 1), by simp, List.length_take_of_le (Nat.le_of_lt h)⟩

/-- An inverted bit leaves a check that is not good, wherever it falls (R3). -/
theorem goodCheck_flipBit (body : List Byte) {i k : Nat} (hi : i < body.length + 2) (hk : k < 8) :
    goodCheck (flipBit (withCheck body) i k) = false := by
  by_cases hb : i < body.length
  · obtain ⟨pre, b, post, rfl, rfl⟩ := exists_split_at hb
    have hf : flipBit (withCheck (pre ++ b :: post)) pre.length k = (pre ++ invertBit b k :: post) ++ checkBytes (pre ++ b :: post) := by
      rw [withCheck, List.append_assoc, List.cons_append, flipBit_append, ← List.cons_append, ← List.append_assoc]
    rw [hf, goodCheck_append (checkBytes_length _), beq_eq_false_iff_ne]
    exact fun e => crc_ne_of_byte_ne pre post (invertBit_ne b hk).symm (checkBytes_injective e)
  · obtain ⟨pre, b, post, hs, hp⟩ := exists_split_at (l := checkBytes body) (i := i - body.length) (by simp; omega)
    have hl : (pre ++ invertBit b k :: post).length = 2 := by
      have := congrArg List.length hs
      simpa using this.symm
    have hf : flipBit (withCheck body) i k = body ++ (pre ++ invertBit b k :: post) := by
      have hi : i = (body ++ pre).length := by simp; omega
      rw [withCheck, hs, ← List.append_assoc, hi, flipBit_append, List.append_assoc]
    rw [hf, goodCheck_append hl, beq_eq_false_iff_ne, hs]
    simpa using invertBit_ne b hk

/-- Settles O7: the length is one the part keeps, and the check is not good. -/
theorem singleBitErrorIsBadCheck : Obligations.SingleBitErrorIsBadCheck := by
  intro body h1 h2 i k hi hk
  have hlen : (flipBit (withCheck body) i k).length = body.length + 2 := by simp [flipBit]
  have hl : ¬ ((flipBit (withCheck body) i k).length > Config.maxFrameBytes ∨ (flipBit (withCheck body) i k).length < 3) := by
    rw [hlen, Config.maxFrameBytes]; omega
  rw [classify, if_neg hl, if_neg (by simp [goodCheck_flipBit body hi hk])]

end Sys2Proof.Machine
end

section
/-! Table entries as TABLE READ carries them are read back as the same entries (R17, R46, R62, R64). Every field of a read entry was cut
from the bytes that were read, so its width holds it; the carried bytes hold it at the same offset, by definition. -/

namespace Sys2Proof.Machine

/-! ### Fields of any entry -/

theorem uField_lt (b : List Byte) (o w : Nat) : uField b o w < 256 ^ w := by
  have hl : (fieldBytes b o w).length ≤ w := by simp [fieldBytes]
  exact (leNat_lt _).trans_le (Nat.pow_le_pow_right (by decide) hl)

/-- An unsigned field, carried in its width, is read back. -/
theorem leNat_leBytes_uField (b : List Byte) (o w : Nat) : leNat (leBytes w (uField b o w)) = uField b o w :=
  leNat_leBytes_of_lt (uField_lt b o w)

theorem signedOf_emod {w u : Nat} (h : u < 256 ^ w) : (signedOf w u % 2 ^ (8 * w)).toNat = u := by
  have hp : (256 : Nat) ^ w = 2 ^ (8 * w) := by rw [pow_mul]; norm_num
  have hu : (u : Int) < 2 ^ (8 * w) := by exact_mod_cast hp ▸ h
  have hm : signedOf w u % 2 ^ (8 * w) = u := by
    unfold signedOf
    split
    · exact Int.emod_eq_of_lt (by omega) hu
    · rw [Int.sub_emod_right]
      exact Int.emod_eq_of_lt (by omega) hu
  rw [hm, Int.toNat_natCast]

/-- A signed field, carried in its width, is read back. -/
theorem signedOf_leIntBytes_sField (b : List Byte) (o w : Nat) : signedOf w (leNat (leIntBytes w (sField b o w))) = sField b o w := by
  rw [leIntBytes, sField, signedOf_emod (uField_lt b o w), leNat_leBytes_uField]

/-- An optional byte field that was read: its present byte and, where it is present, its value are carried. -/
theorem optionalOf_uField {b : List Byte} {o o' : Nat} {v : Option Nat} (h : optionalOf (uField b o 1) (uField b o' 1) = some v) :
    v = none ∨ v = some (uField b o' 1) := by
  unfold optionalOf at h
  split at h
  · exact .inl (Option.some.inj h).symm
  · exact .inr (Option.some.inj h).symm
  · cases h

/-- Bytes cut into segments: a field that is a segment of its own. -/
theorem fieldBytes_segments {segments : List (List Byte)} (pad : List Byte) {widths : List Nat} {k o w : Nat} {seg : List Byte}
    (hs : segments.map List.length = widths) (ho : (widths.take k).sum = o) (hk : segments[k]? = some seg) (hw : seg.length = w) :
    fieldBytes (segments.flatten ++ pad) o w = seg := by
  induction segments generalizing k o widths with
  | nil => simp at hk
  | cons first rest ih =>
    subst hs
    cases k with
    | zero =>
      obtain rfl : first = seg := by simpa using hk
      obtain rfl : o = 0 := by simpa using ho.symm
      simp [fieldBytes, ← hw]
    | succ k =>
      obtain rfl : o = first.length + ((rest.map List.length).take k).sum := by simpa using ho.symm
      have := ih rfl rfl (by simpa using hk)
      rw [List.flatten_cons, List.append_assoc, fieldBytes, List.drop_length_add_append]
      exact this

/-- An unsigned field cut from other bytes, carried in a segment. -/
theorem uField_segments {segments : List (List Byte)} {pad b : List Byte} {widths : List Nat}
    (hs : segments.map List.length = widths) (k o w : Nat) (ho : (widths.take k).sum = o)
    (hk : segments[k]? = some (leBytes w (uField b o w))) : uField (segments.flatten ++ pad) o w = uField b o w := by
  rw [uField, fieldBytes_segments pad hs ho hk (leBytes_length _ _), leNat_leBytes_uField]

/-- A signed field cut from other bytes, carried in a segment. -/
theorem sField_segments {segments : List (List Byte)} {pad b : List Byte} {widths : List Nat}
    (hs : segments.map List.length = widths) (k o w : Nat) (ho : (widths.take k).sum = o)
    (hk : segments[k]? = some (leIntBytes w (sField b o w))) : sField (segments.flatten ++ pad) o w = sField b o w := by
  rw [sField, uField, fieldBytes_segments pad hs ho hk (leBytes_length _ _), signedOf_leIntBytes_sField]

/-- A byte carried in a segment. -/
theorem uField_byte {segments : List (List Byte)} {pad : List Byte} {widths : List Nat}
    (hs : segments.map List.length = widths) (k o : Nat) {x : Byte} (ho : (widths.take k).sum = o)
    (hk : segments[k]? = some [x]) : uField (segments.flatten ++ pad) o 1 = x.toNat := by
  rw [uField, fieldBytes_segments (w := 1) pad hs ho hk rfl]
  simp [leNat]

/-! ### SETUP -/

/-- The SETUP record that bytes spell, but for its hubs and signs. -/
def setupFrom (b : List Byte) (hubs : Hubs) (signB : Triple Sign) : Setup :=
  { armNode := ⟨uField b 0 1, uField b 1 1⟩, headNode := ⟨uField b 2 1, uField b 3 1⟩, rackNode := uField b 4 1,
    hubs := hubs, cyclePeriod := uField b 13 2, watchTime := uField b 15 1, bridgeTime := uField b 16 2,
    scaleFailLimit := ⟨uField b 18 1, uField b 19 1⟩, holdLimit := ⟨uField b 20 1, uField b 21 1⟩,
    offsetB := ⟨sField b 22 5, sField b 27 5, sField b 32 5⟩, signB := signB, headRadius := uField b 40 2,
    unknownEnvelope := uField b 42 2, margin := uField b 44 2, replyWait := uField b 46 2, phaseLimit := uField b 48 2,
    capture := ⟨readCaptureSetup b 50, readCaptureSetup b 73⟩, captureLevel := uField b 96 1, stallCycles := uField b 97 1 }

/-- The hubs and signs that bytes spell. -/
structure HubsAndSignsRead (b : List Byte) (hubs : Hubs) (signB : Triple Sign) : Prop where
  h0 : readHub b 5 = some hubs.h0
  h1 : readHub b 7 = some hubs.h1
  h2 : readHub b 9 = some hubs.h2
  h3 : readHub b 11 = some hubs.h3
  x : signOf (uField b 37 1) = some signB.x
  y : signOf (uField b 38 1) = some signB.y
  z : signOf (uField b 39 1) = some signB.z

/-- All that reading a SETUP entry asks. -/
theorem readSetup_ok_iff {b : List Byte} {e : Setup} :
    readSetup b = .ok e ↔
      HubsAndSignsRead b e.hubs e.signB ∧ setupFrom b e.hubs e.signB = e ∧ setupFieldsOk e = true ∧
        allDistinct (setupAddresses e) = true := by
  constructor
  · intro h
    unfold readSetup at h
    split at h
    · dsimp only at h
      split at h
      · cases h
      · split at h
        · cases h
        · obtain rfl := Except.ok.inj h
          exact ⟨⟨by assumption, by assumption, by assumption, by assumption, by assumption, by assumption, by assumption⟩, rfl,
            by simpa using ‹¬ (!setupFieldsOk _) = true›, by simpa using ‹¬ (!allDistinct _) = true›⟩
    · cases h
  · rintro ⟨⟨h0, h1, h2, h3, hx, hy, hz⟩, he, hf, hd⟩
    unfold readSetup
    simp only [h0, h1, h2, h3, hx, hy, hz]
    change (if !setupFieldsOk (setupFrom b e.hubs e.signB) then Except.error Reason.field
      else if !allDistinct (setupAddresses (setupFrom b e.hubs e.signB)) then .error .entry
      else .ok (setupFrom b e.hubs e.signB)) = .ok e
    simp [he, hf, hd]

/-- The present byte of a hub field, and its value byte. -/
theorem hubBytes_eq (fill : Nat → Byte) (o : Nat) (h : Option Nat) :
    hubBytes fill o h = [markByte h.isSome, (h.map byteOf).getD (fill (o + 1))] := by
  cases h <;> rfl

/-- The SETUP entry field by field. -/
def setupSegments (fill : Nat → Byte) (e : Setup) : List (List Byte) :=
  [[byteOf e.armNode.a], [byteOf e.armNode.b], [byteOf e.headNode.a], [byteOf e.headNode.b], [byteOf e.rackNode],
    [markByte e.hubs.h0.isSome], [(e.hubs.h0.map byteOf).getD (fill 6)], [markByte e.hubs.h1.isSome],
    [(e.hubs.h1.map byteOf).getD (fill 8)], [markByte e.hubs.h2.isSome], [(e.hubs.h2.map byteOf).getD (fill 10)],
    [markByte e.hubs.h3.isSome], [(e.hubs.h3.map byteOf).getD (fill 12)], leBytes 2 e.cyclePeriod, [byteOf e.watchTime],
    leBytes 2 e.bridgeTime, [byteOf e.scaleFailLimit.a], [byteOf e.scaleFailLimit.b], [byteOf e.holdLimit.a],
    [byteOf e.holdLimit.b], leIntBytes 5 e.offsetB.x, leIntBytes 5 e.offsetB.y, leIntBytes 5 e.offsetB.z, [signByte e.signB.x],
    [signByte e.signB.y], [signByte e.signB.z], leBytes 2 e.headRadius, leBytes 2 e.unknownEnvelope, leBytes 2 e.margin,
    leBytes 2 e.replyWait, leBytes 2 e.phaseLimit]
    ++ captureSegments e.capture.a ++ captureSegments e.capture.b ++ [[byteOf e.captureLevel], [byteOf e.stallCycles]]
where
  /-- The capture fields of an arm. -/
  captureSegments (c : CaptureSetup) : List (List Byte) :=
    [[byteOf c.debounce], [byteOf c.rearm], leBytes 2 c.stuckLimit, leBytes 2 c.speedLimit, leIntBytes 5 c.datum.x,
      leIntBytes 5 c.datum.y, leIntBytes 5 c.datum.z, leIntBytes 2 c.coefficient]

/-- The widths of the SETUP fields (R17). -/
def setupWidths : List Nat :=
  List.replicate 13 1 ++ [2, 1, 2, 1, 1, 1, 1, 5, 5, 5, 1, 1, 1, 2, 2, 2, 2, 2] ++ [1, 1, 2, 2, 5, 5, 5, 2] ++ [1, 1, 2, 2, 5, 5, 5, 2]
    ++ [1, 1]

@[simp] theorem leIntBytes_length (n : Nat) (v : Int) : (leIntBytes n v).length = n := leBytes_length _ _

theorem setupSegments_widths (fill : Nat → Byte) (e : Setup) : (setupSegments fill e).map List.length = setupWidths := by
  simp [setupSegments, setupSegments.captureSegments, setupWidths]

theorem setupBytes_eq (fill : Nat → Byte) (e : Setup) : ∃ pad, setupBytes fill e = (setupSegments fill e).flatten ++ pad := by
  refine ⟨_, congrArg₂ (· ++ ·) ?_ rfl⟩
  simp [setupSegments, setupSegments.captureSegments, captureSetupBytes, tripleBytes, hubBytes_eq]

/-- A hub field that was read is read back from its two bytes. -/
theorem readHub_segments {segments : List (List Byte)} {pad b : List Byte} {widths : List Nat} {h : Option Nat} {fill : Byte}
    (hs : segments.map List.length = widths) (k o : Nat) (hr : readHub b o = some h) (ho : (widths.take k).sum = o)
    (ho' : (widths.take (k + 1)).sum = o + 1) (hm : segments[k]? = some [markByte h.isSome])
    (hv : segments[k + 1]? = some [(h.map byteOf).getD fill]) : readHub (segments.flatten ++ pad) o = some h := by
  rw [readHub, uField_byte hs k o ho hm, uField_byte hs (k + 1) (o + 1) ho' hv]
  rcases optionalOf_uField hr with rfl | rfl
  · rfl
  · exact congrArg (fun v => some (some v)) (byteOf_toNat (uField_lt b (o + 1) 1))

theorem signOf_signByte (s : Sign) : signOf (signByte s).toNat = some s := by cases s <;> rfl

theorem hubsAndSignsRead_setupBytes {b : List Byte} {e : Setup} (fill : Nat → Byte) (h : HubsAndSignsRead b e.hubs e.signB) :
    HubsAndSignsRead (setupBytes fill e) e.hubs e.signB := by
  obtain ⟨pad, hb⟩ := setupBytes_eq fill e
  have hs := setupSegments_widths fill e
  have sign (k o : Nat) (s : Sign) (ho : (setupWidths.take k).sum = o) (hk : (setupSegments fill e)[k]? = some [signByte s]) :
      signOf (uField ((setupSegments fill e).flatten ++ pad) o 1) = some s := by rw [uField_byte hs k o ho hk, signOf_signByte]
  rw [hb]
  exact ⟨readHub_segments hs 5 5 h.h0 rfl rfl rfl rfl, readHub_segments hs 7 7 h.h1 rfl rfl rfl rfl,
    readHub_segments hs 9 9 h.h2 rfl rfl rfl rfl, readHub_segments hs 11 11 h.h3 rfl rfl rfl rfl, sign 23 37 _ rfl rfl,
    sign 24 38 _ rfl rfl, sign 25 39 _ rfl rfl⟩

theorem setupFrom_setupBytes (fill : Nat → Byte) (b : List Byte) (hubs : Hubs) (signB : Triple Sign) :
    setupFrom (setupBytes fill (setupFrom b hubs signB)) hubs signB = setupFrom b hubs signB := by
  obtain ⟨pad, hb⟩ := setupBytes_eq fill (setupFrom b hubs signB)
  have u := uField_segments (pad := pad) (b := b) (setupSegments_widths fill (setupFrom b hubs signB))
  have i := sField_segments (pad := pad) (b := b) (setupSegments_widths fill (setupFrom b hubs signB))
  rw [← hb] at u i
  generalize setupBytes fill (setupFrom b hubs signB) = carried at u i
  simp only [setupFrom, readCaptureSetup]
  rw [u 0 0 1 rfl rfl, u 1 1 1 rfl rfl, u 2 2 1 rfl rfl, u 3 3 1 rfl rfl, u 4 4 1 rfl rfl, u 13 13 2 rfl rfl, u 14 15 1 rfl rfl,
    u 15 16 2 rfl rfl, u 16 18 1 rfl rfl, u 17 19 1 rfl rfl, u 18 20 1 rfl rfl, u 19 21 1 rfl rfl, i 20 22 5 rfl rfl,
    i 21 27 5 rfl rfl, i 22 32 5 rfl rfl, u 26 40 2 rfl rfl, u 27 42 2 rfl rfl, u 28 44 2 rfl rfl, u 29 46 2 rfl rfl,
    u 30 48 2 rfl rfl, u 31 50 1 rfl rfl, u 32 51 1 rfl rfl, u 33 52 2 rfl rfl, u 34 54 2 rfl rfl, i 35 56 5 rfl rfl,
    i 36 61 5 rfl rfl, i 37 66 5 rfl rfl, i 38 71 2 rfl rfl, u 39 73 1 rfl rfl, u 40 74 1 rfl rfl, u 41 75 2 rfl rfl,
    u 42 77 2 rfl rfl, i 43 79 5 rfl rfl, i 44 84 5 rfl rfl, i 45 89 5 rfl rfl, i 46 94 2 rfl rfl, u 47 96 1 rfl rfl,
    u 48 97 1 rfl rfl]

theorem readSetup_setupBytes {b : List Byte} {e : Setup} (fill : Nat → Byte) (h : readSetup b = .ok e) :
    readSetup (setupBytes fill e) = .ok e := by
  obtain ⟨hr, he, hf, hd⟩ := readSetup_ok_iff.1 h
  refine readSetup_ok_iff.2 ⟨hubsAndSignsRead_setupBytes fill hr, ?_, hf, hd⟩
  have hs := setupFrom_setupBytes fill b e.hubs e.signB
  rwa [he] at hs

end Sys2Proof.Machine
end

section
/-! CHANNEL, AXIS and MAP entries are read back (R46, R62, R63, R64). -/

namespace Sys2Proof.Machine

/-! ### CHANNEL -/

/-- The CHANNEL entry that bytes spell, but for its role and alarm. -/
def channelFrom (b : List Byte) (role : Role) (alarm : Option (Int × AlarmDirection)) : ChannelEntry :=
  { role := role, low := sField b 2 3, high := sField b 5 3, trim := sField b 8 2, settle := uField b 10 1,
    staleLimit := uField b 11 1, debounce := uField b 12 1, shift := uField b 13 1, alarm := alarm }

/-- All that reading a used CHANNEL entry asks. -/
theorem readChannel_some_iff {b : List Byte} {e : ChannelEntry} :
    readChannel b = .ok (some e) ↔
      uField b 0 1 ≠ 0 ∧ roleOf (uField b 0 1) (uField b 1 1) = some e.role ∧ readAlarm b = some e.alarm ∧
        channelFrom b e.role e.alarm = e ∧ channelFieldsOk e = true ∧ e.low < e.high := by
  constructor
  · intro h
    unfold readChannel at h
    split at h
    · cases h
    · rename_i h0
      split at h
      · dsimp only at h
        split at h
        · cases h
        · split at h
          · obtain rfl := Option.some.inj (Except.ok.inj h)
            exact ⟨h0, by assumption, by assumption, rfl, by simpa using ‹¬ (!channelFieldsOk _) = true›, by assumption⟩
          · cases h
      · cases h
  · rintro ⟨h0, hr, ha, he, hf, hl⟩
    unfold readChannel
    simp only [h0, if_false, hr, ha]
    change (if !channelFieldsOk (channelFrom b e.role e.alarm) then Except.error Reason.field
      else if (channelFrom b e.role e.alarm).low < (channelFrom b e.role e.alarm).high then .ok (some (channelFrom b e.role e.alarm))
      else .error .entry) = .ok (some e)
    simp [he, hf, hl]

/-- The threshold bytes of an alarm field. -/
def alarmThreshold (fill : Nat → Byte) : Option (Int × AlarmDirection) → List Byte
  | none => freeBytes fill 15 3
  | some a => leIntBytes 3 a.1

/-- The direction byte of an alarm field. -/
def alarmDirection (fill : Nat → Byte) : Option (Int × AlarmDirection) → Byte
  | none => fill 18
  | some a => directionByte a.2

/-- A used CHANNEL entry field by field. -/
def channelSegments (fill : Nat → Byte) (c : Channel) : List (List Byte) :=
  [[(roleBytes c.entry.role).getD 0 0], [(roleBytes c.entry.role).getD 1 0], leIntBytes 3 c.entry.low, leIntBytes 3 c.entry.high,
    leIntBytes 2 c.entry.trim, [byteOf c.entry.settle], [byteOf c.entry.staleLimit], [byteOf c.entry.debounce], [byteOf c.entry.shift],
    [markByte c.entry.alarm.isSome], alarmThreshold fill c.entry.alarm, [alarmDirection fill c.entry.alarm],
    [byteOf (channelStateCode c.run.state)], leIntBytes 3 (workingTemp c.run).1, [markByte (workingTemp c.run).2]]

theorem channelBytes_eq (fill : Nat → Byte) (c : Channel) :
    ∃ pad, channelBytes fill (some c) = (channelSegments fill c).flatten ++ pad := by
  refine ⟨_, congrArg₂ (· ++ ·) ?_ rfl⟩
  have hr : roleBytes c.entry.role = [(roleBytes c.entry.role).getD 0 0, (roleBytes c.entry.role).getD 1 0] := by
    cases c.entry.role <;> rfl
  have ha : optionalBytes fill 14 4 (c.entry.alarm.map fun a => leIntBytes 3 a.1 ++ [directionByte a.2]) =
      markByte c.entry.alarm.isSome :: (alarmThreshold fill c.entry.alarm ++ [alarmDirection fill c.entry.alarm]) := by
    cases c.entry.alarm <;> rfl
  rw [ha, hr]
  simp [channelSegments]

theorem channelSegments_widths (fill : Nat → Byte) (c : Channel) :
    (channelSegments fill c).map List.length = [1, 1, 3, 3, 2, 1, 1, 1, 1, 1, 3, 1, 1, 3, 1] := by
  have ha : (alarmThreshold fill c.entry.alarm).length = 3 := by cases c.entry.alarm <;> rfl
  simp [channelSegments, ha]

/-- A role that was read is read back from its two bytes. -/
theorem roleOf_roleBytes {r p : Nat} {role : Role} (h : roleOf r p = some role) :
    ∃ x y, roleBytes role = [x, y] ∧ x.toNat ≠ 0 ∧ roleOf x.toNat y.toNat = some role := by
  cases role with
  | scale ax =>
    have ha : ax ≤ 5 := by
      unfold roleOf at h
      split at h
      · split at h
        · cases h; assumption
        · cases h
      · simp at h
      · simp at h
      · split at h <;> cases h
      · cases h
    refine ⟨1, byteOf ax, rfl, by decide, ?_⟩
    rw [byteOf_toNat (by omega)]
    exact if_pos ha
  | workpiece arm => exact ⟨2, byteOf (armCode arm), rfl, by decide, by cases arm <;> rfl⟩
  | probeArm arm => exact ⟨3, byteOf (armCode arm), rfl, by decide, by cases arm <;> rfl⟩
  | air => exact ⟨4, 0, rfl, by decide, rfl⟩

/-- All that reading an alarm asks. -/
theorem readAlarm_some_iff {b : List Byte} {threshold : Int} {direction : AlarmDirection} :
    readAlarm b = some (some (threshold, direction)) ↔
      uField b 14 1 = 1 ∧ directionOf (uField b 18 1) = some direction ∧ sField b 15 3 = threshold ∧
        inBounds (-20000) 80000 threshold = true := by
  unfold readAlarm
  constructor
  · intro h
    split at h
    · cases h
    · split at h
      · split at h
        · obtain ⟨rfl, rfl⟩ := Prod.mk.inj (Option.some.inj (Option.some.inj h))
          exact ⟨by assumption, by assumption, rfl, by assumption⟩
        · cases h
      · cases h
    · cases h
  · rintro ⟨h1, hd, rfl, hb⟩
    simp [h1, hd, hb]

theorem readAlarm_none_of {b : List Byte} (h : uField b 14 1 = 0) : readAlarm b = some none := by
  unfold readAlarm
  simp only [h]

theorem directionOf_directionByte (d : AlarmDirection) : directionOf (directionByte d).toNat = some d := by cases d <;> rfl

theorem readAlarm_channelBytes {b : List Byte} {fill : Nat → Byte} {c : Channel} (h : readAlarm b = some c.entry.alarm) :
    readAlarm (channelBytes fill (some c)) = some c.entry.alarm := by
  obtain ⟨pad, hb⟩ := channelBytes_eq fill c
  have hs := channelSegments_widths fill c
  rw [hb]
  rcases ha : c.entry.alarm with _ | ⟨threshold, direction⟩
  · refine readAlarm_none_of (uField_byte (x := 0) hs 9 14 rfl ?_)
    simp [channelSegments, ha, markByte]
  · obtain ⟨_, _, rfl, hbounds⟩ := readAlarm_some_iff.1 (ha ▸ h)
    have hd : uField ((channelSegments fill c).flatten ++ pad) 18 1 = (directionByte direction).toNat :=
      uField_byte hs 11 18 rfl (by simp [channelSegments, ha, alarmDirection])
    refine readAlarm_some_iff.2 ⟨uField_byte (x := 1) hs 9 14 rfl (by simp [channelSegments, ha, markByte]), ?_,
      sField_segments hs 10 15 3 rfl (by simp [channelSegments, ha, alarmThreshold]), hbounds⟩
    rw [hd, directionOf_directionByte]

theorem channelFrom_channelBytes (fill : Nat → Byte) (b : List Byte) (role : Role) (alarm : Option (Int × AlarmDirection))
    (run : ChannelRun) :
    channelFrom (channelBytes fill (some { entry := channelFrom b role alarm, run := run })) role alarm = channelFrom b role alarm := by
  obtain ⟨pad, hb⟩ := channelBytes_eq fill { entry := channelFrom b role alarm, run := run }
  have hs := channelSegments_widths fill { entry := channelFrom b role alarm, run := run }
  have u := uField_segments (pad := pad) (b := b) hs
  have i := sField_segments (pad := pad) (b := b) hs
  rw [← hb] at u i
  generalize channelBytes fill (some { entry := channelFrom b role alarm, run := run }) = carried at u i
  simp only [channelFrom]
  rw [i 2 2 3 rfl rfl, i 3 5 3 rfl rfl, i 4 8 2 rfl rfl,
    u 5 10 1 rfl rfl, u 6 11 1 rfl rfl, u 7 12 1 rfl rfl,
    u 8 13 1 rfl rfl]

theorem readChannel_channelBytes {b : List Byte} {e : Option ChannelEntry} (fill : Nat → Byte) (run : ChannelRun)
    (h : readChannel b = .ok e) : readChannel (channelBytes fill (e.map fun c => { entry := c, run := run })) = .ok e := by
  cases e with
  | none => rfl
  | some e =>
    obtain ⟨_, hr, ha, he, hf, hl⟩ := readChannel_some_iff.1 h
    obtain ⟨x, y, hxy, hx, hrole⟩ := roleOf_roleBytes hr
    obtain ⟨pad, hb⟩ := channelBytes_eq fill { entry := e, run := run }
    have hs := channelSegments_widths fill { entry := e, run := run }
    have role0 : uField (channelBytes fill (some { entry := e, run := run })) 0 1 = x.toNat := by
      rw [hb]; exact uField_byte hs 0 0 rfl (by simp [channelSegments, hxy])
    have role1 : uField (channelBytes fill (some { entry := e, run := run })) 1 1 = y.toNat := by
      rw [hb]; exact uField_byte hs 1 1 rfl (by simp [channelSegments, hxy])
    have hfrom := channelFrom_channelBytes fill b e.role e.alarm run
    rw [he] at hfrom
    rw [Option.map_some]
    exact readChannel_some_iff.2 ⟨by rwa [role0], by rwa [role0, role1], readAlarm_channelBytes ha, hfrom, hf, hl⟩

/-! ### AXIS -/

/-- The AXIS entry that bytes spell, but for its optional fields and map flag. -/
def axisFrom (b : List Byte) (channel : Option Nat) (mapEnabled : Bool) (coupled : Option Nat) : AxisEntry :=
  { resolution := uField b 1 3, origin := sField b 4 5, anchor := sField b 9 5, coefficient := sField b 14 2, channel := channel,
    mapEnabled := mapEnabled, mapStart := sField b 19 5, mapPitch := uField b 24 2, mapCount := uField b 26 2, coupled := coupled,
    coupling := sField b 30 3, maxStep := uField b 33 2 }

/-- All that reading an AXIS entry in use asks. -/
theorem readAxis_some_iff {index : Nat} {b : List Byte} {e : AxisEntry} :
    readAxis index b = .ok (some e) ↔
      uField b 0 1 = 1 ∧ readIndex b 16 31 = some e.channel ∧ flagOf (uField b 18 1) = some e.mapEnabled ∧
        readIndex b 28 5 = some e.coupled ∧ axisFrom b e.channel e.mapEnabled e.coupled = e ∧ axisFieldsOk e = true ∧
        axisJoined index e = true := by
  constructor
  · intro h
    unfold readAxis at h
    split at h
    · cases h
    · split at h
      · dsimp only at h
        split at h
        · cases h
        · split at h
          · cases h
          · obtain rfl := Option.some.inj (Except.ok.inj h)
            exact ⟨by assumption, by assumption, by assumption, by assumption, rfl, by simpa using ‹¬ (!axisFieldsOk _) = true›,
              by simpa using ‹¬ (!axisJoined index _) = true›⟩
      · cases h
    · cases h
  · rintro ⟨h1, hc, hm, hq, he, hf, hj⟩
    unfold readAxis
    simp only [h1, hc, hm, hq]
    change (if !axisFieldsOk (axisFrom b e.channel e.mapEnabled e.coupled) then Except.error Reason.field
      else if !axisJoined index (axisFrom b e.channel e.mapEnabled e.coupled) then .error .entry
      else .ok (some (axisFrom b e.channel e.mapEnabled e.coupled))) = .ok (some e)
    simp [he, hf, hj]

/-- An AXIS entry in use field by field. -/
def axisSegments (fill : Nat → Byte) (e : AxisEntry) : List (List Byte) :=
  [[1], leBytes 3 e.resolution, leIntBytes 5 e.origin, leIntBytes 5 e.anchor, leIntBytes 2 e.coefficient, [markByte e.channel.isSome],
    [(e.channel.map byteOf).getD (fill 17)], [markByte e.mapEnabled], leIntBytes 5 e.mapStart, leBytes 2 e.mapPitch,
    leBytes 2 e.mapCount, [markByte e.coupled.isSome], [(e.coupled.map byteOf).getD (fill 29)], leIntBytes 3 e.coupling,
    leBytes 2 e.maxStep]

theorem axisBytes_eq (fill : Nat → Byte) (e : AxisEntry) : ∃ pad, axisBytes fill (some e) = (axisSegments fill e).flatten ++ pad := by
  refine ⟨_, congrArg₂ (· ++ ·) ?_ rfl⟩
  have h (o : Nat) (v : Option Nat) := hubBytes_eq fill o v
  unfold hubBytes at h
  simp [axisSegments, h]

theorem axisSegments_widths (fill : Nat → Byte) (e : AxisEntry) :
    (axisSegments fill e).map List.length = [1, 3, 5, 5, 2, 1, 1, 1, 5, 2, 2, 1, 1, 3, 2] := by
  simp [axisSegments]

theorem readIndex_eq {b : List Byte} {o bound : Nat} {v : Option Nat} (h : readIndex b o bound = some v) :
    v = none ∨ (v = some (uField b (o + 1) 1) ∧ uField b (o + 1) 1 ≤ bound) := by
  unfold readIndex at h
  split at h
  · exact .inl (Option.some.inj h).symm
  · split at h
    · exact .inr ⟨(Option.some.inj h).symm, by assumption⟩
    · cases h
  · cases h

/-- An optional index that was read is read back from its two bytes. -/
theorem readIndex_segments {segments : List (List Byte)} {pad b : List Byte} {widths : List Nat} {v : Option Nat} {fill : Byte}
    {bound : Nat} (hs : segments.map List.length = widths) (k o : Nat) (hr : readIndex b o bound = some v)
    (ho : (widths.take k).sum = o) (ho' : (widths.take (k + 1)).sum = o + 1) (hm : segments[k]? = some [markByte v.isSome])
    (hv : segments[k + 1]? = some [(v.map byteOf).getD fill]) : readIndex (segments.flatten ++ pad) o bound = some v := by
  rw [readIndex, uField_byte hs k o ho hm, uField_byte hs (k + 1) (o + 1) ho' hv]
  rcases readIndex_eq hr with rfl | ⟨rfl, hle⟩
  · rfl
  · have ht : (byteOf (uField b (o + 1) 1)).toNat = uField b (o + 1) 1 := byteOf_toNat (uField_lt b (o + 1) 1)
    simp only [Option.map_some, Option.getD_some, ht, if_pos hle]
    rfl

theorem flagOf_markByte (v : Bool) : flagOf (markByte v).toNat = some v := by cases v <;> rfl

theorem axisFrom_axisBytes (fill : Nat → Byte) (b : List Byte) (channel : Option Nat) (mapEnabled : Bool) (coupled : Option Nat) :
    axisFrom (axisBytes fill (some (axisFrom b channel mapEnabled coupled))) channel mapEnabled coupled =
      axisFrom b channel mapEnabled coupled := by
  obtain ⟨pad, hb⟩ := axisBytes_eq fill (axisFrom b channel mapEnabled coupled)
  have hs := axisSegments_widths fill (axisFrom b channel mapEnabled coupled)
  have u := uField_segments (pad := pad) (b := b) hs
  have i := sField_segments (pad := pad) (b := b) hs
  rw [← hb] at u i
  generalize axisBytes fill (some (axisFrom b channel mapEnabled coupled)) = carried at u i
  simp only [axisFrom]
  rw [u 1 1 3 rfl rfl, i 2 4 5 rfl rfl, i 3 9 5 rfl rfl, i 4 14 2 rfl rfl, i 8 19 5 rfl rfl, u 9 24 2 rfl rfl, u 10 26 2 rfl rfl,
    i 13 30 3 rfl rfl, u 14 33 2 rfl rfl]

theorem readAxis_axisBytes {index : Nat} {b : List Byte} {e : Option AxisEntry} (fill : Nat → Byte) (h : readAxis index b = .ok e) :
    readAxis index (axisBytes fill e) = .ok e := by
  cases e with
  | none => rfl
  | some e =>
    obtain ⟨_, hc, _, hq, he, hf, hj⟩ := readAxis_some_iff.1 h
    have hfrom := axisFrom_axisBytes fill b e.channel e.mapEnabled e.coupled
    rw [he] at hfrom
    refine readAxis_some_iff.2 ⟨?_, ?_, ?_, ?_, hfrom, hf, hj⟩ <;>
      obtain ⟨pad, hb⟩ := axisBytes_eq fill e <;> rw [hb] <;> have hs := axisSegments_widths fill e
    · exact uField_byte hs 0 0 rfl rfl
    · exact readIndex_segments hs 5 16 hc rfl rfl rfl rfl
    · rw [uField_byte hs 7 18 rfl rfl, flagOf_markByte]
    · exact readIndex_segments hs 11 28 hq rfl rfl rfl rfl

/-! ### MAP -/

theorem readMap_leIntBytes {b : List Byte} {v : Int} (h : readMap b = .ok v) : readMap (leIntBytes 4 v) = .ok v := by
  unfold readMap at h
  split at h
  · rename_i hb
    obtain rfl := Except.ok.inj h
    have hv : sField (leIntBytes 4 (sField b 0 4)) 0 4 = sField b 0 4 := by
      have := sField_segments (segments := [leIntBytes 4 (sField b 0 4)]) (pad := []) (b := b) (widths := [4]) (by simp) 0 0 4 rfl rfl
      simpa using this
    rw [readMap, hv, if_pos hb]
  · cases h

/-- Settles O8: each of the four tables by its own round trip. -/
theorem setupToMapRoundTrip : Obligations.SetupToMapRoundTrip := fun fill _ _ =>
  ⟨fun _ => readSetup_setupBytes fill, fun run _ => readChannel_channelBytes fill run, fun _ => readAxis_axisBytes fill,
    fun _ => readMap_leIntBytes⟩

end Sys2Proof.Machine
end

section
/-! What a stop, a mount change and a PROBE report do to the supervision, the library and the notice list (R91, R99, R110 to R114). -/

namespace Sys2Proof.Machine

/-! ### A stop -/

/-- The state without what a stop may change. -/
def State.sansHalt (s : State) : State :=
  { s.sansMoves with capture := State.reset.capture, supervision := State.reset.supervision }

theorem sansHalt_of_sansMoves {s t : State} (h : s.sansMoves = t.sansMoves) : s.sansHalt = t.sansHalt := by
  unfold State.sansHalt
  rw [h]

theorem suspendCapture_eq (s : State) (arm : Arm) :
    suspendCapture s arm = { s with capture := (suspendCapture s arm).capture } := by
  unfold suspendCapture
  dsimp only
  split <;> rfl

@[simp] theorem stopArm_sansHalt (s : State) (arm : Arm) (c : StopCause) : (stopArm s arm c).sansHalt = s.sansHalt := by
  unfold stopArm
  dsimp only
  split
  · rfl
  · rw [suspendCapture_eq]
    exact (sansHalt_of_sansMoves (toldStopped_sansMoves ((s.setSupervision arm _).raise _ _ _) arm)).trans rfl

/-- What a stop leaves (R91): all but supervision, sequencers, rack channel, capture and notice list. -/
structure SameButHalt (s t : State) : Prop where
  pending : t.pending = s.pending
  now : t.now = s.now
  setup : t.setup = s.setup
  link : t.link = s.link
  service : t.service = s.service
  axes : t.axes = s.axes
  head : t.head = s.head
  tables : s.SameTables t
  active : t.active = s.active
  latestReport : t.latestReport = s.latestReport
  walk : t.walk = s.walk
  queue : t.queue = s.queue

theorem sameButHalt_of_sansHalt {s t : State} (h : t.sansHalt = s.sansHalt) : SameButHalt s t :=
  have f {α : Type} (g : State → α) : g t.sansHalt = g s.sansHalt := congrArg g h
  ⟨f State.pending, f State.now, f State.setup, f State.link, f State.service, f State.axes, f State.head,
    ⟨f State.setup, f State.channels, f State.axes, f State.map, f State.zones, f State.library, f State.plan⟩, f State.active,
    f State.latestReport, f State.walk, f State.queue⟩

/-- A supervision state after a stop with a cause (R91). -/
def Supervision.stoppedWith (v : Supervision) (c : StopCause) : Supervision :=
  if v.state = .stopped then v else { v with state := .stopped, cause := c }

theorem Supervision.stoppedWith_state (v : Supervision) (c : StopCause) : (v.stoppedWith c).state = .stopped := by
  unfold Supervision.stoppedWith
  split
  · assumption
  · rfl

@[simp] theorem Supervision.stoppedWith_setpoint (v : Supervision) (c : StopCause) : (v.stoppedWith c).setpoint = v.setpoint := by
  unfold Supervision.stoppedWith
  split <;> rfl

/-- A stop sets the arm's supervision state and leaves the other arm's. -/
@[simp] theorem stopArm_supervision (s : State) (arm : Arm) (c : StopCause) :
    (stopArm s arm c).supervision = s.supervision.put arm ((s.supervision.get arm).stoppedWith c) := by
  unfold stopArm Supervision.stoppedWith
  dsimp only
  split
  · simp
  · rw [suspendCapture_eq]
    exact congrArg State.supervision (toldStopped_sansMoves _ _)

/-! ### The way back and a failed change raise no notice but CHANGE_FAILED -/

@[simp] theorem grantOpening_notices (s : State) (arm : Arm) : (grantOpening s arm).notices = s.notices := by
  unfold grantOpening
  dsimp only
  split
  · split <;> rfl
  · rfl

@[simp] theorem endChange_notices (s : State) (arm : Arm) : (endChange s arm).notices = s.notices := by
  unfold endChange releaseRack
  dsimp only
  split
  · simp
  · rfl

@[simp] theorem enterReclosing_notices (s : State) (arm : Arm) : (enterReclosing s arm).notices = s.notices := by
  unfold enterReclosing
  dsimp only
  split
  · rfl
  · simp

@[simp] theorem wayBack_notices (s : State) (arm : Arm) : (wayBack s arm).notices = s.notices := by
  unfold wayBack
  split
  · unfold enterClearing
    dsimp only
    split
    · rfl
    · simp
  · simp

/-- A failure of a change raises CHANGE_FAILED, or nothing in a state in which none is active (R141). -/
theorem failChange_notices (s : State) (arm : Arm) (c : FailureCause) :
    (failChange s arm c).notices = s.notices ∨ (failChange s arm c).notices = s.notices.enter .changeFailed (.arm arm) (failureCode c) := by
  unfold failChange
  split
  any_goals exact .inl rfl
  · exact .inr rfl
  · refine .inr ?_
    unfold failPhase
    dsimp only
    split
    · rfl
    · simp

theorem toldStopped_notices (s : State) (arm : Arm) :
    (toldStopped s arm).notices = s.notices ∨
      (toldStopped s arm).notices = s.notices.enter .changeFailed (.arm arm) (failureCode .armStopped) := by
  unfold toldStopped
  split
  any_goals exact failChange_notices s arm .armStopped
  exact .inl rfl

/-- What a stop of a running arm raises: ARM_STOPPED, then at most a CHANGE_FAILED (R91, R140). -/
theorem stopArm_notices {s : State} {arm : Arm} (c : StopCause) (h : (s.supervision.get arm).state ≠ .stopped) :
    ∃ rest : List (NoticeKind × Subject × Nat), (stopArm s arm c).notices =
      rest.foldl (fun n x => n.enter x.1 x.2.1 x.2.2) (s.notices.enter .armStopped (.arm arm) (stopCauseCode c)) := by
  unfold stopArm
  dsimp only
  rw [if_neg h, suspendCapture_eq]
  rcases toldStopped_notices ((s.setSupervision arm _).raise .armStopped (.arm arm) (stopCauseCode c)) arm with e | e
  · exact ⟨[], e⟩
  · exact ⟨[(.changeFailed, .arm arm, failureCode .armStopped)], e⟩

/-- Settles O22: two stops, each of one arm, after the link block is HALTED with its bridge timer stopped. -/
theorem bridgeExpiryStopsArms : Obligations.BridgeExpiryStopsArms := by
  intro s hpin
  have runs : exec .bridgeTimerExpiry s = .next (bridgeTimerExpires s) := congrArg Host.Outcome.next (State.unlessReset_runs _ hpin)
  rw [runs]
  refine ⟨fun h => by simp only [bridgeTimerExpires, h], fun at_ h => ⟨_, rfl, ?_⟩⟩
  have he : bridgeTimerExpires s = enterHalted (s.reach at_) := by simp only [bridgeTimerExpires, h]
  have frame : SameButHalt ((s.reach at_).setLink { s.link with watch := .halted, bridgeTimer := none }) (enterHalted (s.reach at_)) :=
    sameButHalt_of_sansHalt ((stopArm_sansHalt _ _ _).trans (stopArm_sansHalt _ _ _))
  rw [he]
  refine ⟨frame.now, frame.link, fun arm => ?_, frame.tables, frame.head, frame.queue, frame.active, frame.walk⟩
  rw [enterHalted, stopArm_supervision, stopArm_supervision]
  cases arm <;> rfl

/-! ### The active probe records -/

/-- All that a change of an active probe record does: the record, and perhaps the capture of an arm (R147). -/
theorem setActive_eq (s : State) (arm : Arm) (r : ActiveProbe) :
    setActive s arm r = { s with active := s.active.put arm r, capture := (setActive s arm r).capture } := by
  unfold setActive
  dsimp only
  split
  · split
    · rfl
    · rw [suspendCapture_eq]
  · rw [suspendCapture_eq]

@[simp] theorem setActive_active (s : State) (arm : Arm) (r : ActiveProbe) : (setActive s arm r).active = s.active.put arm r := by
  rw [setActive_eq]

@[simp] theorem setActive_library (s : State) (arm : Arm) (r : ActiveProbe) : (setActive s arm r).library = s.library := by
  rw [setActive_eq]

@[simp] theorem setActive_notices (s : State) (arm : Arm) (r : ActiveProbe) : (setActive s arm r).notices = s.notices := by
  rw [setActive_eq]

/-! ### Entries of the library -/

theorem modifyEntry_of_some {s : State} {i : Nat} {e : LibraryEntry} (f : LibraryEntry → LibraryEntry)
    (h : Table.entry s.library i = some e) : modifyEntry s i f = { s with library := Table.store s.library i (f e) } := by
  simp only [modifyEntry, h]

theorem modifyEntry_of_none {s : State} {i : Nat} (f : LibraryEntry → LibraryEntry) (h : Table.entry s.library i = none) :
    modifyEntry s i f = s := by
  simp only [modifyEntry, h]

@[simp] theorem modifyEntry_active (s : State) (i : Nat) (f : LibraryEntry → LibraryEntry) : (modifyEntry s i f).active = s.active := by
  unfold modifyEntry
  split <;> rfl

@[simp] theorem modifyEntry_notices (s : State) (i : Nat) (f : LibraryEntry → LibraryEntry) :
    (modifyEntry s i f).notices = s.notices := by
  unfold modifyEntry
  split <;> rfl

theorem modifyEntry_entry_same {s : State} {i : Nat} {e : LibraryEntry} (f : LibraryEntry → LibraryEntry)
    (h : Table.entry s.library i = some e) : Table.entry (modifyEntry s i f).library i = some (f e) := by
  rw [modifyEntry_of_some f h]
  exact Table.entry_store_same _ _ _

theorem modifyEntry_entry_ne (s : State) {i j : Nat} (f : LibraryEntry → LibraryEntry) (h : j ≠ i) :
    Table.entry (modifyEntry s i f).library j = Table.entry s.library j := by
  unfold modifyEntry
  split
  · exact Table.entry_store_ne _ _ h
  · rfl

/-- Replacing an entry that a search passes over by one that it passes over leaves what it finds. -/
theorem Table.find?_store {α : Type} {p : Nat × α → Bool} {t : Table α} {i : Nat} {v : α} (hv : p (i, v) = false)
    (ht : ∀ w, Table.entry t i = some w → p (i, w) = false) : (Table.store t i v).find? p = t.find? p := by
  induction t with
  | nil => simp [Table.store, hv]
  | cons q t ih =>
    obtain ⟨k, w⟩ := q
    simp only [Table.store]
    split
    · simp [hv]
    · split
      · rename_i hk
        subst hk
        have hw := ht w (by simp [Table.entry])
        simp [hv, hw]
      · rename_i hk
        have := ih fun w' h' => ht w' (by simpa [Table.entry, Ne.symm hk] using h')
        simp [List.find?_cons, this]

/-- In a table in canonical form an index that stands in it is the one whose entry is read. -/
theorem Table.entry_of_mem {α : Type} {size low : Nat} {t : Table α} (h : Table.risesFrom size low t = true) {i : Nat} {v : α}
    (hm : (i, v) ∈ t) : Table.entry t i = some v ∧ low ≤ i ∧ i < size := by
  induction t generalizing low with
  | nil => cases hm
  | cons q t ih =>
    obtain ⟨k, w⟩ := q
    simp only [Table.risesFrom, Bool.and_eq_true, decide_eq_true_eq] at h
    obtain ⟨⟨hlow, hsize⟩, hrest⟩ := h
    rcases List.mem_cons.1 hm with e | e
    · cases e
      exact ⟨by simp [Table.entry], hlow, hsize⟩
    · obtain ⟨he, hl, hs⟩ := ih hrest e
      have hk : k ≠ i := by omega
      exact ⟨by simpa [Table.entry, hk] using he, by omega, hs⟩

/-! ### A manual mount -/

@[simp] theorem loseOldProbe_active (s : State) (arm : Arm) : (loseOldProbe s arm).active = s.active := by
  unfold loseOldProbe
  split
  · simp [setLocation]
  · rfl

theorem loseOldProbe_notices (s : State) (arm : Arm) : (loseOldProbe s arm).notices =
    match s.active.get arm with | .known _ => s.notices.enter .probeLost (.arm arm) 0 | _ => s.notices := by
  unfold loseOldProbe
  split <;> simp_all [setLocation]

/-- Step 1 of a manual mount touches the entry of the arm's KNOWN record alone. -/
theorem loseOldProbe_entry_ne (s : State) (arm : Arm) {j : Nat} (h : s.active.get arm ≠ .known j) :
    Table.entry (loseOldProbe s arm).library j = Table.entry s.library j := by
  unfold loseOldProbe
  split
  · rename_i i hi
    exact modifyEntry_entry_ne s _ fun e => h (e ▸ hi)
  · rfl

theorem loseOldProbe_entry {s : State} {arm : Arm} {i : Nat} {e : LibraryEntry} (h : s.active.get arm = .known i)
    (he : Table.entry s.library i = some e) : Table.entry (loseOldProbe s arm).library i = some { e with location := .lost } := by
  simp only [loseOldProbe, h]
  exact modifyEntry_entry_same _ he

/-- The lookup of a reported identity that is not that of the arm's KNOWN record finds the same after step 1. -/
theorem loseOldProbe_findIdentity {s : State} {arm : Arm} {x : Nat}
    (h : ∀ i e, s.active.get arm = .known i → Table.entry s.library i = some e → e.identity ≠ x) :
    findIdentity (loseOldProbe s arm) x = findIdentity s x := by
  unfold loseOldProbe
  split
  · rename_i i hi
    cases he : Table.entry s.library i with
    | none => rw [setLocation, modifyEntry_of_none _ he]; rfl
    | some e =>
      rw [setLocation, modifyEntry_of_some _ he]
      have hx : ∀ w, Table.entry s.library i = some w → (w.identity == x) = false := fun w hw => by simpa using h i w hi hw
      exact Table.find?_store (hx e he) hx
  · rfl

/-- A report that does not agree with a KNOWN record carries another identity than its entry has (R111). -/
theorem identity_ne_of_not_agrees {s : State} {arm : Arm} {r : ProbeReport} {x : Nat} (hr : r.identity = some x)
    (h : reportAgrees s arm r = false) {i : Nat} {e : LibraryEntry} (ha : s.active.get arm = .known i)
    (he : Table.entry s.library i = some e) : e.identity ≠ x := by
  simpa [reportAgrees, hr, ha, he] using h

theorem mountIdentity_of_none {s : State} {arm : Arm} {x : Nat} (h : findIdentity s x = none) :
    mountIdentity s arm x = setActive s arm (.unknown x) := by
  simp only [mountIdentity, h]

theorem mountIdentity_of_other {s : State} {arm : Arm} {x i : Nat} {e : LibraryEntry} (h : findIdentity s x = some (i, e))
    (hl : e.location = .mounted (otherArm arm)) : mountIdentity s arm x = takeFromOther s arm i x := by
  simp only [mountIdentity, h, hl, if_true]

theorem mountIdentity_of_free {s : State} {arm : Arm} {x i : Nat} {e : LibraryEntry} (h : findIdentity s x = some (i, e))
    (hl : e.location ≠ .mounted (otherArm arm)) : mountIdentity s arm x = mountSuspect s arm i := by
  simp only [mountIdentity, h, if_neg hl]

/-- The lookup of an identity touches the entry that it finds alone. -/
theorem mountIdentity_entry_ne (s : State) (arm : Arm) (x : Nat) {j : Nat} (h : ∀ i e, findIdentity s x = some (i, e) → j ≠ i) :
    Table.entry (mountIdentity s arm x).library j = Table.entry s.library j := by
  unfold mountIdentity
  split
  · rename_i i e hf
    split
    · simpa [takeFromOther, setLocation] using modifyEntry_entry_ne s _ (h i e hf)
    · simpa [mountSuspect] using modifyEntry_entry_ne s _ (h i e hf)
  · simp

theorem suspectCalibration_eq (c : Calibration) : suspectCalibration c = if c = .calibrated then .suspect else c := by
  cases c <;> rfl

/-- With its sequencer IDLE a report that does not agree is a mount change (R111). -/
theorem libraryReport_idle {s : State} {arm : Arm} (r : ProbeReport) (h : (s.sequencer.get arm).state = .idle) :
    libraryReport s arm r = if reportAgrees s arm r then s else mountChange s arm r := by
  simp only [libraryReport, h, if_true]

theorem detachedReport_detached (s : State) (arm : Arm) (r : ProbeReport) (hr : r.identity = none)
    (hidle : (s.sequencer.get arm).state = .idle) :
    (∀ i e, s.active.get arm = .known i → Table.entry s.library i = some e →
      (libraryReport s arm r).active.get arm = .none ∧
      Table.entry (libraryReport s arm r).library i = some { e with location := .lost } ∧
      (∀ j, j ≠ i → Table.entry (libraryReport s arm r).library j = Table.entry s.library j) ∧
      (libraryReport s arm r).notices = s.notices.enter .probeLost (.arm arm) 0 ∧
      envelopeRadius (libraryReport s arm r) arm = 0) ∧
    (∀ x, s.active.get arm = .unknown x →
      (libraryReport s arm r).active.get arm = .none ∧ (libraryReport s arm r).library = s.library ∧
      (libraryReport s arm r).notices = s.notices ∧ envelopeRadius (libraryReport s arm r) arm = 0) := by
  constructor
  · intro i e hi he
    have ht : libraryReport s arm r = (setActive (setLocation s i .lost) arm .none).raise .probeLost (.arm arm) 0 := by
      simp [libraryReport_idle r hidle, reportAgrees, hr, hi, mountChange, detachedMount]
    rw [ht]
    exact ⟨by simp, by simpa [setLocation] using modifyEntry_entry_same _ he,
      fun j hj => by simpa [setLocation] using modifyEntry_entry_ne s _ hj, by simp [setLocation], by simp [envelopeRadius]⟩
  · intro x hx
    have ht : libraryReport s arm r = setActive s arm .none := by
      simp [libraryReport_idle r hidle, reportAgrees, hr, hx, mountChange, detachedMount]
    rw [ht]
    exact ⟨by simp, by simp, by simp, by simp [envelopeRadius]⟩

end Sys2Proof.Machine
end

section
/-! PROBE reports with the sequencer IDLE, the binding of a written entry, and the overtravel stop (DetachedReport). -/

namespace Sys2Proof.Machine

section
variable {s : State} {arm : Arm} {r : ProbeReport} {x : Nat}

/-- A report of an identity that does not agree is a manual mount (R113). -/
theorem libraryReport_manual (hr : r.identity = some x) (hidle : (s.sequencer.get arm).state = .idle)
    (h : reportAgrees s arm r = false) : libraryReport s arm r = manualMount s arm x := by
  simp [libraryReport_idle r hidle, h, mountChange, hr]

/-- Its lookup, after the old probe is lost, finds what the library held. -/
theorem findIdentity_of_not_agrees (hr : r.identity = some x) (h : reportAgrees s arm r = false) :
    findIdentity (loseOldProbe s arm) x = findIdentity s x :=
  loseOldProbe_findIdentity fun _ _ => identity_ne_of_not_agrees hr h

/-- In a library in canonical form the entry of the old probe stays lost: the lookup finds another (R113). -/
theorem manualMount_old_entry (hr : r.identity = some x) (h : reportAgrees s arm r = false) {i : Nat} {e : LibraryEntry}
    (hwf : Table.wf 32 s.library = true) (ha : s.active.get arm = .known i) (he : Table.entry s.library i = some e) :
    Table.entry (manualMount s arm x).library i = some { e with location := .lost } := by
  have hne : ∀ j e', findIdentity (loseOldProbe s arm) x = some (j, e') → i ≠ j := by
    rintro j e' hf rfl
    rw [findIdentity_of_not_agrees hr h] at hf
    have hx : e'.identity = x := by simpa using List.find?_some hf
    obtain ⟨hj, _, _⟩ := Table.entry_of_mem hwf (List.mem_of_find?_eq_some hf)
    exact identity_ne_of_not_agrees hr h ha hj hx
  exact (mountIdentity_entry_ne _ _ _ hne).trans (loseOldProbe_entry ha he)

/-- Without an entry of that identity the record is UNKNOWN (R113). -/
theorem manualMount_of_none (hr : r.identity = some x) (h : reportAgrees s arm r = false) (hf : findIdentity s x = none) :
    manualMount s arm x = (setActive (loseOldProbe s arm) arm (.unknown x)).raise .probeMountedManual (.arm arm) 0 := by
  rw [manualMount, mountIdentity_of_none ((findIdentity_of_not_agrees hr h).trans hf)]

/-- An entry that the other arm does not hold is mounted here (R113). -/
theorem manualMount_of_free (hr : r.identity = some x) (h : reportAgrees s arm r = false) {i : Nat} {e : LibraryEntry}
    (hf : findIdentity s x = some (i, e)) (hl : e.location ≠ .mounted (otherArm arm)) :
    manualMount s arm x = (mountSuspect (loseOldProbe s arm) arm i).raise .probeMountedManual (.arm arm) 0 := by
  rw [manualMount, mountIdentity_of_free ((findIdentity_of_not_agrees hr h).trans hf) hl]

/-- An entry that the other arm holds is lost (R114). -/
theorem manualMount_of_other (hr : r.identity = some x) (h : reportAgrees s arm r = false) {i : Nat} {e : LibraryEntry}
    (hf : findIdentity s x = some (i, e)) (hl : e.location = .mounted (otherArm arm)) :
    manualMount s arm x = (takeFromOther (loseOldProbe s arm) arm i x).raise .probeMountedManual (.arm arm) 0 := by
  rw [manualMount, mountIdentity_of_other ((findIdentity_of_not_agrees hr h).trans hf) hl]

end

theorem detachedReport_attached (s : State) (arm : Arm) (r : ProbeReport) (x : Nat) (hr : r.identity = some x)
    (hidle : (s.sequencer.get arm).state = .idle) :
    let t := libraryReport s arm r
    (reportAgrees s arm r = true → t = s) ∧
    (reportAgrees s arm r = false →
      let lost : Notices := match s.active.get arm with | .known _ => s.notices.enter .probeLost (.arm arm) 0 | _ => s.notices
      (∀ i e, Table.wf 32 s.library = true → s.active.get arm = .known i → Table.entry s.library i = some e →
        Table.entry t.library i = some { e with location := .lost }) ∧
      (findIdentity s x = none → t.active = s.active.put arm (.unknown x) ∧
        t.notices = lost.enter .probeMountedManual (.arm arm) 0 ∧
        (∀ j, s.active.get arm ≠ .known j → Table.entry t.library j = Table.entry s.library j)) ∧
      (∀ i e, findIdentity s x = some (i, e) → Table.entry s.library i = some e → s.active.get arm ≠ .known i →
        (e.location ≠ .mounted (otherArm arm) →
          t.active = s.active.put arm (.known i) ∧ t.notices = lost.enter .probeMountedManual (.arm arm) 0 ∧
          Table.entry t.library i = some { e with
            location := .mounted arm, calibration := if e.calibration = .calibrated then .suspect else e.calibration }) ∧
        (e.location = .mounted (otherArm arm) →
          t.active = (s.active.put (otherArm arm) .none).put arm (.unknown x) ∧
          t.notices = (lost.enter .probeLost (.arm (otherArm arm)) 0).enter .probeMountedManual (.arm arm) 0 ∧
          Table.entry t.library i = some { e with location := .lost }) ∧
        (∀ j, j ≠ i → s.active.get arm ≠ .known j → Table.entry t.library j = Table.entry s.library j))) := by
  refine ⟨fun h => by simp only [libraryReport_idle r hidle, h, if_true], fun h => ?_⟩
  intro lost
  have hlost : (loseOldProbe s arm).notices = lost := loseOldProbe_notices s arm
  rw [← hlost]
  clear_value lost
  rw [libraryReport_manual hr hidle h]
  refine ⟨fun i e hwf => manualMount_old_entry hr h hwf, fun hf => ?_, fun i e hf he hi => ⟨fun hl => ?_, fun hl => ?_, fun j hj ha => ?_⟩⟩
  · rw [manualMount_of_none hr h hf]
    exact ⟨by simp, by simp, fun j hj => by simpa using loseOldProbe_entry_ne s arm hj⟩
  · have hentry : Table.entry (loseOldProbe s arm).library i = some e := (loseOldProbe_entry_ne s arm hi).trans he
    rw [manualMount_of_free hr h hf hl]
    refine ⟨by simp [mountSuspect], by simp [mountSuspect], ?_⟩
    simpa [mountSuspect, suspectCalibration_eq] using modifyEntry_entry_same _ hentry
  · have hentry : Table.entry (loseOldProbe s arm).library i = some e := (loseOldProbe_entry_ne s arm hi).trans he
    rw [manualMount_of_other hr h hf hl]
    refine ⟨by simp [takeFromOther, setLocation], by simp [takeFromOther, setLocation], ?_⟩
    simpa [takeFromOther, setLocation] using modifyEntry_entry_same _ hentry
  · have hne : ∀ k e', findIdentity (loseOldProbe s arm) x = some (k, e') → j ≠ k := by
      rintro k e' hk rfl
      rw [findIdentity_of_not_agrees hr h, hf] at hk
      exact hj (congrArg Prod.fst (Option.some.inj hk)).symm
    exact (mountIdentity_entry_ne _ _ _ hne).trans (loseOldProbe_entry_ne s arm ha)

/-- The arms with an UNKNOWN probe of an identity: one alone, or both or none of them (R110). -/
theorem unknownArms_one {s : State} {arm : Arm} {x : Nat} (h : s.active.get arm = .unknown x)
    (ho : s.active.get (otherArm arm) ≠ .unknown x) : unknownArms s x = [arm] := by
  cases arm <;> simp_all [unknownArms, otherArm]

theorem unknownArms_not_one {s : State} {x : Nat}
    (h : (∀ arm, s.active.get arm = .unknown x) ∨ (∀ arm, s.active.get arm ≠ .unknown x)) :
    unknownArms s x = [.a, .b] ∨ unknownArms s x = [] := by
  rcases h with h | h
  · exact .inl (by simp [unknownArms, h])
  · exact .inr (by simp [unknownArms, h])

theorem detachedReport_bound (s : State) (i : Nat) (e : LibraryEntry) :
    let t := writeEntry s i (.library (some e))
    (∀ arm, s.active.get arm = .unknown e.identity → s.active.get (otherArm arm) ≠ .unknown e.identity →
      t.active = s.active.put arm (.known i) ∧ Table.entry t.library i = some { e with location := .mounted arm } ∧
      t.notices = s.notices) ∧
    ((∀ arm, s.active.get arm = .unknown e.identity) ∨ (∀ arm, s.active.get arm ≠ .unknown e.identity) →
      t.active = s.active ∧ Table.entry t.library i = some e ∧ t.notices = s.notices) := by
  refine ⟨fun arm h ho => ?_, fun h => ?_⟩
  · simp [writeEntry, writeLibrary, unknownArms_one h ho]
  · rcases unknownArms_not_one h with hu | hu <;> simp [writeEntry, writeLibrary, hu]

/-- What library, mounts and sequencers do with a report leaves supervision and the latest reports. -/
theorem supervision_of_sansReports {s t : State} (h : t.sansReports = s.sansReports) :
    t.supervision = s.supervision ∧ t.latestReport = s.latestReport :=
  have f {α : Type} (g : State → α) : g t.sansReports = g s.sansReports := congrArg g h
  ⟨f State.supervision, f State.latestReport⟩

theorem latestReport_of_sansStops {s t : State} (h : t.sansStops = s.sansStops) : t.latestReport = s.latestReport :=
  have f {α : Type} (g : State → α) : g t.sansStops = g s.sansStops := congrArg g h
  f State.latestReport

theorem detachedReport_overtravel (s : State) (arm : Arm) (r : ProbeReport) :
    let u := libraryReport { s with latestReport := s.latestReport.put arm (some r) } arm r
    let v := { s.supervision.get arm with overtravel := some r.overtravel }
    u.supervision = s.supervision ∧ (probeSlot s arm r).latestReport = s.latestReport.put arm (some r) ∧
    (r.overtravel = false ∨ v.state = .stopped → probeSlot s arm r = { u with supervision := u.supervision.put arm v }) ∧
    (r.overtravel = true → v.state ≠ .stopped →
      (probeSlot s arm r).supervision = s.supervision.put arm { v with state := .stopped, cause := .overtravel } ∧
      ∃ rest : List (NoticeKind × Subject × Nat), (probeSlot s arm r).notices =
        rest.foldl (fun n x => n.enter x.1 x.2.1 x.2.2) (u.notices.enter .armStopped (.arm arm) 4)) := by
  intro u v
  obtain ⟨hsup, hlatest⟩ : u.supervision = s.supervision ∧ u.latestReport = s.latestReport.put arm (some r) :=
    supervision_of_sansReports (s := { s with latestReport := s.latestReport.put arm (some r) }) (libraryReport_sansReports _ arm r)
  have hslot : probeSlot s arm r =
      if r.overtravel then stopArm (u.setSupervision arm v) arm .overtravel else u.setSupervision arm v := by
    unfold probeSlot overtravelReport
    dsimp only
    rw [show (libraryReport _ arm r).supervision = s.supervision from hsup]
  have hget : ((u.setSupervision arm v).supervision.get arm) = v := by simp
  refine ⟨hsup, ?_, fun h => ?_, fun ho hv => ?_⟩
  · exact (latestReport_of_sansStops (overtravelReport_sansStops u arm r)).trans hlatest
  · rcases h with h | h
    · rw [hslot, h]; rfl
    · have hstop : stopArm (u.setSupervision arm v) arm .overtravel = u.setSupervision arm v := by
        unfold stopArm
        dsimp only
        rw [hget, if_pos h]
      rw [hslot, hstop, ite_self]
      rfl
  · rw [hslot, if_pos ho]
    refine ⟨?_, stopArm_notices (s := u.setSupervision arm v) .overtravel (by rwa [hget])⟩
    rw [stopArm_supervision, hget, Supervision.stoppedWith, if_neg hv]
    simp [hsup]

/-- Settles O54: detached, attached, bound and overtravel reports, each by its own lemma. -/
theorem detachedReport : Obligations.DetachedReport :=
  ⟨detachedReport_detached, detachedReport_attached, detachedReport_bound, detachedReport_overtravel⟩

end Sys2Proof.Machine
end

section
/-! What the part writes into the payload of a slot, and what of the payload stays as taken (R12, R13, R120). -/

namespace Sys2Proof.Machine

/-! ### Bytes written at an offset -/

theorem splice_length {bs new : List Byte} {offset : Nat} (h : offset + new.length ≤ bs.length) :
    (splice bs offset new).length = bs.length := by
  simp [splice]
  omega

@[simp] theorem splice_zero (bs new : List Byte) : splice bs 0 new = new ++ bs.drop new.length := by simp [splice]

@[simp] theorem tripleBytes_length (t : Triple Int) : (tripleBytes t).length = 15 := by simp [tripleBytes]

/-! ### TARGET payloads -/

/-- The flag byte as written: bit 0 drive enable, bit 1 the hold marker, the others as taken (R13). -/
theorem targetFlags_bits (old : Byte) (enable marker : Bool) :
    bitOf (targetFlags old enable marker) 0 = enable ∧ bitOf (targetFlags old enable marker) 1 = marker ∧
    (targetFlags old enable marker).toNat / 4 = old.toNat / 4 := by
  revert old enable marker
  decide

theorem writeTargetFlags_cons (b : Byte) (rest : List Byte) (enable marker : Bool) :
    writeTargetFlags (b :: rest) enable marker = targetFlags b enable marker :: rest := by
  simp [writeTargetFlags]

theorem writeTarget_cons (b : Byte) (rest : List Byte) (enable marker : Bool) (t : Triple Int) :
    writeTarget (b :: rest) enable marker t = targetFlags b enable marker :: (tripleBytes t ++ rest.drop 15) := by
  rw [writeTarget, writeTargetFlags_cons]
  simp [splice]

theorem targetWritten_flags {payload : List Byte} (h : 16 ≤ payload.length) (enable marker : Bool) :
    TargetWritten payload (writeTargetFlags payload enable marker) enable marker none := by
  obtain _ | ⟨b, rest⟩ := payload
  · simp at h
  · rw [writeTargetFlags_cons]
    obtain ⟨h0, h1, h2⟩ := targetFlags_bits b enable marker
    exact ⟨by simp, h0, h1, h2, by simp, by simp⟩

theorem targetWritten_target {payload : List Byte} (h : 16 ≤ payload.length) (enable marker : Bool) (t : Triple Int) :
    TargetWritten payload (writeTarget payload enable marker t) enable marker (some t) := by
  obtain _ | ⟨b, rest⟩ := payload
  · simp at h
  · have hr : 15 ≤ rest.length := by simpa using h
    rw [writeTarget_cons]
    obtain ⟨h0, h1, h2⟩ := targetFlags_bits b enable marker
    exact ⟨by simp; omega, h0, h1, h2, List.take_left' (tripleBytes_length t), by simp⟩

/-- The TARGET slot of a STOPPED arm (R92). -/
theorem targetWritten_stopped {payload : List Byte} (h : 16 ≤ payload.length) (v : Supervision) :
    TargetWritten payload (stoppedTarget v payload) false v.setpoint.isSome v.setpoint := by
  unfold stoppedTarget
  split
  · rename_i p hp
    rw [hp]
    exact targetWritten_target h false true p
  · rename_i hp
    rw [hp]
    exact targetWritten_flags h false false

/-- A payload that the motion supervisor or the link block has written is as long as the one taken. -/
theorem stoppedTarget_length {payload : List Byte} (h : 16 ≤ payload.length) (v : Supervision) :
    (stoppedTarget v payload).length = payload.length := (targetWritten_stopped h v).1

theorem originatedTarget_length {payload : List Byte} (h : 16 ≤ payload.length) (v : Supervision) :
    (originatedTarget v payload).length = payload.length := by
  unfold originatedTarget
  split
  · exact (targetWritten_target h _ _ _).1
  · exact (targetWritten_flags h _ _).1

theorem supervisedTarget_length {payload : List Byte} (h : 16 ≤ payload.length) (s : State) (arm : Arm) (p : Triple Int) :
    (supervisedTarget s arm p payload).2.length = payload.length := by
  unfold supervisedTarget
  dsimp only
  split
  · exact (targetWritten_target h _ _ _).1
  · split <;> exact (targetWritten_target h _ _ _).1

theorem targetSlot_length {payload : List Byte} (h : 16 ≤ payload.length) (s : State) (arm : Arm) :
    (targetSlot s arm payload).2.length = payload.length := by
  unfold targetSlot
  dsimp only
  split
  · exact stoppedTarget_length h _
  · exact supervisedTarget_length h _ _ _
  · exact stoppedTarget_length h _

/-! ### RACK_OUT payloads -/

@[simp] theorem messageBytes_length (m : RackMessage) : (messageBytes m).length = 4 := rfl

/-- The rack channel has a PENDING message. -/
def Rack.offers (r : Rack) (m : RackMessage) : Prop := r.message = some m ∧ m.phase = .pending

/-- A PENDING message is written and becomes carried (R120). -/
theorem rackOutSlot_of_offers {s : State} {m : RackMessage} (h : s.rack.offers m) (payload : List Byte) :
    rackOutSlot s payload =
      (s.setRack { s.rack with message := some { m with phase := .carried } }, messageBytes m ++ payload.drop 4, some m.tag) := by
  simp only [rackOutSlot, h.1, h.2, splice_zero, messageBytes_length]

/-- Without one the empty payload is written (R120). -/
theorem rackOutSlot_of_none {s : State} (h : ∀ m, s.rack.message = some m → m.phase ≠ .pending) (payload : List Byte) :
    rackOutSlot s payload = (s, [0, 0, 0, 0] ++ payload.drop 4, none) := by
  unfold rackOutSlot
  split
  · rename_i m hm
    split
    · exact absurd ‹_› (h m hm)
    · simp
  · simp

theorem Rack.offers_or_not (r : Rack) : (∃ m, r.offers m) ∨ ∀ m, r.message = some m → m.phase ≠ .pending := by
  by_cases h : ∃ m, r.offers m
  · exact .inl h
  · exact .inr fun m hm hp => h ⟨m, hm, hp⟩

theorem rackOutSlot_length {payload : List Byte} (h : 4 ≤ payload.length) (s : State) :
    (rackOutSlot s payload).2.1.length = payload.length := by
  rcases s.rack.offers_or_not with ⟨m, hm⟩ | hn
  · rw [rackOutSlot_of_offers hm]; simp; omega
  · rw [rackOutSlot_of_none hn]; simp; omega

/-- Writing a RACK_OUT slot touches the rack channel alone. -/
theorem rackOutSlot_state (s : State) (payload : List Byte) :
    (rackOutSlot s payload).1 = s.setRack (rackOutSlot s payload).1.rack := by
  rcases s.rack.offers_or_not with ⟨m, hm⟩ | hn
  · rw [rackOutSlot_of_offers hm]; rfl
  · rw [rackOutSlot_of_none hn]; rfl

end Sys2Proof.Machine
end

section
/-! The slots of an outbound frame, one after another: which are acted on, and what the frame is when they are done (R9, R10, R12, R13). -/

namespace Sys2Proof.Machine

/-! ### A frame's slots as the part leaves them -/

/-- A slot as the part leaves it: address, kind and length stay, and of other kinds than some the payload (R9, R13). -/
structure Rewritten (kinds : List Byte) (a b : Slot) : Prop where
  address : b.address = a.address
  kind : b.kind = a.kind
  length : b.payload.length = a.payload.length
  other : a.kind ∉ kinds → b = a

theorem Rewritten.refl (kinds : List Byte) (a : Slot) : Rewritten kinds a a := ⟨rfl, rfl, rfl, fun _ => rfl⟩

/-- A slot of one of the kinds with its payload replaced by one as long. -/
theorem Rewritten.of_payload {kinds : List Byte} {a : Slot} {payload : List Byte} (h : payload.length = a.payload.length)
    (hk : a.kind ∈ kinds) : Rewritten kinds a { a with payload := payload } := ⟨rfl, rfl, h, fun hn => absurd hk hn⟩

theorem Rewritten.trans {kinds : List Byte} {a b c : Slot} (h : Rewritten kinds a b) (h' : Rewritten kinds b c) :
    Rewritten kinds a c :=
  ⟨h'.address.trans h.address, h'.kind.trans h.kind, h'.length.trans h.length,
    fun hn => (h'.other (h.kind ▸ hn)).trans (h.other hn)⟩

theorem Rewritten.mono {kinds more : List Byte} (hs : kinds ⊆ more) {a b : Slot} (h : Rewritten kinds a b) : Rewritten more a b :=
  ⟨h.address, h.kind, h.length, fun hn => h.other fun hk => hn (hs hk)⟩

theorem sameShape_of_rewritten {kinds : List Byte} {f g : List Slot} (h : List.Forall₂ (Rewritten kinds) f g) :
    sameShape f g = true := by
  rw [sameShape, beq_iff_eq]
  induction h with
  | nil => rfl
  | cons h _ ih => simp [h.address, h.kind, h.length, ih]

theorem onlyRewrites_of_rewritten {kinds : List Byte} {f g : List Slot} (h : List.Forall₂ (Rewritten kinds) f g) :
    onlyRewrites kinds f g := ⟨sameShape_of_rewritten h, h.imp fun _ _ => Rewritten.other⟩

theorem forall₂_rewritten_refl (kinds : List Byte) (f : List Slot) : List.Forall₂ (Rewritten kinds) f f :=
  List.forall₂_same.2 fun a _ => Rewritten.refl kinds a

theorem forall₂_rewritten_trans {kinds : List Byte} {f g k : List Slot} (h : List.Forall₂ (Rewritten kinds) f g)
    (h' : List.Forall₂ (Rewritten kinds) g k) : List.Forall₂ (Rewritten kinds) f k := by
  induction h generalizing k with
  | nil => exact h'
  | cons ha _ ih =>
    cases h' with
    | cons hb hl => exact .cons (ha.trans hb) (ih hl)

/-- One slot of a frame is replaced by one that it may be rewritten to. -/
theorem forall₂_rewritten_modify {kinds : List Byte} {g : List Slot} {n : Nat} {φ : Slot → Slot}
    (h : ∀ x, g[n]? = some x → Rewritten kinds x (φ x)) : List.Forall₂ (Rewritten kinds) g (g.modify n φ) := by
  induction g generalizing n with
  | nil => simp
  | cons y ys ih =>
    cases n with
    | zero => exact .cons (h y rfl) (forall₂_rewritten_refl kinds ys)
    | succ n => exact .cons (Rewritten.refl kinds y) (ih fun x hx => h x (by simpa using hx))

/-! ### Which slots are acted on -/

theorem armAt_address {addresses : PerArm Nat} {address : Byte} {arm : Arm} (h : armAt addresses address = some arm) :
    address.toNat = addresses.get arm := by
  unfold armAt at h
  split at h
  · obtain rfl := Option.some.inj h; assumption
  · split at h
    · obtain rfl := Option.some.inj h; assumption
    · cases h

theorem armAt_of_address {addresses : PerArm Nat} {address : Byte} {arm : Arm} (hne : addresses.a ≠ addresses.b)
    (h : address.toNat = addresses.get arm) : armAt addresses address = some arm := by
  cases arm <;> simp_all [armAt, PerArm.get, Ne.symm]

theorem outRoute_target_iff {setup : Setup} {sl : Slot} {arm : Arm} :
    outRoute setup sl = some (.target arm) ↔ sl.kind = 0x10 ∧ armAt setup.armNode sl.address = some arm := by
  unfold outRoute kindTarget
  split
  · rename_i hk; simp [hk]
  · rename_i hk
    have hk' : ¬ sl.kind = 16#8 := hk
    split <;> simp [hk']

theorem outRoute_rackOut_iff {setup : Setup} {sl : Slot} :
    outRoute setup sl = some .rackOut ↔ sl.kind = 0x14 ∧ sl.address.toNat = setup.rackNode := by
  unfold outRoute kindTarget kindRackOut
  split
  · rename_i hk; simp [hk]
  · split <;> simp_all

/-- Slots of one row are acted on for one arm alone. -/
theorem slotRow_eq_of_route {setup : Setup} {x y : Slot} {r : OutRoute} (hx : outRoute setup x = some r)
    (hy : outRoute setup y = some r) : slotRow x = slotRow y := by
  cases r with
  | target arm =>
    obtain ⟨kx, ax⟩ := outRoute_target_iff.1 hx
    obtain ⟨ky, ay⟩ := outRoute_target_iff.1 hy
    have ha : x.address = y.address := BitVec.eq_of_toNat_eq ((armAt_address ax).trans (armAt_address ay).symm)
    rw [slotRow, slotRow, kx, ky, ha]
  | rackOut =>
    obtain ⟨kx, ax⟩ := outRoute_rackOut_iff.1 hx
    obtain ⟨ky, ay⟩ := outRoute_rackOut_iff.1 hy
    rw [slotRow, slotRow, kx, ky, BitVec.eq_of_toNat_eq (ax.trans ay.symm)]

/-- A slot is acted on for a row: the first of its kind and address among those handled, and long enough (R10, R12). -/
def OutRun.acts (d : OutRun) (setup : Setup) (sl : Slot) (r : OutRoute) : Prop :=
  outRoute setup sl = some r ∧ slotRow sl ∉ d.matched ∧ 4 * r.words ≤ sl.payload.length

theorem actedOut_iff {matched : List (Byte × Byte)} {r : OutRoute} {sl : Slot} :
    actedOut matched r sl = true ↔ slotRow sl ∉ matched ∧ 4 * r.words ≤ sl.payload.length := by
  simp [actedOut, longEnough]

/-- A run with one more slot: its payload as written, its row if it is one of the part's, and the tags of messages in its place. -/
def OutRun.with (d : OutRun) (setup : Setup) (sl : Slot) (payload : List Byte) (tags : List RackTag) : OutRun where
  done := d.done ++ [{ sl with payload := payload }]
  matched := if (outRoute setup sl).isSome then slotRow sl :: d.matched else d.matched
  carried := d.carried ++ tags.map fun tag => (tag, d.done.length)

section
variable {supervise : State → Arm → List Byte → State × List Byte} {s : State} {d : OutRun} {sl : Slot}

theorem outSlot_target {arm : Arm} (h : d.acts s.setup sl (.target arm)) :
    outSlot supervise s d sl =
      ((supervise s arm sl.payload).1, d.with s.setup sl (supervise s arm sl.payload).2 []) := by
  obtain ⟨hr, ha⟩ := h
  simp [outSlot, hr, actedOut_iff.2 ha, OutRun.with, OutRun.pass]

theorem outSlot_rackOut (h : d.acts s.setup sl .rackOut) :
    outSlot supervise s d sl =
      ((rackOutSlot s sl.payload).1,
        d.with s.setup sl (rackOutSlot s sl.payload).2.1 (rackOutSlot s sl.payload).2.2.toList) := by
  obtain ⟨hr, ha⟩ := h
  simp [outSlot, hr, actedOut_iff.2 ha, OutRun.with, OutRun.pass]

theorem outSlot_other (h : ∀ r, ¬ d.acts s.setup sl r) : outSlot supervise s d sl = (s, d.with s.setup sl sl.payload []) := by
  unfold outSlot
  dsimp only
  split
  · rename_i hr; simp [hr, OutRun.with, OutRun.pass]
  · rename_i r hr
    have ha : actedOut d.matched r sl = false := by
      rw [Bool.eq_false_iff]
      exact fun ha => h r ⟨hr, actedOut_iff.1 ha⟩
    simp [hr, ha, OutRun.with, OutRun.pass]

/-- A slot is acted on as a TARGET slot, as a RACK_OUT slot, or not at all. -/
theorem OutRun.acts_cases (d : OutRun) (setup : Setup) (sl : Slot) :
    (∃ arm, d.acts setup sl (.target arm)) ∨ d.acts setup sl .rackOut ∨ ∀ r, ¬ d.acts setup sl r := by
  by_cases h : ∃ r, d.acts setup sl r
  · obtain ⟨r, hr⟩ := h
    cases r with
    | target arm => exact .inl ⟨arm, hr⟩
    | rackOut => exact .inr (.inl hr)
  · exact .inr (.inr fun r hr => h ⟨r, hr⟩)

end

theorem outSlots_append (supervise : State → Arm → List Byte → State × List Byte) (s : State) (d : OutRun) (xs ys : List Slot) :
    outSlots supervise s d (xs ++ ys) =
      outSlots supervise (outSlots supervise s d xs).1 (outSlots supervise s d xs).2 ys := by
  induction xs generalizing s d with
  | nil => rfl
  | cons x xs ih => exact ih _ _

/-- What holds before the slots of a frame and is kept by each slot's handling holds when they are done. -/
theorem outSlots_induct {supervise : State → Arm → List Byte → State × List Byte} {slots : List Slot}
    {P : List Slot → State → OutRun → Prop} {s : State} {d : OutRun} (h : P [] s d)
    (hstep : ∀ handled sl rest s d, slots = handled ++ sl :: rest → P handled s d →
      P (handled ++ [sl]) (outSlot supervise s d sl).1 (outSlot supervise s d sl).2) :
    P slots (outSlots supervise s d slots).1 (outSlots supervise s d slots).2 := by
  have general : ∀ rest handled s d, slots = handled ++ rest → P handled s d →
      P slots (outSlots supervise s d rest).1 (outSlots supervise s d rest).2 := by
    intro rest
    induction rest with
    | nil =>
      intro handled s d hs hp
      rw [List.append_nil] at hs
      exact hs ▸ hp
    | cons sl rest ih =>
      intro handled s d hs hp
      exact ih (handled ++ [sl]) _ _ (by simp [hs]) (hstep handled sl rest s d hs hp)
  exact general slots [] s d rfl h

/-! ### What a run leaves of the slots handled -/

/-- A run has handled some slots: the frame so far is theirs but for TARGET and RACK_OUT payloads, a matched row is one of theirs, and a
message stands in a RACK_OUT slot long enough for it. -/
structure OutRun.Follows (handled : List Slot) (d : OutRun) : Prop where
  slots : List.Forall₂ (Rewritten [0x10, 0x14]) handled d.done
  rows : ∀ row ∈ d.matched, row ∈ handled.map slotRow
  carrying : ∀ c ∈ d.carried, ∃ x, d.done[c.2]? = some x ∧ x.kind = 0x14 ∧ 4 ≤ x.payload.length

theorem OutRun.Follows.start : OutRun.Follows [] OutRun.start := ⟨.nil, by simp [OutRun.start], by simp [OutRun.start]⟩

theorem OutRun.Follows.length_done {handled : List Slot} {d : OutRun} (h : d.Follows handled) : d.done.length = handled.length :=
  h.slots.length_eq.symm

theorem OutRun.Follows.not_matched {slots : List Slot} {n : Nat} {sl : Slot} {d : OutRun} (h : d.Follows (slots.take n))
    (hf : firstOfRow slots n sl) : slotRow sl ∉ d.matched := by
  intro hm
  obtain ⟨x, hx, he⟩ := List.mem_map.1 (h.rows _ hm)
  exact hf.2 x hx (congrArg Prod.fst he) (congrArg Prod.snd he)

theorem OutRun.Follows.with {handled : List Slot} {d : OutRun} (h : d.Follows handled) (setup : Setup) {sl : Slot} {payload : List Byte}
    {tags : List RackTag} (hp : Rewritten [0x10, 0x14] sl { sl with payload := payload })
    (ht : tags ≠ [] → sl.kind = 0x14 ∧ 4 ≤ payload.length) : (d.with setup sl payload tags).Follows (handled ++ [sl]) where
  slots := List.rel_append h.slots (.cons hp .nil)
  rows := by
    intro row hrow
    rw [List.map_append, List.mem_append]
    have : row = slotRow sl ∨ row ∈ d.matched := by
      simp only [OutRun.with] at hrow
      split at hrow
      · exact List.mem_cons.1 hrow
      · exact .inr hrow
    rcases this with rfl | hm
    · exact .inr (by simp)
    · exact .inl (h.rows row hm)
  carrying := by
    intro c hc
    rcases List.mem_append.1 hc with hc | hc
    · obtain ⟨x, hx, hk⟩ := h.carrying c hc
      exact ⟨x, (List.getElem?_append_left (List.getElem?_eq_some_iff.1 hx).1).trans hx, hk⟩
    · obtain ⟨tag, htag, rfl⟩ := List.mem_map.1 hc
      exact ⟨{ sl with payload := payload }, by simp [OutRun.with], ht (List.ne_nil_of_mem htag)⟩

section
variable {supervise : State → Arm → List Byte → State × List Byte}
  (hlength : ∀ s arm payload, 16 ≤ payload.length → (supervise s arm payload).2.length = payload.length)
include hlength

theorem OutRun.Follows.outSlot {handled : List Slot} {d : OutRun} (h : d.Follows handled) (s : State) (sl : Slot) :
    (outSlot supervise s d sl).2.Follows (handled ++ [sl]) := by
  rcases d.acts_cases s.setup sl with ⟨arm, ha⟩ | ha | ha
  · rw [outSlot_target ha]
    have hk := (outRoute_target_iff.1 ha.1).1
    exact h.with _ (Rewritten.of_payload (hlength _ _ _ ha.2.2) (by simp [hk])) (by simp)
  · rw [outSlot_rackOut ha]
    have hk := (outRoute_rackOut_iff.1 ha.1).1
    have hl := rackOutSlot_length ha.2.2 s
    exact h.with _ (Rewritten.of_payload hl (by simp [hk])) fun _ => ⟨hk, hl ▸ ha.2.2⟩
  · rw [outSlot_other ha]
    exact h.with _ (Rewritten.refl _ sl) (by simp)

theorem outSlots_follows (s : State) (slots : List Slot) : (outSlots supervise s OutRun.start slots).2.Follows slots :=
  outSlots_induct (P := fun handled _ d => d.Follows handled) OutRun.Follows.start
    fun _ sl _ s _ _ h => h.outSlot hlength s sl

end

/-! ### Messages that are withheld -/

theorem withhold_slots (f : CycleFrame) (n : Nat) : (withhold f n).slots =
    f.slots.modify n fun sl => { sl with payload := splice sl.payload 0 [0, 0, 0, 0] } := rfl

/-- Withholding messages rewrites RACK_OUT slots alone. -/
theorem foldl_withhold_rewritten {cs : List (RackTag × Nat)} {f : CycleFrame}
    (h : ∀ c ∈ cs, ∃ x, f.slots[c.2]? = some x ∧ x.kind = 0x14 ∧ 4 ≤ x.payload.length) :
    List.Forall₂ (Rewritten [0x14]) f.slots (cs.foldl (fun f c => withhold f c.2) f).slots ∧
      (cs.foldl (fun f c => withhold f c.2) f).cycle = f.cycle := by
  induction cs generalizing f with
  | nil => exact ⟨forall₂_rewritten_refl _ _, rfl⟩
  | cons c cs ih =>
    have hrw : List.Forall₂ (Rewritten [0x14]) f.slots (withhold f c.2).slots := by
      rw [withhold_slots]
      refine forall₂_rewritten_modify fun x hx => ?_
      obtain ⟨y, hy, hk, hl⟩ := h c (by simp)
      obtain rfl : y = x := Option.some.inj (hy.symm.trans hx)
      exact Rewritten.of_payload (splice_length (by simpa using hl)) (by simp [hk])
    have hnext : ∀ c' ∈ cs, ∃ x, (withhold f c.2).slots[c'.2]? = some x ∧ x.kind = 0x14 ∧ 4 ≤ x.payload.length := by
      intro c' hc'
      obtain ⟨x, hx, hk, hl⟩ := h c' (by simp [hc'])
      obtain ⟨hlt, hxe⟩ := List.getElem?_eq_some_iff.1 hx
      have hlt' : c'.2 < (withhold f c.2).slots.length := by rw [← hrw.length_eq]; exact hlt
      have hr := hrw.get hlt hlt'
      simp only [List.get_eq_getElem, hxe] at hr
      exact ⟨_, List.getElem?_eq_getElem hlt', hr.kind.trans hk, hr.length ▸ hl⟩
    obtain ⟨hslots, hcycle⟩ := ih hnext
    exact ⟨forall₂_rewritten_trans hrw hslots, hcycle⟩

/-- The slots of an outbound frame as it is placed, a message that was discarded since it was written withheld. -/
def placedSlots (r : Rack) (d : OutRun) (cycle : CycleNumber) : List Slot :=
  (withholdDiscarded r d.carried { cycle := cycle, slots := d.done }).slots

theorem placed_eq (r : Rack) {handled : List Slot} {d : OutRun} (h : d.Follows handled) (cycle : CycleNumber) :
    withholdDiscarded r d.carried { cycle := cycle, slots := d.done } = { cycle := cycle, slots := placedSlots r d cycle } ∧
    List.Forall₂ (Rewritten [0x14]) d.done (placedSlots r d cycle) := by
  have hcs : ∀ c ∈ d.carried.filter (fun c => !stillCarried r c.1),
      ∃ x, d.done[c.2]? = some x ∧ x.kind = 0x14 ∧ 4 ≤ x.payload.length := fun c hc => h.carrying c (List.mem_filter.1 hc).1
  obtain ⟨hslots, hcycle⟩ := foldl_withhold_rewritten (f := { cycle := cycle, slots := d.done }) hcs
  exact ⟨congrArg (CycleFrame.mk · (placedSlots r d cycle)) hcycle, hslots⟩

theorem placedSlots_rewritten (r : Rack) {handled : List Slot} {d : OutRun} (h : d.Follows handled) (cycle : CycleNumber) :
    List.Forall₂ (Rewritten [0x10, 0x14]) handled (placedSlots r d cycle) :=
  forall₂_rewritten_trans h.slots ((placed_eq r h cycle).2.imp fun _ _ => Rewritten.mono (by simp))

end Sys2Proof.Machine
end

section
/-! One slot of an outbound frame: what a run with SETUP unchanged writes for the TARGET slot of an arm and for the RACK_OUT slot, and the
frame that is placed (R10, R12, R14, R120). -/

namespace Sys2Proof.Machine

/-! ### A run with SETUP unchanged -/

/-- What supervising a TARGET slot leaves: the payload's length, SETUP, and an outstanding rack message. -/
structure Supervises (supervise : State → Arm → List Byte → State × List Byte) : Prop where
  length : ∀ s arm payload, 16 ≤ payload.length → (supervise s arm payload).2.length = payload.length
  setup : ∀ s arm payload, (supervise s arm payload).1.setup = s.setup
  message : ∀ s arm payload m, s.rack.message = some m → (supervise s arm payload).1.rack.message = some m

@[simp] theorem rackOutSlot_setup (s : State) (payload : List Byte) : (rackOutSlot s payload).1.setup = s.setup := by
  rw [rackOutSlot_state]; rfl

/-- A run has handled some slots with one SETUP record: it follows them, and recalls the rows of those that are the part's. -/
structure OutRun.Recalls (setup : Setup) (handled : List Slot) (s : State) (d : OutRun) : Prop where
  follows : d.Follows handled
  sameSetup : s.setup = setup
  rows : ∀ x ∈ handled, (outRoute setup x).isSome → slotRow x ∈ d.matched

theorem OutRun.Recalls.start (s : State) : OutRun.Recalls s.setup [] s OutRun.start := ⟨OutRun.Follows.start, rfl, by simp⟩

theorem outSlot_matched (supervise : State → Arm → List Byte → State × List Byte) (s : State) (d : OutRun) (sl : Slot) :
    (outSlot supervise s d sl).2.matched = if (outRoute s.setup sl).isSome then slotRow sl :: d.matched else d.matched := by
  rcases d.acts_cases s.setup sl with ⟨arm, ha⟩ | ha | ha
  · rw [outSlot_target ha]; rfl
  · rw [outSlot_rackOut ha]; rfl
  · rw [outSlot_other ha]; rfl

section
variable {supervise : State → Arm → List Byte → State × List Byte} (hsup : Supervises supervise)
include hsup

theorem outSlot_setup (s : State) (d : OutRun) (sl : Slot) : (outSlot supervise s d sl).1.setup = s.setup := by
  rcases d.acts_cases s.setup sl with ⟨arm, ha⟩ | ha | ha
  · rw [outSlot_target ha]; exact hsup.setup _ _ _
  · rw [outSlot_rackOut ha]; simp
  · rw [outSlot_other ha]

theorem OutRun.Recalls.outSlot {setup : Setup} {handled : List Slot} {s : State} {d : OutRun} (h : d.Recalls setup handled s) (sl : Slot) :
    (outSlot supervise s d sl).2.Recalls setup (handled ++ [sl]) (outSlot supervise s d sl).1 where
  follows := h.follows.outSlot hsup.length s sl
  sameSetup := (outSlot_setup hsup s d sl).trans h.sameSetup
  rows := by
    intro x hx hr
    rw [outSlot_matched, h.sameSetup]
    rcases List.mem_append.1 hx with hx | hx
    · have := h.rows x hx hr
      split
      · exact List.mem_cons_of_mem _ this
      · exact this
    · rw [List.mem_singleton.1 hx] at hr ⊢
      rw [if_pos hr]
      exact List.mem_cons_self

theorem outSlots_recalls (s : State) (slots : List Slot) :
    (outSlots supervise s OutRun.start slots).2.Recalls s.setup slots (outSlots supervise s OutRun.start slots).1 :=
  outSlots_induct (P := fun handled u d => d.Recalls s.setup handled u) (OutRun.Recalls.start s) fun _ sl _ _ _ _ h => h.outSlot hsup sl

end

theorem outRoute_of_row {setup : Setup} {x y : Slot} (hk : x.kind = y.kind) (ha : x.address = y.address) :
    outRoute setup x = outRoute setup y := by
  unfold outRoute
  rw [hk, ha]

/-- A slot that is acted on is the first of its kind and address. -/
theorem OutRun.Recalls.firstOfRow {slots : List Slot} {n : Nat} {sl : Slot} {s : State} {setup : Setup} {d : OutRun} {r : OutRoute}
    (h : d.Recalls setup (slots.take n) s) (hn : slots[n]? = some sl) (ha : d.acts setup sl r) : firstOfRow slots n sl := by
  refine ⟨hn, fun x hx hk he => ha.2.1 ?_⟩
  have hrow : slotRow x = slotRow sl := by rw [slotRow, slotRow, hk, he]
  rw [← hrow]
  exact h.rows x hx (by rw [outRoute_of_row hk he, ha.1]; rfl)

/-- The first slot of a row, if it is long enough, is acted on. -/
theorem OutRun.Follows.acts {slots : List Slot} {n : Nat} {sl : Slot} {setup : Setup} {d : OutRun} {r : OutRoute}
    (h : d.Follows (slots.take n)) (hf : Machine.firstOfRow slots n sl) (hr : outRoute setup sl = some r)
    (hl : 4 * r.words ≤ sl.payload.length) : d.acts setup sl r := ⟨hr, h.not_matched hf, hl⟩

/-- Before the first slot of a row no slot is acted on for it. -/
theorem not_acts_before {slots : List Slot} {n : Nat} {sl x : Slot} {setup : Setup} {d : OutRun} {r : OutRoute}
    (hf : firstOfRow slots n sl) (hr : outRoute setup sl = some r) (hx : x ∈ slots.take n) : ¬ d.acts setup x r := by
  intro ha
  have hrow := slotRow_eq_of_route ha.1 hr
  exact hf.2 x hx (congrArg Prod.fst hrow) (congrArg Prod.snd hrow)

/-- After a slot of a row no slot is acted on for it. -/
theorem OutRun.Recalls.not_acts {handled : List Slot} {sl x : Slot} {s : State} {setup : Setup} {d : OutRun} {r : OutRoute}
    (h : d.Recalls setup handled s) (hr : outRoute setup sl = some r) (hs : sl ∈ handled) : ¬ d.acts setup x r := by
  intro ha
  exact ha.2.1 (slotRow_eq_of_route hr ha.1 ▸ h.rows sl hs (by rw [hr]; rfl))

theorem slots_split {slots : List Slot} {n : Nat} {sl : Slot} (h : slots[n]? = some sl) :
    slots = slots.take n ++ sl :: slots.drop (n + 1) := by
  obtain ⟨hn, rfl⟩ := List.getElem?_eq_some_iff.1 h
  simp

theorem length_take_of_getElem? {slots : List Slot} {n : Nat} {sl : Slot} (h : slots[n]? = some sl) : (slots.take n).length = n :=
  List.length_take_of_le (Nat.le_of_lt (List.getElem?_eq_some_iff.1 h).1)

/-- Up to the first slot of a row, what every slot that is not acted on for the row keeps is kept. -/
theorem outSlots_before {supervise : State → Arm → List Byte → State × List Byte} (hsup : Supervises supervise) {slots : List Slot}
    {n : Nat} {sl : Slot} {s : State} {r : OutRoute} {Q : State → OutRun → Prop} (hf : firstOfRow slots n sl)
    (hr : outRoute s.setup sl = some r)
    (hkeep : ∀ u d x, u.setup = s.setup → ¬ d.acts s.setup x r → Q u d → Q (outSlot supervise u d x).1 (outSlot supervise u d x).2)
    (h : Q s OutRun.start) :
    Q (outSlots supervise s OutRun.start (slots.take n)).1 (outSlots supervise s OutRun.start (slots.take n)).2 := by
  refine (outSlots_induct (P := fun _ u d => u.setup = s.setup ∧ Q u d) ⟨rfl, h⟩ ?_).2
  intro handled x rest u d hx ⟨hu, hq⟩
  have hmem : x ∈ slots.take n := by rw [hx]; simp
  exact ⟨(outSlot_setup hsup u d x).trans hu, hkeep u d x hu (not_acts_before hf hr hmem) hq⟩

/-- So is, after a slot of a row, up to the end of the frame. -/
theorem outSlots_after {supervise : State → Arm → List Byte → State × List Byte} (hsup : Supervises supervise) {setup : Setup}
    {handled rest : List Slot} {sl : Slot} {s : State} {d : OutRun} {r : OutRoute} {Q : State → OutRun → Prop}
    (hd : d.Recalls setup handled s) (hr : outRoute setup sl = some r) (hs : sl ∈ handled)
    (hkeep : ∀ u d x, u.setup = setup → ¬ d.acts setup x r → Q u d → Q (outSlot supervise u d x).1 (outSlot supervise u d x).2)
    (h : Q s d) : Q (outSlots supervise s d rest).1 (outSlots supervise s d rest).2 := by
  induction rest generalizing handled s d with
  | nil => exact h
  | cons x rest ih =>
    exact ih (hd.outSlot hsup x) (List.mem_append_left _ hs) (hkeep s d x hd.sameSetup (hd.not_acts hr hs) h)

/-- The run of a whole frame, cut at one of its slots. -/
theorem outSlots_split {supervise : State → Arm → List Byte → State × List Byte} (s : State) {slots : List Slot} {n : Nat} {sl : Slot}
    (h : slots[n]? = some sl) :
    outSlots supervise s OutRun.start slots =
      let m := outSlots supervise s OutRun.start (slots.take n)
      let u := outSlot supervise m.1 m.2 sl
      outSlots supervise u.1 u.2 (slots.drop (n + 1)) := by
  conv_lhs => rw [slots_split h, outSlots_append]
  rfl

/-- A slot done stays as it is. -/
theorem outSlot_done_of_some (supervise : State → Arm → List Byte → State × List Byte) (s : State) {d : OutRun} (sl : Slot) {n : Nat}
    {x : Slot} (h : d.done[n]? = some x) : (outSlot supervise s d sl).2.done[n]? = some x := by
  have hlt := (List.getElem?_eq_some_iff.1 h).1
  rcases d.acts_cases s.setup sl with ⟨arm, ha⟩ | ha | ha
  · rw [outSlot_target ha]; exact (List.getElem?_append_left hlt).trans h
  · rw [outSlot_rackOut ha]; exact (List.getElem?_append_left hlt).trans h
  · rw [outSlot_other ha]; exact (List.getElem?_append_left hlt).trans h

/-! ### Messages carried -/

/-- A slot that is not acted on as a RACK_OUT slot adds no message. -/
theorem outSlot_carried (supervise : State → Arm → List Byte → State × List Byte) {s : State} {d : OutRun} {sl : Slot}
    (h : ¬ d.acts s.setup sl .rackOut) : (outSlot supervise s d sl).2.carried = d.carried := by
  rcases d.acts_cases s.setup sl with ⟨arm, ha⟩ | ha | ha
  · rw [outSlot_target ha]; simp [OutRun.with]
  · exact absurd ha h
  · rw [outSlot_other ha]; simp [OutRun.with]

theorem outSlot_message {supervise : State → Arm → List Byte → State × List Byte} (hsup : Supervises supervise) {s : State} {d : OutRun}
    {sl : Slot} (h : ¬ d.acts s.setup sl .rackOut) {m : RackMessage} (hm : s.rack.message = some m) :
    (outSlot supervise s d sl).1.rack.message = some m := by
  rcases d.acts_cases s.setup sl with ⟨arm, ha⟩ | ha | ha
  · rw [outSlot_target ha]; exact hsup.message _ _ _ m hm
  · exact absurd ha h
  · rw [outSlot_other ha]; exact hm

/-- A run has written the RACK_OUT slot with a number, by a rack channel: a PENDING message, then carried, or the empty payload (R120). -/
def RackWritten (r : Rack) (n : Nat) (sl : Slot) (s : State) (d : OutRun) : Prop :=
  (∀ m, r.offers m → s.rack.message = some { m with phase := .carried } ∧ d.carried = [(m.tag, n)] ∧
    d.done[n]? = some { sl with payload := messageBytes m ++ sl.payload.drop 4 }) ∧
  ((∀ m, r.message = some m → m.phase ≠ .pending) → d.carried = [] ∧
    d.done[n]? = some { sl with payload := [0, 0, 0, 0] ++ sl.payload.drop 4 })

theorem rackWritten_rackOut {supervise : State → Arm → List Byte → State × List Byte} {s : State} {d : OutRun} {sl : Slot}
    (ha : d.acts s.setup sl .rackOut) (hc : d.carried = []) :
    RackWritten s.rack d.done.length sl (outSlot supervise s d sl).1 (outSlot supervise s d sl).2 := by
  rw [outSlot_rackOut ha]
  refine ⟨fun m hm => ?_, fun hn => ?_⟩
  · rw [rackOutSlot_of_offers hm]
    exact ⟨rfl, by simp [OutRun.with, hc], by simp [OutRun.with]⟩
  · rw [rackOutSlot_of_none hn]
    exact ⟨by simp [OutRun.with, hc], by simp [OutRun.with]⟩

theorem RackWritten.outSlot {supervise : State → Arm → List Byte → State × List Byte} (hsup : Supervises supervise) {r : Rack} {n : Nat}
    {sl x : Slot} {s : State} {d : OutRun} (h : RackWritten r n sl s d) (hx : ¬ d.acts s.setup x .rackOut) :
    RackWritten r n sl (outSlot supervise s d x).1 (outSlot supervise s d x).2 := by
  refine ⟨fun m hm => ?_, fun hn => ?_⟩
  · obtain ⟨hmsg, hc, hd⟩ := h.1 m hm
    exact ⟨outSlot_message hsup hx hmsg, (outSlot_carried supervise hx).trans hc, outSlot_done_of_some supervise s x hd⟩
  · obtain ⟨hc, hd⟩ := h.2 hn
    exact ⟨(outSlot_carried supervise hx).trans hc, outSlot_done_of_some supervise s x hd⟩

/-- The RACK_OUT slot of a frame is written by the rack channel as the slots before it leave it (R120). -/
theorem outSlots_rackWritten {supervise : State → Arm → List Byte → State × List Byte} (hsup : Supervises supervise) {s : State}
    {slots : List Slot} {n : Nat} {sl : Slot} (h : s.ActsOnRackOut slots n sl) :
    RackWritten (outSlots supervise s OutRun.start (slots.take n)).1.rack n sl (outSlots supervise s OutRun.start slots).1
      (outSlots supervise s OutRun.start slots).2 := by
  obtain ⟨hf, hk, ha, hl⟩ := h
  have hr : outRoute s.setup sl = some .rackOut := outRoute_rackOut_iff.2 ⟨hk, ha⟩
  have hm := outSlots_recalls hsup s (slots.take n)
  have hacts := hm.follows.acts hf hr (by simpa [OutRoute.words] using hl)
  have hcarried : (outSlots supervise s OutRun.start (slots.take n)).2.carried = [] :=
    outSlots_before (Q := fun _ d => d.carried = []) hsup hf hr
      (fun u d x hu hx hq => (outSlot_carried supervise (hu ▸ hx)).trans hq) rfl
  have hlen : (outSlots supervise s OutRun.start (slots.take n)).2.done.length = n :=
    hm.follows.length_done.trans (length_take_of_getElem? hf.1)
  have hw := rackWritten_rackOut (supervise := supervise) (hm.sameSetup ▸ hacts) hcarried
  rw [hlen] at hw
  rw [outSlots_split s hf.1]
  exact outSlots_after hsup (hm.outSlot hsup sl) hr (by simp)
    (fun u d x hu hx hq => RackWritten.outSlot hsup hq (hu ▸ hx)) hw

/-- Without a RACK_OUT slot that is acted on no message is carried. -/
theorem outSlots_carried_nil {supervise : State → Arm → List Byte → State × List Byte} (hsup : Supervises supervise) {s : State}
    {slots : List Slot} (h : ∀ n sl, ¬ s.ActsOnRackOut slots n sl) : (outSlots supervise s OutRun.start slots).2.carried = [] := by
  refine (outSlots_induct (P := fun handled u d => d.Recalls s.setup handled u ∧ d.carried = [])
    ⟨OutRun.Recalls.start s, rfl⟩ ?_).2
  intro handled sl rest u d hs ⟨hd, hc⟩
  refine ⟨hd.outSlot hsup sl, (outSlot_carried supervise fun ha => ?_).trans hc⟩
  rw [hd.sameSetup] at ha
  have hn : slots[handled.length]? = some sl := by simp [hs]
  have ht : slots.take handled.length = handled := by simp [hs]
  obtain ⟨hk, haddr⟩ := outRoute_rackOut_iff.1 ha.1
  exact h handled.length sl ⟨OutRun.Recalls.firstOfRow (ht.symm ▸ hd) hn ha, hk, haddr, by simpa [OutRoute.words] using ha.2.2⟩

/-! ### The frame is placed -/

theorem messageSent_eq (s : State) : messageSent s = s.setRack (messageSent s).rack := by
  unfold messageSent
  split
  · split <;> rfl
  · rfl

theorem State.txFull_iff (s : State) (p : Port) : s.txFull p = true ↔ ¬ s.Room p := by
  rw [State.room_iff, State.txFull, decide_eq_true_eq, Config.transmitDepth, Nat.not_lt]

theorem placeOut_of_room {s : State} (h : s.Room .d) (f : CycleFrame) (carried : List (RackTag × Nat)) :
    placeOut s f carried = s.setLink { s.link with
      lastOutbound := some f.cycle
      txD := s.link.txD ++ [.out (withholdDiscarded s.rack carried f) (carryingSlot s.rack carried)] } := by
  have hf : s.txFull .d = false := by rw [Bool.eq_false_iff, ne_eq, State.txFull_iff, not_not]; exact h
  have hf' : (s.setLink { s.link with lastOutbound := some f.cycle }).txFull .d = false := hf
  simp only [placeOut, hf, State.placeTx, hf', Bool.false_eq_true, if_false]
  rfl

theorem placeOut_of_full {s : State} (h : ¬ s.Room .d) (f : CycleFrame) (carried : List (RackTag × Nat)) :
    placeOut s f carried =
      if (carryingSlot s.rack carried).isSome then messageSent (s.setLink { s.link with lastOutbound := some f.cycle })
      else s.setLink { s.link with lastOutbound := some f.cycle } := by
  simp only [placeOut, (State.txFull_iff s .d).2 h, if_true]

/-- Placing a frame touches link block and rack channel alone. -/
theorem placeOut_eq (s : State) (f : CycleFrame) (carried : List (RackTag × Nat)) :
    placeOut s f carried = (s.setLink (placeOut s f carried).link).setRack (placeOut s f carried).rack := by
  by_cases h : s.Room .d
  · rw [placeOut_of_room h]; rfl
  · rw [placeOut_of_full h]
    split
    · rw [messageSent_eq]; rfl
    · rfl

theorem placeOut_link_of_full {s : State} (h : ¬ s.Room .d) (f : CycleFrame) (carried : List (RackTag × Nat)) :
    (placeOut s f carried).link = { s.link with lastOutbound := some f.cycle } := by
  rw [placeOut_of_full h]
  split
  · rw [messageSent_eq]; rfl
  · rfl

theorem withholdDiscarded_nil (r : Rack) (f : CycleFrame) : withholdDiscarded r [] f = f := rfl

theorem carryingSlot_nil (r : Rack) : carryingSlot r [] = none := rfl

theorem withholdDiscarded_still {r : Rack} {tag : RackTag} (n : Nat) (f : CycleFrame) (h : stillCarried r tag = true) :
    withholdDiscarded r [(tag, n)] f = f := by
  simp [withholdDiscarded, h]

theorem carryingSlot_still {r : Rack} {tag : RackTag} (n : Nat) (h : stillCarried r tag = true) : carryingSlot r [(tag, n)] = some n := by
  simp [carryingSlot, h]

theorem stillCarried_carried {r : Rack} {m : RackMessage} (h : r.message = some { m with phase := .carried }) :
    stillCarried r m.tag = true := by
  simp [stillCarried, h]

/-- The state in which a frame is placed, and what the command leaves of the placing: queue, rack channel and time. -/
structure Placed (s u : State) (cycle : CycleNumber) (d : OutRun) (t : State) : Prop where
  before : u.link.txD = s.link.txD
  setup : u.setup = s.setup
  queue : t.link.txD = (placeOut u { cycle := cycle, slots := d.done } d.carried).link.txD
  rack : t.rack = (placeOut u { cycle := cycle, slots := d.done } d.carried).rack
  now : t.now = u.now

section
variable {s u t : State} {cycle : CycleNumber} {d : OutRun} (hp : Placed s u cycle d t)
include hp

theorem Placed.room : u.Room .d ↔ s.Room .d := by
  rw [State.room_iff, State.room_iff]
  have htx : u.link.tx .d = s.link.tx .d := hp.before
  rw [htx]

theorem Placed.txD (h : s.Room .d) : t.link.txD =
    s.link.txD ++ [.out (withholdDiscarded u.rack d.carried { cycle := cycle, slots := d.done }) (carryingSlot u.rack d.carried)] := by
  rw [hp.queue, placeOut_of_room (hp.room.2 h), ← hp.before]
  rfl

theorem Placed.txD_full (h : ¬ s.Room .d) : t.link.txD = s.link.txD := by
  rw [hp.queue, placeOut_link_of_full (mt hp.room.1 h), ← hp.before]

/-- The TARGET slot of a placed frame is the one done. -/
theorem Placed.sentTarget {handled : List Slot} (hd : d.Follows handled) {n : Nat} {sl : Slot} {w : List Byte} {enable marker : Bool}
    {targets : Option (Triple Int)} (hk : sl.kind = 0x10) (hn : d.done[n]? = some { sl with payload := w })
    (hw : TargetWritten sl.payload w enable marker targets) : s.SentTarget t n sl enable marker targets := by
  intro hroom
  obtain ⟨hframe, hslots⟩ := placed_eq u.rack hd cycle
  refine ⟨_, _, w, hframe ▸ hp.txD hroom, ?_, hw⟩
  obtain ⟨hlt, he⟩ := List.getElem?_eq_some_iff.1 hn
  have hlt' : n < (placedSlots u.rack d cycle).length := hslots.length_eq ▸ hlt
  have hx := hslots.get hlt hlt'
  simp only [List.get_eq_getElem, he] at hx
  rw [List.getElem?_eq_getElem hlt']
  exact congrArg some (hx.other (by simp [hk]))

/-- The RACK_OUT slot of a placed frame is the one done (R120). -/
theorem Placed.sentRackOut {r : Rack} {n : Nat} {sl : Slot} (hw : RackWritten r n sl u d) : s.SentRackOut t r n sl := by
  refine ⟨fun m hm hph => ?_, fun hn hroom => ?_⟩
  · obtain ⟨hmsg, hc, hd⟩ := hw.1 m ⟨hm, hph⟩
    have hstill := stillCarried_carried hmsg
    have hbytes : messageBytes m = [1, byteOf m.tag.toNat, match m.command with | .openPort => 1 | .closePort => 2, byteOf m.station] := by
      cases hcmd : m.command <;> simp [messageBytes, portCommandCode, hcmd, byteOf]
    rw [hbytes] at hd
    refine ⟨fun hroom => ⟨{ cycle := cycle, slots := d.done }, ?_, hd, ?_⟩, fun hfull => ?_⟩
    · rw [hp.txD hroom, hc, withholdDiscarded_still n _ hstill, carryingSlot_still n hstill]
    · rw [hp.rack, placeOut_of_room (hp.room.2 hroom)]; exact hmsg
    · rw [hp.rack, placeOut_of_full (mt hp.room.1 hfull), hc, carryingSlot_still n hstill, hp.now, ← hp.setup]
      have hsent := messageSent_of_carried (s := u.setLink { u.link with lastOutbound := some cycle }) hmsg rfl
      simp only [Option.isSome_some, if_true, hsent]
      exact ⟨rfl, rfl⟩
  · obtain ⟨hc, hd⟩ := hw.2 hn
    refine ⟨{ cycle := cycle, slots := d.done }, ?_, hd⟩
    rw [hp.txD hroom, hc, withholdDiscarded_nil, carryingSlot_nil]

/-- A frame placed without a message carries none. -/
theorem Placed.carriesNone (hc : d.carried = []) (hroom : s.Room .d) : ∃ g, t.link.txD = s.link.txD ++ [.out g none] :=
  ⟨_, by rw [hp.txD hroom, hc, carryingSlot_nil]⟩

end

end Sys2Proof.Machine
end

section
/-! A stop's effect on the rack channel does not depend on time, link block or notice list: HALTED entered now or at an expiry (R20). -/

namespace Sys2Proof.Machine

/-- Two states agree but for time, link block, notice list and the phase timers. -/
def Retimed (s t : State) : Prop :=
  ∃ n l x p q, t = { s with
    now := n, link := l, notices := x
    sequencer := ⟨{ s.sequencer.a with phaseTimer := p }, { s.sequencer.b with phaseTimer := q }⟩ }

section
variable {s t : State} (h : Retimed s t)
include h

theorem Retimed.rack : t.rack = s.rack := by obtain ⟨n, l, x, p, q, rfl⟩ := h; rfl
theorem Retimed.supervision : t.supervision = s.supervision := by obtain ⟨n, l, x, p, q, rfl⟩ := h; rfl

theorem Retimed.sequencer (arm : Arm) : ∃ p, t.sequencer.get arm = { s.sequencer.get arm with phaseTimer := p } := by
  obtain ⟨n, l, x, p, q, rfl⟩ := h
  cases arm
  · exact ⟨p, rfl⟩
  · exact ⟨q, rfl⟩

theorem Retimed.setRack (r : Rack) : Retimed (s.setRack r) (t.setRack r) := by
  obtain ⟨n, l, x, p, q, rfl⟩ := h
  exact ⟨n, l, x, p, q, rfl⟩

theorem Retimed.setSupervision (arm : Arm) (v : Supervision) : Retimed (s.setSupervision arm v) (t.setSupervision arm v) := by
  obtain ⟨n, l, x, p, q, rfl⟩ := h
  exact ⟨n, l, x, p, q, rfl⟩

theorem Retimed.raise (k : NoticeKind) (j : Subject) (d : Nat) : Retimed (s.raise k j d) (t.raise k j d) := by
  obtain ⟨n, l, x, p, q, rfl⟩ := h
  exact ⟨n, l, _, p, q, rfl⟩

theorem Retimed.setSequencer (arm : Arm) (v : Sequencer) (p : Option Nat) :
    Retimed (s.setSequencer arm v) (t.setSequencer arm { v with phaseTimer := p }) := by
  obtain ⟨n, l, x, pa, pb, rfl⟩ := h
  cases arm
  · exact ⟨n, l, x, p, pb, rfl⟩
  · exact ⟨n, l, x, pa, p, rfl⟩

theorem Retimed.suspendCapture (arm : Arm) : Retimed (suspendCapture s arm) (suspendCapture t arm) := by
  obtain ⟨n, l, x, p, q, rfl⟩ := h
  unfold Machine.suspendCapture
  dsimp only
  split
  · exact ⟨n, l, x, p, q, rfl⟩
  · exact ⟨n, l, x, p, q, rfl⟩

theorem Retimed.offer (arm : Arm) (c : PortCommand) (station : Nat) : Retimed (offer s arm c station) (offer t arm c station) := by
  unfold Machine.offer
  rw [h.rack]
  exact h.setRack _

theorem Retimed.enterOpening (arm : Arm) (st : SeqState) (station : Nat) :
    Retimed (enterOpening s arm st station) (enterOpening t arm st station) := by
  obtain ⟨p, hq⟩ := h.sequencer arm
  unfold Machine.enterOpening startPhase
  rw [hq]
  exact (h.offer arm .openPort station).setSequencer arm
    { s.sequencer.get arm with portMark := some station, state := st, phaseTimer := State.after _ _ } _

theorem Retimed.grantOpening (arm : Arm) : Retimed (grantOpening s arm) (grantOpening t arm) := by
  obtain ⟨p, hq⟩ := h.sequencer arm
  unfold Machine.grantOpening
  rw [hq]
  dsimp only
  split
  · split
    · exact h.enterOpening arm _ _
    · exact h.enterOpening arm _ _
    · exact h
  · exact h

theorem Retimed.releaseRack (arm : Arm) : Retimed (releaseRack s arm) (releaseRack t arm) := by
  unfold Machine.releaseRack
  rw [h.rack]
  dsimp only
  split
  · exact (h.setRack _).grantOpening _
  · exact h.setRack _

theorem Retimed.endChange (arm : Arm) : Retimed (endChange s arm) (endChange t arm) :=
  (h.setSequencer arm Sequencer.initial none).releaseRack arm

theorem Retimed.enterReclosing (arm : Arm) : Retimed (enterReclosing s arm) (enterReclosing t arm) := by
  obtain ⟨p, hq⟩ := h.sequencer arm
  unfold Machine.enterReclosing
  rw [hq]
  dsimp only
  split
  · exact (h.offer arm .closePort _).setSequencer arm { s.sequencer.get arm with state := .reclosing } p
  · exact h.endChange arm

theorem Retimed.wayBack (arm : Arm) : Retimed (wayBack s arm) (wayBack t arm) := by
  obtain ⟨p, hq⟩ := h.sequencer arm
  unfold Machine.wayBack enterClearing
  rw [hq]
  have hc := h.setSequencer arm { s.sequencer.get arm with state := .clearing } p
  dsimp only
  split
  · split
    · exact hc
    · exact hc.enterReclosing arm
  · exact h.endChange arm

theorem Retimed.failPhase (arm : Arm) (c : FailureCause) : Retimed (failPhase s arm c) (failPhase t arm c) := by
  obtain ⟨p, hq⟩ := h.sequencer arm
  have h1 := (h.setSequencer arm { s.sequencer.get arm with phaseTimer := none } none).raise .changeFailed (.arm arm) (failureCode c)
  obtain ⟨p1, hq1⟩ := h1.sequencer arm
  unfold Machine.failPhase
  rw [hq]
  dsimp only at h1 hq1 ⊢
  rw [h1.rack, hq1]
  split
  · exact h1.setSequencer arm { State.sequencer _ |>.get arm with state := .winding } p1
  · exact h1.wayBack arm

theorem Retimed.failChange (arm : Arm) (c : FailureCause) : Retimed (failChange s arm c) (failChange t arm c) := by
  obtain ⟨p, hq⟩ := h.sequencer arm
  unfold Machine.failChange failQueued
  rw [hq]
  dsimp only
  split
  any_goals exact h
  · have h1 := h.raise .changeFailed (.arm arm) (failureCode c)
    rw [h1.rack]
    exact (h1.setRack _).setSequencer arm Sequencer.initial none
  · exact h.failPhase arm c

theorem Retimed.toldStopped (arm : Arm) : Retimed (toldStopped s arm) (toldStopped t arm) := by
  obtain ⟨p, hq⟩ := h.sequencer arm
  unfold Machine.toldStopped
  rw [hq]
  dsimp only
  split
  any_goals exact h.failChange arm .armStopped
  exact h

theorem Retimed.stopArm (arm : Arm) (c : StopCause) : Retimed (stopArm s arm c) (stopArm t arm c) := by
  unfold Machine.stopArm
  rw [h.supervision]
  dsimp only
  split
  · exact h
  · exact (((h.setSupervision arm _).raise .armStopped (.arm arm) (stopCauseCode c)).toldStopped arm).suspendCapture arm

end

/-- The rack channel after HALTED is entered is the same at another time and with another link block and notice list. -/
theorem enterHalted_rack {s t : State} (h : Retimed s t) : (enterHalted t).rack = (enterHalted s).rack := by
  obtain ⟨n, l, x, p, q, rfl⟩ := h
  have h0 : Retimed (s.setLink { s.link with watch := .halted, bridgeTimer := none })
      (State.setLink { s with
        now := n, link := l, notices := x
        sequencer := ⟨{ s.sequencer.a with phaseTimer := p }, { s.sequencer.b with phaseTimer := q }⟩ }
        { l with watch := .halted, bridgeTimer := none }) := ⟨n, _, x, p, q, rfl⟩
  exact ((h0.stopArm .a .linkLoss).stopArm .b .linkLoss).rack

end Sys2Proof.Machine
end

section
/-! What supervising a TARGET slot leaves, and originated frames: the watch and the origination timer (R18 to R20, R23, R24, R92). -/

namespace Sys2Proof.Machine

/-! ### An outstanding message stays outstanding while an arm is stopped -/

/-- The outstanding messages of a rack channel stay in another. -/
def Rack.keepsMessage (r r' : Rack) : Prop := ∀ m, r.message = some m → r'.message = some m

theorem Rack.keepsMessage.trans {r r' r'' : Rack} (h : r.keepsMessage r') (h' : r'.keepsMessage r'') : r.keepsMessage r'' :=
  fun m hm => h' m (h m hm)

theorem Rack.keepsMessage_of_eq {r r' : Rack} (h : r'.message = r.message) : r.keepsMessage r' := fun _ hm => h.trans hm

theorem offer_keepsMessage (s : State) (arm : Arm) (c : PortCommand) (station : Nat) : s.rack.keepsMessage (offer s arm c station).rack := by
  intro m hm
  simp [offer, offerMessage, hm]

theorem grantOpening_keepsMessage (s : State) (arm : Arm) : s.rack.keepsMessage (grantOpening s arm).rack := by
  unfold grantOpening
  dsimp only
  split
  · split
    · exact offer_keepsMessage s arm .openPort _
    · exact offer_keepsMessage s arm .openPort _
    · exact Rack.keepsMessage_of_eq rfl
  · exact Rack.keepsMessage_of_eq rfl

theorem releaseHolder_message (r : Rack) (arm : Arm) : (releaseHolder r arm).1.message = r.message := by
  unfold releaseHolder
  split <;> rfl

theorem releaseRack_keepsMessage (s : State) (arm : Arm) : s.rack.keepsMessage (releaseRack s arm).rack := by
  have hr : s.rack.keepsMessage (s.setRack (releaseHolder s.rack arm).1).rack := Rack.keepsMessage_of_eq (releaseHolder_message s.rack arm)
  unfold releaseRack
  dsimp only
  split
  · exact hr.trans (grantOpening_keepsMessage _ _)
  · exact hr

theorem enterReclosing_keepsMessage (s : State) (arm : Arm) : s.rack.keepsMessage (enterReclosing s arm).rack := by
  unfold enterReclosing
  dsimp only
  split
  · exact offer_keepsMessage s arm .closePort _
  · exact releaseRack_keepsMessage (s.setSequencer arm Sequencer.initial) arm

theorem wayBack_keepsMessage (s : State) (arm : Arm) : s.rack.keepsMessage (wayBack s arm).rack := by
  unfold wayBack enterClearing
  dsimp only
  split
  · split
    · exact Rack.keepsMessage_of_eq rfl
    · exact enterReclosing_keepsMessage (s.setSequencer arm _) arm
  · exact releaseRack_keepsMessage (s.setSequencer arm Sequencer.initial) arm

theorem withdrawRack_message (r : Rack) (arm : Arm) : (withdrawRack r arm).message = r.message := by
  unfold withdrawRack
  split <;> rfl

theorem failChange_keepsMessage (s : State) (arm : Arm) (c : FailureCause) : s.rack.keepsMessage (failChange s arm c).rack := by
  unfold failChange
  split
  any_goals exact Rack.keepsMessage_of_eq rfl
  · exact Rack.keepsMessage_of_eq (withdrawRack_message _ arm)
  · unfold failPhase
    dsimp only
    split
    · exact Rack.keepsMessage_of_eq rfl
    · exact wayBack_keepsMessage ((s.setSequencer arm _).raise _ _ _) arm

theorem stopArm_keepsMessage (s : State) (arm : Arm) (c : StopCause) : s.rack.keepsMessage (stopArm s arm c).rack := by
  unfold stopArm
  dsimp only
  split
  · exact Rack.keepsMessage_of_eq rfl
  · rw [suspendCapture_eq]
    unfold toldStopped
    split
    any_goals exact failChange_keepsMessage ((s.setSupervision arm _).raise _ _ _) arm .armStopped
    exact Rack.keepsMessage_of_eq rfl

/-! ### What supervising a TARGET slot leaves -/

section
variable {s : State} {arm : Arm}

/-- The TARGET slot of a STOPPED arm, and of one without a setpoint (R92). -/
theorem targetSlot_stopped (payload : List Byte)
    (h : (s.supervision.get arm).state = .stopped ∨ (s.supervision.get arm).setpoint = none) :
    targetSlot s arm payload = (s, stoppedTarget (s.supervision.get arm) payload) := by
  unfold targetSlot
  dsimp only
  split
  · rfl
  · rename_i hp hn
    rcases h with h | h
    · exact absurd h hn
    · rw [h] at hp; cases hp
  · rfl

/-- The TARGET slot of a FREE or HELD arm with a setpoint (R93 to R97). -/
theorem targetSlot_running (payload : List Byte) {p : Triple Int} (h : (s.supervision.get arm).state ≠ .stopped)
    (hp : (s.supervision.get arm).setpoint = some p) : targetSlot s arm payload = supervisedTarget s arm p payload := by
  unfold targetSlot
  dsimp only
  split
  · exact absurd ‹_› h
  · rename_i hq _
    rw [hp] at hq
    rw [Option.some.inj hq]
  · rename_i hq _
    rw [hp] at hq; cases hq

/-- All that a TARGET slot does to the state: nothing, the supervision of its arm, or a stop of its arm after that (R92, R96, R97). -/
theorem targetSlot_state_cases (s : State) (arm : Arm) (payload : List Byte) :
    (targetSlot s arm payload).1 = s ∨ (∃ v, (targetSlot s arm payload).1 = s.setSupervision arm v) ∨
    (∃ v, (s.supervision.get arm).state ≠ .stopped ∧
      (targetSlot s arm payload).1 = stopArm (s.setSupervision arm v) arm .holdLimit) := by
  by_cases h : (s.supervision.get arm).state = .stopped
  · exact .inl (congrArg Prod.fst (targetSlot_stopped payload (.inl h)))
  · cases hp : (s.supervision.get arm).setpoint with
    | none => exact .inl (congrArg Prod.fst (targetSlot_stopped payload (.inr hp)))
    | some p =>
      rw [targetSlot_running payload h hp]
      unfold supervisedTarget
      dsimp only
      split
      · exact .inr (.inl ⟨_, rfl⟩)
      · split
        · exact .inr (.inr ⟨_, h, rfl⟩)
        · exact .inr (.inl ⟨_, rfl⟩)

end

/-- A TARGET slot changes no more than a stop does. -/
theorem targetSlot_sansHalt (s : State) (arm : Arm) (payload : List Byte) : (targetSlot s arm payload).1.sansHalt = s.sansHalt := by
  rcases targetSlot_state_cases s arm payload with e | ⟨v, e⟩ | ⟨v, _, e⟩
  · rw [e]
  · rw [e]; rfl
  · rw [e, stopArm_sansHalt]; rfl

theorem targetSlot_keepsMessage (s : State) (arm : Arm) (payload : List Byte) : s.rack.keepsMessage (targetSlot s arm payload).1.rack := by
  rcases targetSlot_state_cases s arm payload with e | ⟨v, e⟩ | ⟨v, _, e⟩
  · rw [e]; exact Rack.keepsMessage_of_eq rfl
  · rw [e]; exact Rack.keepsMessage_of_eq rfl
  · rw [e]; exact stopArm_keepsMessage (s.setSupervision arm v) arm .holdLimit

theorem supervises_targetSlot : Supervises targetSlot where
  length := fun s arm _ h => targetSlot_length h s arm
  setup := fun s arm payload => (sameButHalt_of_sansHalt (targetSlot_sansHalt s arm payload)).setup
  message := fun s arm payload => targetSlot_keepsMessage s arm payload

/-! ### The slots of an originated frame -/

/-- What the link block does with a TARGET slot of a frame that it originates (R23). -/
def composeTarget (s : State) (arm : Arm) (payload : List Byte) : State × List Byte :=
  (s, originatedTarget (s.supervision.get arm) payload)

theorem originatedSlots_eq (s : State) (f : CycleFrame) : originatedSlots s f = outSlots composeTarget s OutRun.start f.slots := rfl

theorem supervises_composeTarget : Supervises composeTarget where
  length := fun s arm _ h => originatedTarget_length h (s.supervision.get arm)
  setup := fun _ _ _ => rfl
  message := fun _ _ _ _ h => h

/-- A slot that is not a RACK_OUT slot acted on leaves the state. -/
theorem outSlot_compose_state {s : State} {d : OutRun} {sl : Slot} (h : ¬ d.acts s.setup sl .rackOut) :
    (outSlot composeTarget s d sl).1 = s := by
  rcases d.acts_cases s.setup sl with ⟨arm, ha⟩ | ha | ha
  · rw [outSlot_target ha]; rfl
  · exact absurd ha h
  · rw [outSlot_other ha]

theorem outSlot_compose_rack (s : State) (d : OutRun) (sl : Slot) :
    (outSlot composeTarget s d sl).1 = s.setRack (outSlot composeTarget s d sl).1.rack := by
  by_cases h : d.acts s.setup sl .rackOut
  · rw [outSlot_rackOut h]; exact rackOutSlot_state s sl.payload
  · rw [outSlot_compose_state h]; rfl

theorem outSlots_compose_rack (s : State) (slots : List Slot) :
    (outSlots composeTarget s OutRun.start slots).1 = s.setRack (outSlots composeTarget s OutRun.start slots).1.rack :=
  outSlots_induct (P := fun _ u _ => u = s.setRack u.rack) rfl fun _ sl _ u d _ hu =>
    have hsub (r : Rack) : u.setRack r = s.setRack r := by rw [hu]; rfl
    (outSlot_compose_rack u d sl).trans (hsub _)

/-- The TARGET slot of an arm in an originated frame is composed from the arm's supervision state (R23). -/
theorem outSlots_compose_target {s : State} {slots : List Slot} {arm : Arm} {n : Nat} {sl : Slot} (h : s.ActsOnTarget arm slots n sl) :
    (outSlots composeTarget s OutRun.start slots).2.done[n]? =
      some { sl with payload := originatedTarget (s.supervision.get arm) sl.payload } := by
  obtain ⟨hne, hf, hk, ha, hl⟩ := h
  have hr : outRoute s.setup sl = some (.target arm) := outRoute_target_iff.2 ⟨hk, armAt_of_address hne ha⟩
  have hm := outSlots_recalls supervises_composeTarget s (slots.take n)
  have hacts := hm.follows.acts hf hr (by simpa [OutRoute.words] using hl)
  have hlen := hm.follows.length_done.trans (length_take_of_getElem? hf.1)
  rw [outSlots_split s hf.1]
  refine outSlots_after (Q := fun _ d => d.done[n]? = some _) supervises_composeTarget (hm.outSlot supervises_composeTarget sl) hr
    (by simp) (fun u d x _ _ hq => outSlot_done_of_some composeTarget u x hq) ?_
  rw [outSlot_target (hm.sameSetup ▸ hacts), outSlots_compose_rack]
  simp [OutRun.with, composeTarget, hlen]

/-- The RACK_OUT slot of an originated frame is written by the rack channel as the frame finds it (R120). -/
theorem outSlots_compose_rackOut {s : State} {slots : List Slot} {n : Nat} {sl : Slot} (h : s.ActsOnRackOut slots n sl) :
    RackWritten s.rack n sl (outSlots composeTarget s OutRun.start slots).1 (outSlots composeTarget s OutRun.start slots).2 := by
  have hr : outRoute s.setup sl = some .rackOut := outRoute_rackOut_iff.2 ⟨h.2.1, h.2.2.1⟩
  have hrack : (outSlots composeTarget s OutRun.start (slots.take n)).1.rack = s.rack :=
    outSlots_before (Q := fun u _ => u.rack = s.rack) supervises_composeTarget h.1 hr
      (fun u d x hu hx hq => (congrArg State.rack (outSlot_compose_state (hu ▸ hx))).trans hq) rfl
  have hw := outSlots_rackWritten supervises_composeTarget h
  rwa [hrack] at hw

/-! ### One frame is originated and the origination timer started -/

section
variable {s : State} {f : CycleFrame} {k : CycleNumber}

/-- The number of an originated frame and its slots handled: the state in which it is placed, and the run. -/
def originatedRun (s : State) (f : CycleFrame) (cycle : CycleNumber) : State × OutRun :=
  outSlots composeTarget (s.setCurrentCycle cycle) OutRun.start f.slots

/-- The state in which an originated frame is placed: the current cycle number, and perhaps the rack channel. -/
theorem originatedRun_state (s : State) (f : CycleFrame) (cycle : CycleNumber) :
    (originatedRun s f cycle).1 = (s.setCurrentCycle cycle).setRack (originatedRun s f cycle).1.rack :=
  outSlots_compose_rack _ _

/-- The placing of an originated frame. -/
def originatedPlaced (s : State) (f : CycleFrame) (cycle : CycleNumber) : State :=
  placeOut (originatedRun s f cycle).1 { cycle := cycle, slots := (originatedRun s f cycle).2.done } (originatedRun s f cycle).2.carried

theorem originate_eq (ht : s.link.template = some f) (hk : originatedNumber s.link = k) :
    originate s = if s.txFull .d then originatedPlaced s f k else
      (originatedPlaced s f k).setLink { (originatedPlaced s f k).link with
        outstanding := listNumber (originatedPlaced s f k).link.outstanding k } := by
  simp only [originate, ht, hk, originatedSlots_eq]
  rfl

theorem originatedNumber_of_some {l : Link} (h : l.lastOutbound = some k) : originatedNumber l = k + 1 := by
  simp [originatedNumber, h]

/-- What an originated frame leaves: link block, rack channel and current cycle number change, and of the link block the D queue, the last
outbound number, the list of outstanding numbers and the origination timer. -/
structure Originates (s : State) (f : CycleFrame) (cycle : CycleNumber) (t : State) : Prop where
  state : t = ((s.setCurrentCycle cycle).setRack t.rack).setLink { s.link with
    lastOutbound := some cycle
    originationTimer := some (s.now + s.setup.cyclePeriod)
    txD := t.link.txD
    outstanding := t.link.outstanding }
  placed : Placed s (originatedRun s f cycle).1 cycle (originatedRun s f cycle).2 t
  listed : s.Room .d → t.link.outstanding.getLast? = some cycle
  notListed : ¬ s.Room .d → t.link.outstanding = s.link.outstanding

/-- The placing of an originated frame touches the current cycle number, the rack channel, the last outbound number and the D queue. -/
theorem originatedPlaced_form (s : State) (f : CycleFrame) (cycle : CycleNumber) : ∃ r q, originatedPlaced s f cycle =
    ((s.setCurrentCycle cycle).setRack r).setLink { s.link with lastOutbound := some cycle, txD := q } := by
  have hrun : (originatedRun s f cycle).1.link = s.link := by rw [originatedRun_state]; rfl
  have hlink : (originatedPlaced s f cycle).link =
      { s.link with lastOutbound := some cycle, txD := (originatedPlaced s f cycle).link.txD } := by
    unfold originatedPlaced
    by_cases h : (originatedRun s f cycle).1.Room .d
    · rw [placeOut_of_room h, hrun]; rfl
    · rw [placeOut_link_of_full h, hrun]
  have hsub (l : Link) (r : Rack) :
      ((originatedRun s f cycle).1.setLink l).setRack r = ((s.setCurrentCycle cycle).setRack r).setLink l := by
    rw [originatedRun_state]; rfl
  refine ⟨(originatedPlaced s f cycle).rack, (originatedPlaced s f cycle).link.txD, ?_⟩
  rw [← hlink]
  exact (placeOut_eq _ _ _).trans (hsub _ _)

end

end Sys2Proof.Machine
end

section
/-! The watch timer and the origination timer expire: one originated frame, and BRIDGING or HALTED (R18 to R20, R23, R24). -/

namespace Sys2Proof.Machine

theorem listNumber_getLast? (list : List CycleNumber) (c : CycleNumber) : (listNumber list c).getLast? = some c := by
  simp [listNumber]

/-- The frame that `originateAndStart` originates. -/
theorem originateAndStart_originates {s : State} {f : CycleFrame} {k : CycleNumber} (ht : s.link.template = some f)
    (hk : originatedNumber s.link = k) : Originates s f k (originateAndStart s) := by
  obtain ⟨r, q, hp⟩ := originatedPlaced_form s f k
  have hrun := originatedRun_state s f k
  have hset : (originatedRun s f k).1.setup = s.setup := by rw [hrun]; rfl
  have hnow : s.now = (originatedRun s f k).1.now := by rw [hrun]; rfl
  have htx : (originatedRun s f k).1.link.txD = s.link.txD := by rw [hrun]; rfl
  have hq : q = (originatedPlaced s f k).link.txD := by rw [hp]; rfl
  have hr : r = (originatedPlaced s f k).rack := by rw [hp]; rfl
  have heq := originate_eq ht hk
  rw [hp] at heq
  by_cases hroom : s.Room .d
  · have hf : s.txFull .d = false := by rw [Bool.eq_false_iff, ne_eq, State.txFull_iff, not_not]; exact hroom
    rw [hf, if_neg Bool.false_ne_true] at heq
    rw [originateAndStart, heq]
    exact ⟨rfl, ⟨htx, hset, hq, hr, hnow⟩, fun _ => listNumber_getLast? _ _, fun h => absurd hroom h⟩
  · rw [(State.txFull_iff s .d).2 hroom, if_pos rfl] at heq
    rw [originateAndStart, heq]
    exact ⟨rfl, ⟨htx, hset, hq, hr, hnow⟩, fun h => absurd h hroom, fun _ => rfl⟩

/-- The same placing seen from an earlier state with the same D queue and SETUP record. -/
theorem Placed.of_earlier {s s' u t : State} {cycle : CycleNumber} {d : OutRun} (h : Placed s u cycle d t)
    (htx : s.link.txD = s'.link.txD) (hset : s.setup = s'.setup) : Placed s' u cycle d t :=
  ⟨h.before.trans htx, h.setup.trans hset, h.queue, h.rack, h.now⟩

/-- The slots of an originated frame: the template's, but for TARGET and RACK_OUT payloads. -/
theorem originatedRun_follows (s : State) (f : CycleFrame) (cycle : CycleNumber) : (originatedRun s f cycle).2.Follows f.slots :=
  outSlots_follows supervises_composeTarget.length _ _

/-- The slots of the frame that is placed. -/
def originatedFrame (s : State) (f : CycleFrame) (cycle : CycleNumber) : List Slot :=
  placedSlots (originatedRun s f cycle).1.rack (originatedRun s f cycle).2 cycle

/-- The slot of that frame that carries the outstanding message. -/
def originatedCarries (s : State) (f : CycleFrame) (cycle : CycleNumber) : Option Nat :=
  carryingSlot (originatedRun s f cycle).1.rack (originatedRun s f cycle).2.carried

theorem originatedFrame_rewritten (s : State) (f : CycleFrame) (cycle : CycleNumber) :
    List.Forall₂ (Rewritten [0x10, 0x14]) f.slots (originatedFrame s f cycle) :=
  placedSlots_rewritten _ (originatedRun_follows s f cycle) cycle

section
variable {s s' t : State} {f : CycleFrame} {cycle : CycleNumber} (h : Originates s f cycle t)
include h

theorem Originates.txD (hroom : s.Room .d) : t.link.txD = s.link.txD ++
    [.out { cycle := cycle, slots := originatedFrame s f cycle } (originatedCarries s f cycle)] := by
  rw [h.placed.txD hroom, (placed_eq _ (originatedRun_follows s f cycle) cycle).1]
  rfl

variable (htx : s.link.txD = s'.link.txD) (hset : s.setup = s'.setup)
include htx hset

/-- Its TARGET slots (R23). -/
theorem Originates.sentOriginated {arm : Arm} {n : Nat} {sl : Slot} (ha : s'.ActsOnTarget arm f.slots n sl) :
    s'.SentOriginated t n sl (s.supervision.get arm) := by
  have hacts : (s.setCurrentCycle cycle).ActsOnTarget arm f.slots n sl := by
    have : (s.setCurrentCycle cycle).setup = s'.setup := hset
    rw [State.ActsOnTarget, this]; exact ha
  obtain ⟨-, -, hk, -, hl⟩ := ha
  have hdone := outSlots_compose_target hacts
  have hp := h.placed.of_earlier htx hset
  have hfollows := originatedRun_follows s f cycle
  unfold State.SentOriginated
  split
  · rename_i p hpos
    refine hp.sentTarget hfollows hk hdone ?_
    have hpos' : ((s.setCurrentCycle cycle).supervision.get arm).setpoint = some p := hpos
    simp only [originatedTarget, hpos']
    exact targetWritten_target hl _ _ _
  · rename_i hpos
    refine hp.sentTarget hfollows hk hdone ?_
    have hpos' : ((s.setCurrentCycle cycle).supervision.get arm).setpoint = none := hpos
    simp only [originatedTarget, hpos']
    exact targetWritten_flags hl _ _

/-- Its RACK_OUT slot (R120). -/
theorem Originates.sentRackOut {n : Nat} {sl : Slot} (ha : s'.ActsOnRackOut f.slots n sl) : s'.SentRackOut t s.rack n sl := by
  have hacts : (s.setCurrentCycle cycle).ActsOnRackOut f.slots n sl := by
    have : (s.setCurrentCycle cycle).setup = s'.setup := hset
    rw [State.ActsOnRackOut, this]; exact ha
  exact (h.placed.of_earlier htx hset).sentRackOut (outSlots_compose_rackOut hacts)

end

/-- Settles O21: the expiry is `originateAndStart` at the expiry. -/
theorem originationExpiry : Obligations.OriginationExpiry := by
  intro s hpin
  have runs : exec .originationTimerExpiry s = .next (originationTimerExpires s) :=
    congrArg Host.Outcome.next (State.unlessReset_runs _ hpin)
  rw [runs]
  refine ⟨fun h => by simp only [originationTimerExpires, h], fun at_ f k htimer htemplate hlast => ?_⟩
  have hexp : originationTimerExpires s = originateAndStart (s.reach at_) := by simp only [originationTimerExpires, htimer]
  have ho : Originates (s.reach at_) f (k + 1) (originateAndStart (s.reach at_)) := originateAndStart_originates htemplate (originatedNumber_of_some hlast)
  rw [hexp]
  generalize originateAndStart (s.reach at_) = t at ho
  have hslots := originatedFrame_rewritten (s.reach at_) f (k + 1)
  refine ⟨t, originatedFrame (s.reach at_) f (k + 1), _, rfl, ?_, ?_, ?_, ?_, ?_, sameShape_of_rewritten hslots,
    hslots.imp fun a b hr h1 h2 => hr.other (by simp only [List.mem_cons, List.not_mem_nil, or_false]; exact not_or.2 ⟨h1, h2⟩), fun arm n sl ha => ho.sentOriginated rfl rfl ha,
    fun n sl ha => ho.sentRackOut rfl rfl ha, fun hroom => ⟨ho.txD hroom, ho.listed hroom⟩,
    fun hfull => ⟨ho.placed.txD_full hfull, ho.notListed hfull⟩, ?_⟩
  all_goals rw [ho.state]
  any_goals rfl
  exact ⟨rfl, rfl, rfl, rfl, rfl, rfl, rfl, rfl, rfl, rfl, rfl⟩

/-- The part, its controller lost, when a frame is to be originated: BRIDGING with the bridge timer, or HALTED with both arms stopped. -/
def lost (s : State) (at_ : Nat) : State :=
  let s1 := ((s.reach at_).setLink { s.link with watchTimer := none }).raise .linkLoss .none 0
  if s.setup.bridgeTime = 0 then enterHalted s1
  else s1.setLink { s.link with watchTimer := none, watch := .bridging, bridgeTimer := some (max s.now at_ + s.setup.bridgeTime * 1000) }

/-- It is the part as it was but for the watch, its timers and what a stop may change. -/
structure LinkLost (s : State) (at_ : Nat) (b : State) : Prop where
  now : b.now = max s.now at_
  link : b.link = { s.link with watchTimer := none, watch := b.link.watch, bridgeTimer := b.link.bridgeTimer }
  tables : s.SameTables b
  queue : b.queue = s.queue
  head : b.head = s.head

theorem lost_halted {s : State} (at_ : Nat) (h : s.setup.bridgeTime = 0) :
    LinkLost s at_ (lost s at_) ∧ (lost s at_).link.watch = .halted ∧ (lost s at_).link.bridgeTimer = none ∧
    (lost s at_).rack = (enterHalted s).rack ∧ ∀ arm, ((lost s at_).supervision.get arm).state = .stopped := by
  unfold lost
  rw [if_pos h]
  have hr : Retimed s (((s.reach at_).setLink { s.link with watchTimer := none }).raise .linkLoss .none 0) :=
    ⟨_, _, _, s.sequencer.a.phaseTimer, s.sequencer.b.phaseTimer, rfl⟩
  have hrack := enterHalted_rack hr
  generalize hs1 : ((s.reach at_).setLink { s.link with watchTimer := none }).raise .linkLoss .none 0 = s1 at hrack
  have frame : SameButHalt (s1.setLink { s1.link with watch := .halted, bridgeTimer := none }) (enterHalted s1) :=
    sameButHalt_of_sansHalt ((stopArm_sansHalt _ _ _).trans (stopArm_sansHalt _ _ _))
  refine ⟨?_, by rw [frame.link]; rfl, by rw [frame.link]; rfl, hrack, fun arm => ?_⟩
  · obtain ⟨-, hnow, -, hlink, -, -, hhead, htables, -, -, -, hqueue⟩ := frame
    subst hs1
    exact ⟨hnow, by rw [hlink]; rfl, htables, hqueue, hhead⟩
  · rw [enterHalted, stopArm_supervision, stopArm_supervision]
    cases arm <;> exact Supervision.stoppedWith_state _ _

theorem lost_bridging {s : State} (at_ : Nat) (h : s.setup.bridgeTime ≠ 0) :
    LinkLost s at_ (lost s at_) ∧ (lost s at_).link.watch = .bridging ∧
    (lost s at_).link.bridgeTimer = some (max s.now at_ + s.setup.bridgeTime * 1000) ∧ (lost s at_).rack = s.rack ∧
    (lost s at_).supervision = s.supervision ∧ (lost s at_).notices = s.notices.enter .linkLoss .none 0 := by
  unfold lost
  rw [if_neg h]
  exact ⟨⟨rfl, rfl, ⟨rfl, rfl, rfl, rfl, rfl, rfl, rfl⟩, rfl, rfl⟩, rfl, rfl, rfl, rfl, rfl⟩

theorem watchTimerExpires_template {s : State} {at_ : Nat} {f : CycleFrame} (ht : s.link.watchTimer = some at_)
    (hf : s.link.template = some f) : watchTimerExpires s = originateAndStart (lost s at_) := by
  have hs : s.link.template.isSome = true := by rw [hf]; rfl
  simp only [watchTimerExpires, ht, hs, if_true]
  show (if s.setup.bridgeTime = 0 then _ else _) = originateAndStart (if s.setup.bridgeTime = 0 then _ else _)
  split <;> rfl

/-- What the frame originated at the loss of the controller leaves, whichever state is entered. -/
theorem LinkLost.originates {s b t : State} {at_ : Nat} {f : CycleFrame} {k : CycleNumber} (hb : LinkLost s at_ b)
    (h : Originates b f (k + 1) t) (hf : s.link.template = some f) :
    t.now = max s.now at_ ∧ t.link.watchTimer = none ∧ t.link.lastOutbound = some (k + 1) ∧ t.notices.currentCycle = k + 1 ∧
    t.link.originationTimer = some (max s.now at_ + s.setup.cyclePeriod) ∧ t.link.watch = b.link.watch ∧
    t.link.bridgeTimer = b.link.bridgeTimer ∧ t.supervision = b.supervision ∧ t.notices.entries = b.notices.entries ∧
    t.link.template = some f ∧ s.SameTables t ∧ t.queue = s.queue ∧ t.head = s.head := by
  obtain ⟨hnow, hlink, htables, hqueue, hhead⟩ := hb
  rw [h.state, ← hnow, ← htables.1]
  exact ⟨rfl, (congrArg Link.watchTimer hlink).trans rfl, rfl, rfl, rfl, rfl, rfl, rfl, rfl,
    ((congrArg Link.template hlink).trans rfl).trans hf, htables, hqueue, hhead⟩

/-- Settles O20: without a template by cases on the mark, with one by `lost` and the frame originated in it. -/
theorem watchExpiry : Obligations.WatchExpiry := by
  intro s hpin
  have runs : exec .watchTimerExpiry s = .next (watchTimerExpires s) := congrArg Host.Outcome.next (State.unlessReset_runs _ hpin)
  rw [runs]
  refine ⟨fun h => by simp only [watchTimerExpires, h], fun at_ h hf hm => ?_, fun at_ h hf hm => ?_, fun at_ f k h hf hk => ?_⟩
  · simp [watchTimerExpires, h, hf, hm, loseWithoutTemplate, State.reach, State.setLink, State.raise, State.setNotices]
  · simp [watchTimerExpires, h, hf, hm, loseWithoutTemplate, State.reach, State.setLink]
  · rw [watchTimerExpires_template h hf]
    have hlost : LinkLost s at_ (lost s at_) := by
      by_cases h0 : s.setup.bridgeTime = 0
      · exact (lost_halted at_ h0).1
      · exact (lost_bridging at_ h0).1
    have htx : (lost s at_).link.txD = s.link.txD := (congrArg Link.txD hlost.link).trans rfl
    have hroom_iff : (lost s at_).Room .d ↔ s.Room .d := by
      rw [State.room_iff, State.room_iff, show (lost s at_).link.tx .d = s.link.tx .d from htx]
    have hrack : (lost s at_).rack = if s.setup.bridgeTime = 0 then (enterHalted s).rack else s.rack := by
      split
      · exact (lost_halted at_ ‹_›).2.2.2.1
      · exact (lost_bridging at_ ‹_›).2.2.2.1
    have ho : Originates (lost s at_) f (k + 1) (originateAndStart (lost s at_)) :=
      originateAndStart_originates ((congrArg Link.template hlost.link).trans hf) (originatedNumber_of_some ((congrArg Link.lastOutbound hlost.link).trans hk))
    generalize originateAndStart (lost s at_) = t at ho
    obtain ⟨hnow, hwt, hlast, hcur, hot, hwatch, hbt, hsup, hent, htmpl, htab, hq, hh⟩ := hlost.originates ho hf
    have hslots := originatedFrame_rewritten (lost s at_) f (k + 1)
    refine ⟨t, originatedFrame (lost s at_) f (k + 1), originatedCarries (lost s at_) f (k + 1), rfl, hnow, hwt, hlast, hcur, hot, sameShape_of_rewritten hslots,
      hslots.imp fun a b hr h1 h2 => hr.other (by simp only [List.mem_cons, List.not_mem_nil, or_false]; exact not_or.2 ⟨h1, h2⟩),
      fun arm n sl ha => hsup ▸ ho.sentOriginated htx hlost.tables.1 ha, fun n sl ha => hrack ▸ ho.sentRackOut htx hlost.tables.1 ha,
      fun hroom => ?_, fun hfull => ?_, fun h0 => ?_, fun h0 => ?_, htmpl, htab, hq, hh⟩
    · exact ⟨htx ▸ ho.txD (hroom_iff.2 hroom), ho.listed (hroom_iff.2 hroom)⟩
    · exact ⟨(ho.placed.txD_full (mt hroom_iff.1 hfull)).trans htx,
        (ho.notListed (mt hroom_iff.1 hfull)).trans ((congrArg Link.outstanding hlost.link).trans rfl)⟩
    · obtain ⟨-, hw, hb, -, hs, hn⟩ := lost_bridging at_ h0.ne'
      exact ⟨hwatch.trans hw, hbt.trans hb, hsup.trans hs, hent.trans (congrArg Notices.entries hn)⟩
    · obtain ⟨-, hw, hb, -, hs⟩ := lost_halted at_ h0
      exact ⟨hwatch.trans hw, hbt.trans hb, hsup ▸ hs .a, hsup ▸ hs .b⟩

end Sys2Proof.Machine
end

section
/-! A cycle frame piece by piece, with what comes between its pieces (R1, R9; log 10). -/

namespace Sys2Proof.Machine

/-! ### The pieces of a frame in order -/

/-- What the events of a place keep, the events of a list at that place keep. -/
theorem eventsWhere_at_keeps {P : Mid → Prop} {during : List Interleaved} {n : Nat}
    (he : ∀ m, ∀ e ∈ during, e.slot = n → P m → P (midEvent m e.event)) {m : Mid} (h : P m) :
    P (eventsWhere during (fun i => i == n) m) := by
  unfold eventsWhere
  have hs : ∀ e ∈ during.filter (fun e => e.slot == n), e ∈ during ∧ e.slot = n := fun e he => by simpa using List.mem_filter.1 he
  generalize during.filter (fun e => e.slot == n) = l at hs
  induction l generalizing m with
  | nil => exact h
  | cons e es ih =>
    obtain ⟨hmem, hn⟩ := hs e (by simp)
    exact ih (he m e hmem hn h) fun x hx => hs x (by simp [hx])

/-- An invariant that counts the pieces handled: every event keeps it, and every handling moves it on. -/
theorem framePieces_counts {P : Nat → Mid → Prop} {p : Port} {during : List Interleaved} {last : Nat}
    (he : ∀ n m, ∀ e ∈ during, e.slot = n → n < last → P n m → P n (midEvent m e.event))
    (hh : ∀ n m, n < last → P n m → P (n + 1) (m.handle p)) (n k : Nat) (hk : n + k ≤ last) {m : Mid} (h : P n m) :
    P (n + k) (framePieces p during n k m) := by
  induction k generalizing n m with
  | zero => exact h
  | succ k ih =>
    have hlt : n < last := by omega
    have hstep := hh n _ hlt (eventsWhere_at_keeps (fun m e hmem hn => he n m e hmem hn hlt) h)
    have hlen : n + (k + 1) = n + 1 + k := by omega
    rw [hlen]
    exact ih (n + 1) (by omega) hstep

/-- The last of some pieces. -/
theorem framePieces_succ (p : Port) (during : List Interleaved) (n k : Nat) (m : Mid) :
    framePieces p during n (k + 1) m = (eventsWhere during (fun i => i == n + k) (framePieces p during n k m)).handle p := by
  induction k generalizing n m with
  | zero => rfl
  | succ k ih =>
    rw [framePieces, ih, framePieces]
    have hn : n + 1 + k = n + (k + 1) := by omega
    rw [hn]

/-- A frame's last piece is its end: the command is what comes before it, its end, and what comes after (R9, R11). -/
theorem cycleFrameWith_eq_afterEnd (p : Port) (s : State) (f : CycleFrame) (during : List Interleaved) :
    cycleFrameWith p s f during = afterEnd p f during (beforeEnd p s f during) := by
  have hn : pieceCount p f = pieceCount p f - 1 + 1 := by cases p <;> rfl
  unfold cycleFrameWith afterEnd beforeEnd
  dsimp only
  have hlast := framePieces_succ p during 0 (pieceCount p f - 1) ((Mid.idle s).takes p f)
  rw [← hn, Nat.zero_add] at hlast
  rw [hlast]

/-- What comes between the pieces and is no work of the U port's receive side leaves the frame that it has in processing. -/
theorem midEvent_out {m : Mid} {e : MidEvent} (h : e.port ≠ some .u) : (midEvent m e).out = m.out := by
  cases e with
  | handOver tag code params => exact absurd rfl h
  | takes p f =>
    cases p with
    | u => exact absurd rfl h
    | d => simp only [midEvent, Mid.takes]; split <;> simp
  | handles p =>
    cases p with
    | u => exact absurd rfl h
    | d => exact Mid.handle_d_out m
  | bytes p frame =>
    cases p with
    | u => exact absurd rfl h
    | d => simp [midEvent]
  | discards p =>
    cases p with
    | u => exact absurd rfl h
    | d => simp [midEvent]
  | serve => rfl
  | expiry t => rfl
  | leaves p => rfl

/-- Nor does what is no work of the D port's receive side touch the frame of the D port. -/
theorem midEvent_back {m : Mid} {e : MidEvent} (h : e.port ≠ some .d) : (midEvent m e).back = m.back := by
  cases e with
  | handOver tag code params => simp [midEvent]
  | takes p f =>
    cases p with
    | d => exact absurd rfl h
    | u => simp only [midEvent, Mid.takes]; split <;> simp
  | handles p =>
    cases p with
    | d => exact absurd rfl h
    | u => exact Mid.handle_u_back m
  | bytes p frame =>
    cases p with
    | d => exact absurd rfl h
    | u => simp [midEvent]
  | discards p =>
    cases p with
    | d => exact absurd rfl h
    | u => simp [midEvent]
  | serve => rfl
  | expiry t => rfl
  | leaves p => rfl

/-! ### An outbound frame piece by piece -/

/-- An outbound frame has some of its slots handled, and the part and the run are as an invariant says. -/
def OutAt (f : CycleFrame) (I : List Slot → State → OutRun → Prop) (n : Nat) (m : Mid) : Prop :=
  ∃ run, m.out = some { cycle := f.cycle, todo := f.slots.drop n, run := run } ∧ I (f.slots.take n) m.state run

theorem Mid.handle_slot {m : Mid} {cycle : CycleNumber} {sl : Slot} {rest : List Slot} {run : OutRun}
    (h : m.out = some { cycle := cycle, todo := sl :: rest, run := run }) : m.handle .u = { m with
      state := (outSlot targetSlot m.state run sl).1
      out := some { cycle := cycle, todo := rest, run := (outSlot targetSlot m.state run sl).2 } } := by
  simp [Mid.handle, h, handleOut]

/-- What every event keeps and every slot moves on holds when the slots are done and what comes before the frame's end has come. -/
theorem outFrame_invariant {s : State} {f : CycleFrame} {during : List Interleaved} {I : List Slot → State → OutRun → Prop}
    (hf : cycleFits f = true) (hothers : othersOnly .u f.slots.length during) (h0 : I [] (startOut s f).1 OutRun.start)
    (he : ∀ handled m d, ∀ e ∈ during, e.slot ≤ f.slots.length → I handled m.state d → I handled (midEvent m e.event).state d)
    (hs : ∀ handled sl rest u d, f.slots = handled ++ sl :: rest → I handled u d →
      I (handled ++ [sl]) (outSlot targetSlot u d sl).1 (outSlot targetSlot u d sl).2) :
    (∀ n ≤ f.slots.length, OutAt f I n (framePieces .u during 0 n ((Mid.idle s).takes .u f))) ∧
    OutAt f I f.slots.length (beforeEnd .u s f during) := by
  have hstart : OutAt f I 0 ((Mid.idle s).takes .u f) := ⟨OutRun.start, by simp [Mid.takes, hf, startOut], by simpa [Mid.takes, hf] using h0⟩
  have hevent (n : Nat) (m : Mid) (e : Interleaved) (hmem : e ∈ during) (hn : e.slot ≤ f.slots.length) (h : OutAt f I n m) :
      OutAt f I n (midEvent m e.event) := by
    obtain ⟨run, hout, hI⟩ := h
    exact ⟨run, (midEvent_out (hothers e hmem hn)).trans hout, he _ m run e hmem hn hI⟩
  have hpieces (n : Nat) (hn : n ≤ f.slots.length) : OutAt f I n (framePieces .u during 0 n ((Mid.idle s).takes .u f)) := by
    have := framePieces_counts (P := OutAt f I) (p := .u) (during := during) (last := f.slots.length)
      (fun n m e hmem he hlt h => hevent n m e hmem (by omega) h) ?_ 0 n (by omega) hstart
    · simpa using this
    · intro n m hlt h
      obtain ⟨run, hout, hI⟩ := h
      have hcut : f.slots.take n ++ f.slots[n] :: f.slots.drop (n + 1) = f.slots := by simp
      have htake : f.slots.take (n + 1) = f.slots.take n ++ [f.slots[n]] := by simp
      rw [List.drop_eq_getElem_cons hlt] at hout
      rw [Mid.handle_slot hout]
      exact ⟨_, rfl, htake ▸ hs _ _ _ m.state run hcut.symm hI⟩
  refine ⟨hpieces, ?_⟩
  unfold beforeEnd pieceCount
  exact eventsWhere_at_keeps (fun m e hmem hn h => hevent _ m e hmem hn.le h) (hpieces _ le_rfl)

/-- The end of an outbound frame: it is forwarded. -/
theorem OutAt.handle {f : CycleFrame} {I : List Slot → State → OutRun → Prop} {m : Mid} (h : OutAt f I f.slots.length m) :
    ∃ run, I f.slots m.state run ∧ m.out = some { cycle := f.cycle, todo := [], run := run } ∧ (m.handle .u).out = none ∧
      (m.handle .u).state = forwardOut m.state { cycle := f.cycle, slots := run.done } run.carried := by
  obtain ⟨run, hout, hI⟩ := h
  rw [List.take_length] at hI
  rw [List.drop_length] at hout
  exact ⟨run, hI, hout, by simp [Mid.handle, hout, handleOut], by simp [Mid.handle, hout, handleOut, endOut]⟩

/-! ### The end of an outbound frame -/

/-- The state in which a frame that is forwarded is placed: a full queue is counted on the port where the frame was taken (R14). -/
def countedFull (s : State) : State := if s.Room .d then s else s.badFrameOn .u

theorem forwardOut_eq (s : State) (f : CycleFrame) (carried : List (RackTag × Nat)) :
    forwardOut s f carried = placeOut (countedFull s) f carried := by
  unfold forwardOut countedFull
  by_cases h : s.Room .d
  · have hf : s.txFull .d = false := by rw [Bool.eq_false_iff, ne_eq, State.txFull_iff, not_not]; exact h
    rw [hf, if_neg Bool.false_ne_true, if_pos h]
  · rw [(State.txFull_iff s .d).2 h, if_pos rfl, if_neg h, s.countBadFrame_eq_badFrameOn]

theorem countedFull_cases (s : State) : (s.Room .d ∧ countedFull s = s) ∨ (¬ s.Room .d ∧ countedFull s = s.badFrameOn .u) := by
  unfold countedFull
  split
  · exact .inl ⟨‹_›, rfl⟩
  · exact .inr ⟨‹_›, rfl⟩

/-- The end of an outbound frame, seen from a state with the same D queue and SETUP record (R9, R14). -/
theorem forwardOut_placed {s u : State} (htx : u.link.txD = s.link.txD) (hset : u.setup = s.setup) (cycle : CycleNumber) (d : OutRun) :
    Placed s (countedFull u) cycle d (forwardOut u { cycle := cycle, slots := d.done } d.carried) := by
  have hq : (forwardOut u { cycle := cycle, slots := d.done } d.carried) =
    placeOut (countedFull u) { cycle := cycle, slots := d.done } d.carried := forwardOut_eq u _ _
  have hnow : (placeOut (countedFull u) { cycle := cycle, slots := d.done } d.carried).now = (countedFull u).now := by
    rw [placeOut_eq]; rfl
  rcases countedFull_cases u with ⟨-, he⟩ | ⟨-, he⟩
  · exact ⟨by rw [he, htx], by rw [he, hset], by rw [hq], by rw [hq], by rw [hq, hnow]⟩
  · exact ⟨by rw [he, ← htx]; rfl, by rw [he, ← hset]; rfl, by rw [hq], by rw [hq], by rw [hq, hnow]⟩

/-- What the end of an outbound frame leaves: link block, rack channel and notice list change, and of these the last outbound number, the
D queue, the count of the U port and the notices that are raised. -/
structure EndsOut (s : State) (cycle : CycleNumber) (t : State) : Prop where
  state : ∃ n, n.currentCycle = s.notices.currentCycle ∧ t = ((s.setLink { s.link with
    lastOutbound := some cycle, txD := t.link.txD, badU := t.link.badU }).setRack t.rack).setNotices n
  full : ¬ s.Room .d → t.link.txD = s.link.txD ∧ t.link.badU = min 65535 (s.link.badU + 1)
  room : s.Room .d → t.link.badU = s.link.badU

theorem forwardOut_endsOut (s : State) (f : CycleFrame) (carried : List (RackTag × Nat)) : EndsOut s f.cycle (forwardOut s f carried) := by
  rw [forwardOut_eq]
  rcases countedFull_cases s with ⟨hroom, he⟩ | ⟨hfull, he⟩
  · rw [he, placeOut_of_room hroom]
    exact ⟨⟨_, rfl, rfl⟩, fun h => absurd hroom h, fun _ => rfl⟩
  · have hf : ¬ (s.badFrameOn .u).Room .d := mt (State.badFrameOn_room s .u .d).1 hfull
    have hl := placeOut_link_of_full hf f carried
    have hp := placeOut_eq (s.badFrameOn .u) f carried
    rw [he]
    generalize placeOut (s.badFrameOn .u) f carried = t at hl hp
    refine ⟨⟨s.notices.enter .badFrame .none 0, Notices.enter_currentCycle _ _ _ _, ?_⟩, fun _ => by rw [hl]; exact ⟨rfl, rfl⟩,
      fun h => absurd h hfull⟩
    conv_lhs => rw [hp]
    rw [hl]
    rfl

end Sys2Proof.Machine
end

section
/-! An outbound cycle frame: what is forwarded, the link watch, what stays, and its RACK_OUT slot (OutboundFrameForwarded). -/

namespace Sys2Proof.Machine

theorem exec_outbound {s : State} (h : s.resetPin = false) (f : CycleFrame) (during : List Interleaved) :
    exec (.outboundCycleFrame f during) s = .next (cycleFrameWith .u s f during) :=
  congrArg Host.Outcome.next (State.unlessReset_runs _ h)

/-! ### What the slots leave -/

/-- A stop leaves the current cycle number. -/
theorem stopArm_currentCycle (s : State) (arm : Arm) (c : StopCause) :
    (stopArm s arm c).notices.currentCycle = s.notices.currentCycle := by
  by_cases h : (s.supervision.get arm).state = .stopped
  · simp [stopArm, h]
  · obtain ⟨rest, he⟩ := stopArm_notices c h
    rw [he]
    have hfold : ∀ (l : List (NoticeKind × Subject × Nat)) (n : Notices),
        (l.foldl (fun n x => n.enter x.1 x.2.1 x.2.2) n).currentCycle = n.currentCycle := by
      intro l
      induction l with
      | nil => exact fun _ => rfl
      | cons x l ih => exact fun n => (ih _).trans (Notices.enter_currentCycle _ _ _ _)
    exact (hfold rest _).trans (Notices.enter_currentCycle _ _ _ _)

theorem targetSlot_currentCycle (s : State) (arm : Arm) (payload : List Byte) :
    (targetSlot s arm payload).1.notices.currentCycle = s.notices.currentCycle := by
  rcases targetSlot_state_cases s arm payload with e | ⟨v, e⟩ | ⟨v, _, e⟩
  · rw [e]
  · rw [e]; rfl
  · rw [e, stopArm_currentCycle]; rfl

/-- What the slots of an outbound frame leave: all but what a stop may change, and the current cycle number. -/
def SlotsKeep (s t : State) : Prop := t.sansHalt = s.sansHalt ∧ t.notices.currentCycle = s.notices.currentCycle

theorem outSlot_keeps (s : State) (d : OutRun) (sl : Slot) : SlotsKeep s (outSlot targetSlot s d sl).1 := by
  rcases d.acts_cases s.setup sl with ⟨arm, ha⟩ | ha | ha
  · rw [outSlot_target ha]; exact ⟨targetSlot_sansHalt _ _ _, targetSlot_currentCycle _ _ _⟩
  · rw [outSlot_rackOut ha, rackOutSlot_state]; exact ⟨rfl, rfl⟩
  · rw [outSlot_other ha]; exact ⟨rfl, rfl⟩

theorem outSlots_keep (s : State) (slots : List Slot) : SlotsKeep s (outSlots targetSlot s OutRun.start slots).1 :=
  outSlots_induct (P := fun _ u _ => SlotsKeep s u) ⟨rfl, rfl⟩ fun _ sl _ u d _ h =>
    ⟨(outSlot_keeps u d sl).1.trans h.1, (outSlot_keeps u d sl).2.trans h.2⟩

/-! ### A frame with nothing between its slots -/

/-- The slots of an outbound frame, handled with nothing between them. -/
def plainRun (s : State) (f : CycleFrame) : State × OutRun := outSlots targetSlot (startOut s f).1 OutRun.start f.slots

theorem plainOutbound_eq (s : State) (f : CycleFrame) : plainOutbound s f =
    forwardOut (plainRun s f).1 { cycle := f.cycle, slots := (plainRun s f).2.done } (plainRun s f).2.carried := rfl

theorem exec_outbound_plain {s : State} (h : s.resetPin = false) {f : CycleFrame} (hf : cycleFits f = true) :
    exec (.outboundCycleFrame f []) s = .next (plainOutbound s f) := by
  rw [exec_outbound h, cycleFrameWith_nil_u hf]

theorem plainRun_follows (s : State) (f : CycleFrame) : (plainRun s f).2.Follows f.slots :=
  outSlots_follows supervises_targetSlot.length _ _

theorem plainRun_sameButHalt (s : State) (f : CycleFrame) : SameButHalt (startOut s f).1 (plainRun s f).1 :=
  sameButHalt_of_sansHalt (outSlots_keep _ _).1

/-- The placing of the frame. -/
theorem plainOutbound_placed (s : State) (f : CycleFrame) :
    Placed s (countedFull (plainRun s f).1) f.cycle (plainRun s f).2 (plainOutbound s f) :=
  (forwardOut_placed (s := (startOut s f).1) (congrArg Link.txD (plainRun_sameButHalt s f).link) (plainRun_sameButHalt s f).setup _
    (plainRun s f).2).of_earlier rfl rfl

/-- The slots of the frame that is forwarded. -/
def plainFrameOut (s : State) (f : CycleFrame) : List Slot :=
  placedSlots (countedFull (plainRun s f).1).rack (plainRun s f).2 f.cycle

theorem plainOutbound_txD {s : State} {f : CycleFrame} (hroom : s.Room .d) : (plainOutbound s f).link.txD = s.link.txD ++
    [.out { cycle := f.cycle, slots := plainFrameOut s f }
      (carryingSlot (countedFull (plainRun s f).1).rack (plainRun s f).2.carried)] := by
  rw [(plainOutbound_placed s f).txD hroom, (placed_eq _ (plainRun_follows s f) f.cycle).1]
  rfl

/-- The fields of the state that an outbound frame leaves. -/
theorem plainOutbound_fields (s : State) (f : CycleFrame) :
    let t := plainOutbound s f
    t.link.watch = .watching ∧ t.link.watchTimer = some (s.now + s.setup.watchTime * 1000) ∧ t.link.originationTimer = none ∧
      t.link.bridgeTimer = none ∧ t.link.template = some f ∧ t.link.lossMark = false ∧ t.link.lastOutbound = some f.cycle ∧
      t.link.outstanding = s.link.outstanding.filter (fun c => c != f.cycle) ∧ t.notices.currentCycle = f.cycle ∧
      t.link.txU = s.link.txU ∧ t.link.badD = s.link.badD ∧ s.SameTables t ∧ t.head = s.head ∧ t.queue = s.queue ∧
      t.service = s.service ∧ t.active = s.active ∧ t.latestReport = s.latestReport ∧ t.walk = s.walk ∧ t.now = s.now ∧
      t.pending = s.pending := by
  intro t
  obtain ⟨⟨n, hn, ht⟩, -, -⟩ := forwardOut_endsOut (plainRun s f).1 { cycle := f.cycle, slots := (plainRun s f).2.done } (plainRun s f).2.carried
  obtain ⟨hpending, hnow, -, hlink, hservice, -, hhead, htables, hactive, hlatest, hwalk, hqueue⟩ := plainRun_sameButHalt s f
  have hcycle : n.currentCycle = f.cycle := hn.trans (outSlots_keep (startOut s f).1 f.slots).2
  rw [← plainOutbound_eq] at ht
  rw [hlink] at ht
  have hlink' : t.link = { (startOut s f).1.link with lastOutbound := some f.cycle, txD := t.link.txD, badU := t.link.badU } :=
    (congrArg State.link ht).trans rfl
  have hnotices : t.notices = n := (congrArg State.notices ht).trans rfl
  have field {α : Type} (g : State → α) (hg : ∀ u l r n, g (((State.setLink u l).setRack r).setNotices n) = g u) :
      g t = g (plainRun s f).1 := (congrArg g ht).trans (hg _ _ _ _)
  refine ⟨by rw [hlink']; rfl, by rw [hlink']; rfl, by rw [hlink']; rfl, by rw [hlink']; rfl, by rw [hlink']; rfl, by rw [hlink']; rfl,
    by rw [hlink'], by rw [hlink']; rfl, by rw [hnotices, hcycle], by rw [hlink']; rfl, by rw [hlink']; rfl, ?_,
    (field State.head fun _ _ _ _ => rfl).trans hhead, (field State.queue fun _ _ _ _ => rfl).trans hqueue,
    (field State.service fun _ _ _ _ => rfl).trans hservice, (field State.active fun _ _ _ _ => rfl).trans hactive,
    (field State.latestReport fun _ _ _ _ => rfl).trans hlatest, (field State.walk fun _ _ _ _ => rfl).trans hwalk,
    (field State.now fun _ _ _ _ => rfl).trans hnow, (field State.pending fun _ _ _ _ => rfl).trans hpending⟩
  obtain ⟨h1, h2, h3, h4, h5, h6, h7⟩ := htables
  exact ⟨(field State.setup fun _ _ _ _ => rfl).trans h1, (field State.channels fun _ _ _ _ => rfl).trans h2,
    (field State.axes fun _ _ _ _ => rfl).trans h3, (field State.map fun _ _ _ _ => rfl).trans h4,
    (field State.zones fun _ _ _ _ => rfl).trans h5, (field State.library fun _ _ _ _ => rfl).trans h6,
    (field State.plan fun _ _ _ _ => rfl).trans h7⟩

/-- What of the port queue and its counter an outbound frame leaves. -/
theorem plainOutbound_badU (s : State) (f : CycleFrame) :
    (s.Room .d → (plainOutbound s f).link.badU = s.link.badU) ∧
    (¬ s.Room .d → (plainOutbound s f).link.txD = s.link.txD ∧ (plainOutbound s f).link.badU = min 65535 (s.link.badU + 1)) := by
  obtain ⟨-, hfull, hroom⟩ := forwardOut_endsOut (plainRun s f).1 { cycle := f.cycle, slots := (plainRun s f).2.done } (plainRun s f).2.carried
  have hlink := (plainRun_sameButHalt s f).link
  have htx : (plainRun s f).1.link.txD = s.link.txD := (congrArg Link.txD hlink).trans rfl
  have hbad : (plainRun s f).1.link.badU = s.link.badU := (congrArg Link.badU hlink).trans rfl
  have hiff : (plainRun s f).1.Room .d ↔ s.Room .d := by
    rw [State.room_iff, State.room_iff, show (plainRun s f).1.link.tx .d = s.link.tx .d from htx]
  rw [plainOutbound_eq]
  exact ⟨fun h => (hroom (hiff.2 h)).trans hbad,
    fun h => ⟨(hfull (mt hiff.1 h)).1.trans htx, by rw [(hfull (mt hiff.1 h)).2, hbad]⟩⟩

/-! ### A slot of it as the slots before it leave the part -/

/-- With nothing between its slots the part at a slot is what the slots before it leave. -/
theorem atSlot_eq {s : State} {f : CycleFrame} (hf : cycleFits f = true) {n : Nat} (hn : n ≤ f.slots.length) :
    s.atSlot f n = (outSlots targetSlot (startOut s f).1 OutRun.start (f.slots.take n)).1 := by
  have hinv := (outFrame_invariant (s := s) (during := [])
    (I := fun handled u d => (u, d) = outSlots targetSlot (startOut s f).1 OutRun.start handled) hf (fun _ he => absurd he List.not_mem_nil) rfl
    (fun _ _ _ _ he => absurd he List.not_mem_nil) (fun handled sl rest u d _ h => by
      rw [outSlots_append, ← h]
      rfl)).1 n hn
  obtain ⟨run, -, h⟩ := hinv
  exact congrArg Prod.fst h

theorem targetSlot_supervision_other (s : State) {arm other : Arm} (payload : List Byte) (h : other ≠ arm) :
    (targetSlot s arm payload).1.supervision.get other = s.supervision.get other := by
  rcases targetSlot_state_cases s arm payload with e | ⟨v, e⟩ | ⟨v, _, e⟩
  · rw [e]
  · rw [e]; exact PerArm.get_put_ne _ _ h
  · rw [e, stopArm_supervision, PerArm.get_put_ne _ _ h]; exact PerArm.get_put_ne _ _ h

/-- A STOPPED arm stays STOPPED whatever TARGET slot comes (R92). -/
theorem targetSlot_keeps_stopped {s : State} (arm : Arm) {other : Arm} (payload : List Byte)
    (h : (s.supervision.get other).state = .stopped) : ((targetSlot s arm payload).1.supervision.get other).state = .stopped := by
  by_cases he : other = arm
  · subst he
    rw [targetSlot_stopped payload (.inl h)]
    exact h
  · rw [targetSlot_supervision_other s payload he]
    exact h

/-- The rack channel is as it was, or an arm has been stopped since; a STOPPED arm is STOPPED. -/
structure RackQuiet (s u : State) : Prop where
  stopped : ∀ arm, (s.supervision.get arm).state = .stopped → (u.supervision.get arm).state = .stopped
  rack : u.rack = s.rack ∨ ∃ arm, (u.supervision.get arm).state = .stopped ∧ (s.supervision.get arm).state ≠ .stopped

/-- A slot that is not a RACK_OUT slot acted on touches the rack channel by a stop alone. -/
theorem RackQuiet.outSlot {s u : State} {d : OutRun} {sl : Slot} (h : RackQuiet s u) (hx : ¬ d.acts u.setup sl .rackOut) :
    RackQuiet s (outSlot targetSlot u d sl).1 := by
  obtain ⟨hstopped, hrack⟩ := h
  rcases d.acts_cases u.setup sl with ⟨arm, ha⟩ | ha | ha
  · rw [outSlot_target ha]
    refine ⟨fun arm' hs => targetSlot_keeps_stopped arm _ (hstopped arm' hs), ?_⟩
    rcases hrack with hrack | ⟨arm', hu, hs⟩
    · rcases targetSlot_state_cases u arm sl.payload with e | ⟨v, e⟩ | ⟨v, hv, e⟩
      · exact .inl (by rw [e, hrack])
      · exact .inl (by rw [e]; exact hrack)
      · refine .inr ⟨arm, ?_, fun hs => hv (hstopped arm hs)⟩
        rw [e, stopArm_supervision]
        simp [Supervision.stoppedWith_state]
    · exact .inr ⟨arm', targetSlot_keeps_stopped arm _ hu, hs⟩
  · exact absurd ha hx
  · rw [outSlot_other ha]
    exact ⟨hstopped, hrack⟩

/-- Up to the RACK_OUT slot the rack channel stays, unless an arm is stopped. -/
theorem rackQuiet_before {s : State} {f : CycleFrame} {n : Nat} {sl : Slot} (h : s.ActsOnRackOut f.slots n sl) :
    RackQuiet s (outSlots targetSlot (startOut s f).1 OutRun.start (f.slots.take n)).1 :=
  outSlots_before (s := (startOut s f).1) (Q := fun u _ => RackQuiet s u) supervises_targetSlot h.1 (outRoute_rackOut_iff.2 ⟨h.2.1, h.2.2.1⟩)
    (fun _ _ _ hu hx hq => hq.outSlot (hu ▸ hx)) ⟨fun _ h => h, .inl rfl⟩

theorem outboundFrame_rackOut {s : State} {f : CycleFrame} (hf : cycleFits f = true) {n : Nat} {sl : Slot}
    (h : s.ActsOnRackOut f.slots n sl) :
    s.SentRackOut (plainOutbound s f) (s.atSlot f n).rack n sl ∧
      ((∀ arm, ((s.atSlot f n).supervision.get arm).state = .stopped → (s.supervision.get arm).state = .stopped) →
        (s.atSlot f n).rack = s.rack) := by
  rw [atSlot_eq hf (Nat.le_of_lt (List.getElem?_eq_some_iff.1 h.1.1).1)]
  refine ⟨(plainOutbound_placed s f).sentRackOut ?_, fun hnone => ?_⟩
  · have hw := outSlots_rackWritten supervises_targetSlot (s := (startOut s f).1) h
    rcases countedFull_cases (plainRun s f).1 with ⟨-, e⟩ | ⟨-, e⟩
    · rw [e]; exact hw
    · rw [e]; exact hw
  · rcases (rackQuiet_before h).rack with hr | ⟨arm, hu, hs⟩
    · exact hr
    · exact absurd (hnone arm hu) hs

/-! ### With what comes between its slots -/

/-- An outbound frame whose slots are done and whose end is to come: the slots are those of the frame. -/
theorem outboundFrame_before {s : State} {f : CycleFrame} (hf : cycleFits f = true) {during : List Interleaved}
    (hothers : othersOnly .u f.slots.length during) : OutAt f (fun handled _ d => d.Follows handled) f.slots.length (beforeEnd .u s f during) :=
  (outFrame_invariant (I := fun handled _ d => d.Follows handled) hf hothers OutRun.Follows.start (fun _ _ _ _ _ _ h => h)
    (fun _ sl _ u _ _ h => h.outSlot supervises_targetSlot.length u sl)).2

theorem outboundFrame_interleaved {s : State} {f : CycleFrame} (hf : cycleFits f = true) {during : List Interleaved}
    (hothers : othersOnly .u f.slots.length during) :
    let m := beforeEnd .u s f during
    let u := (m.handle .u).state
    (∃ run, m.out = some { cycle := f.cycle, todo := [], run := run } ∧ onlyRewrites [0x10, 0x14] f.slots run.done) ∧
    (m.handle .u).out = none ∧ (m.handle .u).back = m.back ∧
    (∃ slots carries, onlyRewrites [0x10, 0x14] f.slots slots ∧ (m.state.Room .d →
      u.link.txD = m.state.link.txD ++ [.out { cycle := f.cycle, slots := slots } carries] ∧ u.link.badU = m.state.link.badU)) ∧
    (¬ m.state.Room .d → u.link.txD = m.state.link.txD ∧ u.link.badU = min 65535 (m.state.link.badU + 1)) ∧
    u.link.lastOutbound = some f.cycle ∧ u.supervision = m.state.supervision ∧ u.queue = m.state.queue ∧ m.state.SameTables u := by
  intro m u
  obtain ⟨run, hI, hout, hnone, hu⟩ := (outboundFrame_before (s := s) hf hothers).handle
  have hp := forwardOut_placed (s := m.state) (u := m.state) rfl rfl f.cycle run
  obtain ⟨⟨n, -, ht⟩, hfull, hroom⟩ := forwardOut_endsOut m.state { cycle := f.cycle, slots := run.done } run.carried
  rw [show forwardOut m.state { cycle := f.cycle, slots := run.done } run.carried = u from hu.symm] at hp ht hfull hroom
  refine ⟨⟨run, hout, onlyRewrites_of_rewritten hI.slots⟩, hnone, Mid.handle_u_back m,
    ⟨placedSlots (countedFull m.state).rack run f.cycle, carryingSlot (countedFull m.state).rack run.carried,
      onlyRewrites_of_rewritten (placedSlots_rewritten _ hI f.cycle), fun h => ⟨?_, hroom h⟩⟩, hfull, ?_⟩
  · rw [hp.txD h, (placed_eq _ hI f.cycle).1]
  · rw [ht]
    exact ⟨rfl, rfl, rfl, rfl, rfl, rfl, rfl, rfl, rfl, rfl⟩

/-- Settles O12: the plain frame by `plainOutbound` and its placing, the interleaved one by the invariant that its slots follow the
frame's. -/
theorem outboundFrameForwarded : Obligations.OutboundFrameForwarded := by
  intro s f hpin hf
  refine ⟨fun during => ⟨_, exec_outbound hpin f during⟩, ?_, fun during hothers => ?_, ?_⟩
  · obtain ⟨hroom, hfull⟩ := plainOutbound_badU s f
    exact ⟨plainOutbound s f, plainFrameOut s f, _, exec_outbound_plain hpin hf,
      onlyRewrites_of_rewritten (placedSlots_rewritten _ (plainRun_follows s f) f.cycle),
      fun h => ⟨plainOutbound_txD h, hroom h⟩, hfull, plainOutbound_fields s f⟩
  · refine ⟨?_, outboundFrame_interleaved hf hothers⟩
    rw [exec_outbound hpin, cycleFrameWith_eq_afterEnd]
  · refine ⟨plainOutbound s f, exec_outbound_plain hpin hf, fun n sl h => outboundFrame_rackOut hf h, fun h hroom => ?_⟩
    exact (plainOutbound_placed s f).carriesNone (outSlots_carried_nil supervises_targetSlot h) hroom

end Sys2Proof.Machine
end

section
/-! What the slots and the frame-end stages of a return frame leave (R11), and what no work of the D port does to an arm. -/

namespace Sys2Proof.Machine

/-! ### The current cycle number stays while sequencers, library and supervisor act -/

@[simp] theorem failChange_cycle (s : State) (arm : Arm) (c : FailureCause) :
    (failChange s arm c).notices.currentCycle = s.notices.currentCycle := by
  rcases failChange_notices s arm c with e | e <;> rw [e]
  exact Notices.enter_currentCycle _ _ _ _

@[simp] theorem raise_cycle (s : State) (k : NoticeKind) (j : Subject) (d : Nat) :
    (s.raise k j d).notices.currentCycle = s.notices.currentCycle := Notices.enter_currentCycle _ _ _ _

@[simp] theorem releaseRack_notices (s : State) (arm : Arm) : (releaseRack s arm).notices = s.notices := by
  unfold releaseRack
  dsimp only
  split <;> simp

@[simp] theorem completeChange_cycle (s : State) (arm : Arm) : (completeChange s arm).notices.currentCycle = s.notices.currentCycle := by
  rw [completeChange, releaseRack_notices]
  exact raise_cycle _ _ _ _

@[simp] theorem clearPortMark_notices (s : State) (arm : Arm) : (clearPortMark s arm).notices = s.notices := rfl

@[simp] theorem openCorridor_cycle (s : State) (arm : Arm) (st : SeqState) (k : NoticeKind) (n : Nat) :
    (openCorridor s arm st k n).notices.currentCycle = s.notices.currentCycle := by
  unfold openCorridor
  split
  · exact failChange_cycle s arm _
  · exact raise_cycle _ _ _ _

@[simp] theorem afterDrop_cycle (s : State) (arm : Arm) : (afterDrop s arm).notices.currentCycle = s.notices.currentCycle := by
  unfold afterDrop
  split
  · rfl
  · exact completeChange_cycle s arm

@[simp] theorem judgeDrop_notices (s : State) (arm : Arm) (b : Bool) : (judgeDrop s arm b).notices = s.notices := by
  unfold judgeDrop
  dsimp only
  split
  · simp
  · rfl

@[simp] theorem judgeAfterFailure_cycle (s : State) (arm : Arm) (n : Nat) (o : RackOutcome) :
    (judgeAfterFailure s arm n o).notices.currentCycle = s.notices.currentCycle := by
  unfold judgeAfterFailure
  split
  · split
    · dsimp only
      split <;> simp
    · rfl
  · rfl

theorem dropClosingOutcome_cycle (s : State) (arm : Arm) (n : Nat) (o : RackOutcome) :
    (dropClosingOutcome s arm n o).notices.currentCycle = s.notices.currentCycle := by
  unfold dropClosingOutcome
  dsimp only
  split
  · split
    · split <;> simp
    · simp
  · split
    · split <;> simp
    · simp
  · simp
  · simp

@[simp] theorem takeOutcome_cycle (s : State) (m : RackMessage) (o : RackOutcome) :
    (takeOutcome s m o).notices.currentCycle = s.notices.currentCycle := by
  unfold takeOutcome
  split
  · unfold dropOpeningOutcome
    split <;> simp
  · unfold pickOpeningOutcome
    split <;> simp
  · exact dropClosingOutcome_cycle _ _ _ _
  · unfold pickClosingOutcome
    split <;> simp
  · unfold windingOutcome
    rw [wayBack_notices, judgeAfterFailure_cycle]
    split
    · split <;> rfl
    · rfl
  · unfold reclosingOutcome
    dsimp only
    split <;> simp
  · rfl

@[simp] theorem takeReply_cycle (s : State) (r : RackReply) : (takeReply s r).notices.currentCycle = s.notices.currentCycle := by
  unfold takeReply
  split
  · exact takeOutcome_cycle _ _ _
  · exact raise_cycle _ _ _ _

@[simp] theorem mountIdentity_cycle (s : State) (arm : Arm) (x : Nat) :
    (mountIdentity s arm x).notices.currentCycle = s.notices.currentCycle := by
  unfold mountIdentity
  split
  · split
    · simp [takeFromOther, setLocation]
    · simp [mountSuspect]
  · simp

@[simp] theorem mountChange_cycle (s : State) (arm : Arm) (r : ProbeReport) :
    (mountChange s arm r).notices.currentCycle = s.notices.currentCycle := by
  unfold mountChange
  split
  · unfold detachedMount
    split <;> simp [setLocation]
  · rw [manualMount, raise_cycle, mountIdentity_cycle]
    unfold loseOldProbe
    split <;> simp [setLocation]

theorem dropReleased_cycle (s : State) (arm : Arm) (r : ProbeReport) :
    (dropReleased s arm r).notices.currentCycle = s.notices.currentCycle := by
  unfold dropReleased
  dsimp only
  split
  · rfl
  · split
    · simp [startPhase, setLocation]
    · simp
  · simp

@[simp] theorem wrongProbeUpdate_cycle (s : State) (arm : Arm) (t x : Nat) :
    (wrongProbeUpdate s arm t x).notices.currentCycle = s.notices.currentCycle := by
  unfold wrongProbeUpdate
  simp

theorem pickAttached_cycle (s : State) (arm : Arm) (x : Nat) : (pickAttached s arm x).notices.currentCycle = s.notices.currentCycle := by
  unfold pickAttached
  dsimp only
  split
  · rfl
  · split
    · simp
    · split
      · split
        · simp [takeFromOther, setLocation]
        · simp [startPhase, setLocation]
      · simp

@[simp] theorem libraryReport_cycle (s : State) (arm : Arm) (r : ProbeReport) :
    (libraryReport s arm r).notices.currentCycle = s.notices.currentCycle := by
  unfold libraryReport
  dsimp only
  split
  · split <;> simp
  · unfold takeReport
    split
    · rfl
    · exact dropReleased_cycle s arm r
    · rfl
    · split
      · rfl
      · exact pickAttached_cycle s arm _
    · split <;> simp

@[simp] theorem leavingTest_cycle (s : State) (arm : Arm) : (leavingTest s arm).notices.currentCycle = s.notices.currentCycle := by
  unfold leavingTest
  split
  · unfold leaveCorridor
    dsimp only
    split
    · rfl
    · rfl
    · exact congrArg Notices.currentCycle (enterReclosing_notices _ arm)
    · rfl
  · rfl

/-! ### What a return frame's slots and stages leave -/

/-- An arm's setpoint is as it was, and a STOPPED arm is STOPPED. -/
def Supervision.Calm (v w : Supervision) : Prop := w.setpoint = v.setpoint ∧ (v.state = .stopped → w.state = .stopped)

theorem Supervision.Calm.refl (v : Supervision) : v.Calm v := ⟨rfl, fun h => h⟩

theorem Supervision.Calm.trans {u v w : Supervision} (h : u.Calm v) (h' : v.Calm w) : u.Calm w :=
  ⟨h'.1.trans h.1, fun hs => h'.2 (h.2 hs)⟩

/-- What a slot or a frame-end stage of a return frame leaves. -/
structure ReturnKeeps (s t : State) : Prop where
  now : t.now = s.now
  setup : t.setup = s.setup
  link : t.link = s.link
  service : t.service = s.service
  axes : t.axes = s.axes
  map : t.map = s.map
  zones : t.zones = s.zones
  cycle : t.notices.currentCycle = s.notices.currentCycle
  calm : ∀ arm, (s.supervision.get arm).Calm (t.supervision.get arm)

theorem ReturnKeeps.refl (s : State) : ReturnKeeps s s := ⟨rfl, rfl, rfl, rfl, rfl, rfl, rfl, rfl, fun _ => .refl _⟩

theorem ReturnKeeps.trans {s t u : State} (h : ReturnKeeps s t) (h' : ReturnKeeps t u) : ReturnKeeps s u :=
  ⟨h'.now.trans h.now, h'.setup.trans h.setup, h'.link.trans h.link, h'.service.trans h.service, h'.axes.trans h.axes,
    h'.map.trans h.map, h'.zones.trans h.zones, h'.cycle.trans h.cycle, fun arm => (h.calm arm).trans (h'.calm arm)⟩

/-- A slot leaves the capture queue too. -/
structure SlotKeeps (s t : State) : Prop extends ReturnKeeps s t where
  queue : t.queue = s.queue

theorem SlotKeeps.refl (s : State) : SlotKeeps s s := ⟨.refl s, rfl⟩

theorem SlotKeeps.trans {s t u : State} (h : SlotKeeps s t) (h' : SlotKeeps t u) : SlotKeeps s u :=
  ⟨h.toReturnKeeps.trans h'.toReturnKeeps, h'.queue.trans h.queue⟩

theorem slotKeeps_of_sansReports {s t : State} (h : t.sansReports = s.sansReports)
    (hc : t.notices.currentCycle = s.notices.currentCycle) : SlotKeeps s t :=
  have f {α : Type} (g : State → α) : g t.sansReports = g s.sansReports := congrArg g h
  have hsup : t.supervision = s.supervision := f State.supervision
  ⟨⟨f State.now, f State.setup, f State.link, f State.service, f State.axes, f State.map, f State.zones, hc,
    fun _ => hsup ▸ .refl _⟩, f State.queue⟩

/-- What a stop leaves, its supervision states given. -/
theorem slotKeeps_of_sansHalt {s t : State} (h : t.sansHalt = s.sansHalt) (hc : t.notices.currentCycle = s.notices.currentCycle)
    (hs : ∀ arm, (s.supervision.get arm).Calm (t.supervision.get arm)) : SlotKeeps s t :=
  have f {α : Type} (g : State → α) : g t.sansHalt = g s.sansHalt := congrArg g h
  ⟨⟨f State.now, f State.setup, f State.link, f State.service, f State.axes, f State.map, f State.zones, hc, hs⟩, f State.queue⟩

theorem Supervision.calm_stoppedWith (v : Supervision) (c : StopCause) : v.Calm (v.stoppedWith c) :=
  ⟨v.stoppedWith_setpoint c, fun _ => v.stoppedWith_state c⟩

/-- One arm's supervision state is replaced by a calm one. -/
theorem calm_put {p : PerArm Supervision} {arm : Arm} {v : Supervision} (h : (p.get arm).Calm v) (other : Arm) :
    (p.get other).Calm ((p.put arm v).get other) := by
  by_cases he : other = arm
  · rw [he, PerArm.get_put_same]; exact h
  · rw [PerArm.get_put_ne _ _ he]; exact .refl _

theorem stopArm_slotKeeps (s : State) (arm : Arm) (c : StopCause) : SlotKeeps s (stopArm s arm c) :=
  slotKeeps_of_sansHalt (stopArm_sansHalt s arm c) (stopArm_currentCycle s arm c) fun other => by
    rw [stopArm_supervision]
    exact calm_put (Supervision.calm_stoppedWith _ c) other

theorem raise_slotKeeps (s : State) (k : NoticeKind) (j : Subject) (d : Nat) : SlotKeeps s (s.raise k j d) :=
  ⟨⟨rfl, rfl, rfl, rfl, rfl, rfl, rfl, raise_cycle s k j d, fun _ => .refl _⟩, rfl⟩

theorem setHead_slotKeeps (s : State) (arm : Arm) (v : Head) : SlotKeeps s (s.setHead arm v) :=
  ⟨⟨rfl, rfl, rfl, rfl, rfl, rfl, rfl, rfl, fun _ => .refl _⟩, rfl⟩

theorem setChannels_slotKeeps (s : State) (l : Table Channel) : SlotKeeps s { s with channels := l } :=
  ⟨⟨rfl, rfl, rfl, rfl, rfl, rfl, rfl, rfl, fun _ => .refl _⟩, rfl⟩

theorem foldl_slotKeeps {α : Type} {f : State → α → State} (hf : ∀ s x, SlotKeeps s (f s x)) (l : List α) (s : State) :
    SlotKeeps s (l.foldl f s) := by
  induction l generalizing s with
  | nil => exact .refl s
  | cons x l ih => exact (hf s x).trans (ih _)

theorem takeReading_slotKeeps (s : State) (channel : Nat) (t : Int) : SlotKeeps s (takeReading s channel t) := by
  unfold takeReading
  split
  · exact .refl s
  · dsimp only
    split
    · split
      · exact (setChannels_slotKeeps s _).trans (raise_slotKeeps _ _ _ _)
      · exact setChannels_slotKeeps s _
    · split
      · exact (setChannels_slotKeeps s _).trans (raise_slotKeeps _ _ _ _)
      · exact setChannels_slotKeeps s _

theorem thermalSlot_slotKeeps (s : State) (hub : Nat) (payload : List Byte) : SlotKeeps s (thermalSlot s hub payload) :=
  foldl_slotKeeps (fun s p => by
    split
    · exact takeReading_slotKeeps s _ _
    · exact .refl s) _ s

theorem countFail_slotKeeps (s : State) (arm : Arm) : SlotKeeps s (countFail s arm) := by
  unfold countFail
  dsimp only
  split
  · exact (setHead_slotKeeps s arm _).trans (stopArm_slotKeeps _ arm _)
  · exact setHead_slotKeeps s arm _

theorem positionSlot_slotKeeps (s : State) (arm : Arm) (payload : List Byte) : SlotKeeps s (positionSlot s arm payload) := by
  have hu : SlotKeeps s (updateRecord s arm payload) := setHead_slotKeeps s arm _
  unfold positionSlot
  dsimp only
  split
  · exact (hu.trans (setHead_slotKeeps _ arm _)).trans
      (slotKeeps_of_sansReports (sansReports_of_sansMoves (leavingTest_sansMoves _ arm)) (leavingTest_cycle _ arm))
  · exact hu.trans (countFail_slotKeeps _ arm)

theorem overtravelReport_slotKeeps (s : State) (arm : Arm) (r : ProbeReport) : SlotKeeps s (overtravelReport s arm r) := by
  have hv : SlotKeeps s (s.setSupervision arm { s.supervision.get arm with overtravel := some r.overtravel }) :=
    slotKeeps_of_sansHalt rfl rfl (calm_put ⟨rfl, fun h => h⟩)
  unfold overtravelReport
  dsimp only
  split
  · exact hv.trans (stopArm_slotKeeps _ arm _)
  · exact hv

theorem probeSlot_slotKeeps (s : State) (arm : Arm) (r : ProbeReport) : SlotKeeps s (probeSlot s arm r) := by
  have hl : SlotKeeps s { s with latestReport := s.latestReport.put arm (some r) } :=
    ⟨⟨rfl, rfl, rfl, rfl, rfl, rfl, rfl, rfl, fun _ => .refl _⟩, rfl⟩
  exact (hl.trans (slotKeeps_of_sansReports (libraryReport_sansReports _ arm r) (libraryReport_cycle _ arm r))).trans
    (overtravelReport_slotKeeps _ arm r)

theorem takeReply_slotKeeps (s : State) (r : RackReply) : SlotKeeps s (takeReply s r) :=
  slotKeeps_of_sansReports (takeReply_sansReports s r) (takeReply_cycle s r)

theorem handleBack_slotKeeps (s : State) (d : BackRun) (r : BackRoute) (sl : Slot) : SlotKeeps s (handleBack s d r sl).1 := by
  unfold handleBack
  split
  · split
    · exact thermalSlot_slotKeeps _ _ _
    · exact .refl s
  · split
    · exact positionSlot_slotKeeps _ _ _
    · exact .refl s
  · split
    · exact probeSlot_slotKeeps _ _ _
    · exact .refl s
  · split
    · exact takeReply_slotKeeps _ _
    · exact .refl s

theorem backSlot_slotKeeps (s : State) (d : BackRun) (sl : Slot) : SlotKeeps s (backSlot s d sl).1 := by
  unfold backSlot
  split
  · exact .refl s
  · dsimp only
    split
    · exact .refl s
    · exact handleBack_slotKeeps s _ _ sl

theorem backSlots_slotKeeps (s : State) (d : BackRun) (slots : List Slot) : SlotKeeps s (backSlots s d slots).1 := by
  induction slots generalizing s d with
  | nil => exact .refl s
  | cons sl rest ih => exact (backSlot_slotKeeps s d sl).trans (ih _ _)

theorem ageChannels_slotKeeps (s : State) (read : List Nat) : SlotKeeps s (ageChannels s read) :=
  (setChannels_slotKeeps s _).trans (foldl_slotKeeps (fun s _ => raise_slotKeeps s _ _ _) _ _)

theorem missingPosition_slotKeeps (s : State) (arm : Arm) (present : Bool) : SlotKeeps s (missingPosition s arm present) := by
  unfold missingPosition
  split
  · exact .refl s
  · exact (setHead_slotKeeps s arm _).trans (countFail_slotKeeps _ arm)

/-! ### The capture engine at the frame end -/

/-- The state without what the capture engine's evaluation of a frame may change. -/
def State.sansCapture (s : State) : State :=
  { s with
    capture := State.reset.capture, plan := State.reset.plan, walk := State.reset.walk, queue := State.reset.queue
    notices := Notices.initial }

/-- A queue with records come to it: those waiting stay in front, up to OVERRUN_AFTER on the one at the back of a full queue (R175, R176). -/
structure Queue.Grown (q q' : Queue) : Prop where
  credits : q'.credits = q.credits
  missingMark : q'.missingMark = q.missingMark
  stallCount : q'.stallCount = q.stallCount
  stallMark : q'.stallMark = q.stallMark
  records : (∃ new, q'.records = q.records ++ new) ∨
    (64 ≤ q.records.length ∧ ∃ front back, q.records = front ++ [back] ∧ q'.records = front ++ [markOverrun back])

theorem Queue.Grown.refl (q : Queue) : q.Grown q := ⟨rfl, rfl, rfl, rfl, .inl ⟨[], by simp⟩⟩

theorem Queue.Grown.commit {q q' : Queue} (h : q.Grown q') (hl : q'.records.length < 64) (r : QueuedRecord) (n : SequenceNumber) :
    q.Grown { q' with records := q'.records ++ [r], nextSequence := n } := by
  refine ⟨h.credits, h.missingMark, h.stallCount, h.stallMark, ?_⟩
  rcases h.records with ⟨new, e⟩ | ⟨hfull, front, back, hq, e⟩
  · exact .inl ⟨new ++ [r], by simp [e]⟩
  · rw [e] at hl
    rw [hq] at hfull
    simp only [List.length_append, List.length_cons, List.length_nil] at hl hfull
    omega

theorem Queue.Grown.drop {q q' : Queue} (h : q.Grown q') (hl : 64 ≤ q'.records.length) (n : Nat) :
    q.Grown { q' with records := markBack q'.records, overruns := n } := by
  refine ⟨h.credits, h.missingMark, h.stallCount, h.stallMark, ?_⟩
  rcases h.records with ⟨new, e⟩ | ⟨hfull, front, back, hq, e⟩
  · rcases List.eq_nil_or_concat new with rfl | ⟨new, r, rfl⟩
    · rw [List.append_nil] at e
      obtain ⟨front, back, hq⟩ : ∃ front back, q.records = front ++ [back] := by
        rcases List.eq_nil_or_concat q.records with h0 | ⟨front, back, hq⟩
        · rw [e, h0] at hl; simp at hl
        · exact ⟨front, back, by rw [hq, List.concat_eq_append]⟩
      exact .inr ⟨e ▸ hl, front, back, hq, by simp [e, hq]⟩
    · refine .inl ⟨new ++ [markOverrun r], ?_⟩
      simp only [e, List.concat_eq_append, ← List.append_assoc, markBack_append]
  · exact .inr ⟨hfull, front, back, hq, by simp [e, markOverrun]⟩

/-- What the capture engine's evaluation of a frame leaves, from the state that the evaluation finds. -/
structure CaptureKeeps (s₀ s : State) : Prop where
  frame : s.sansCapture = s₀.sansCapture
  cycle : s.notices.currentCycle = s₀.notices.currentCycle
  queue : s₀.queue.Grown s.queue

theorem CaptureKeeps.refl (s : State) : CaptureKeeps s s := ⟨rfl, rfl, .refl _⟩

section
variable {s₀ s : State} (h : CaptureKeeps s₀ s)
include h

theorem CaptureKeeps.returnKeeps : ReturnKeeps s₀ s :=
  have f {α : Type} (g : State → α) : g s.sansCapture = g s₀.sansCapture := congrArg g h.frame
  have hsup : s.supervision = s₀.supervision := f State.supervision
  ⟨f State.now, f State.setup, f State.link, f State.service, f State.axes, f State.map, f State.zones, h.cycle,
    fun _ => hsup ▸ .refl _⟩

theorem CaptureKeeps.head : s.head = s₀.head :=
  have f {α : Type} (g : State → α) : g s.sansCapture = g s₀.sansCapture := congrArg g h.frame
  f State.head

theorem CaptureKeeps.raise {k : NoticeKind} {j : Subject} {d : Nat} : CaptureKeeps s₀ (s.raise k j d) :=
  ⟨h.frame, (raise_cycle s k j d).trans h.cycle, h.queue⟩

theorem CaptureKeeps.setCapture {arm : Arm} {v : Capture} : CaptureKeeps s₀ (s.setCapture arm v) := ⟨h.frame, h.cycle, h.queue⟩

theorem CaptureKeeps.setWalk {arm : Arm} {v : Walk} : CaptureKeeps s₀ (s.setWalk arm v) := ⟨h.frame, h.cycle, h.queue⟩

theorem CaptureKeeps.setPlan {l : Table PlanEntry} : CaptureKeeps s₀ { s with plan := l } := ⟨h.frame, h.cycle, h.queue⟩

theorem CaptureKeeps.setQueue {q : Queue} (hq : s₀.queue.Grown q) : CaptureKeeps s₀ (s.setQueue q) := ⟨h.frame, h.cycle, hq⟩

theorem CaptureKeeps.enqueueRecord {r : CaptureRecord} : CaptureKeeps s₀ (enqueueRecord s r).1 := by
  rcases enqueueRecord_cases s r with ⟨hl, e⟩ | ⟨hl, e⟩ <;> rw [e]
  · have hc := h.setQueue (h.queue.commit hl { sequence := s.queue.nextSequence, record := r } (s.queue.nextSequence + 1))
    unfold commitRecord
    dsimp only
    split
    · exact hc.raise
    · exact hc
  · exact (h.setQueue (h.queue.drop hl _)).raise

theorem CaptureKeeps.matchRecord {arm : Arm} {i : Nat} {e : PlanEntry} {r : CaptureRecord} {n : Nat} :
    CaptureKeeps s₀ (matchRecord s arm i e r n) := by
  unfold Machine.matchRecord
  dsimp only
  split
  · exact h.setWalk.raise.enqueueRecord.setPlan
  · exact h.setWalk.enqueueRecord.setPlan

theorem CaptureKeeps.walkRecord {arm : Arm} {i : Nat} {r : CaptureRecord} {n : Nat} : CaptureKeeps s₀ (walkRecord s arm i r n) := by
  unfold Machine.walkRecord
  dsimp only
  split
  · exact h.setWalk.raise.enqueueRecord
  · split
    · exact h.setWalk.raise.enqueueRecord
    · split
      · exact h.setWalk.raise.enqueueRecord
      · split
        · exact h.matchRecord
        · exact h.enqueueRecord

theorem CaptureKeeps.handRecord {r : CaptureRecord} {n : Nat} : CaptureKeeps s₀ (handRecord s r n) := by
  unfold Machine.handRecord
  dsimp only
  split
  · exact h.walkRecord
  · exact h.enqueueRecord

theorem CaptureKeeps.commitTouch {arm : Arm} {l : TouchLatch} : CaptureKeeps s₀ (commitTouch s arm l) := by
  unfold Machine.commitTouch
  split
  · exact h.handRecord
  · exact h

theorem CaptureKeeps.commitStuck {arm : Arm} {c : CycleNumber} : CaptureKeeps s₀ (commitStuck s arm c) := by
  unfold Machine.commitStuck
  split
  · exact h.handRecord
  · exact h

theorem CaptureKeeps.leaveSuspended {arm : Arm} : CaptureKeeps s₀ (leaveSuspended s arm) := by
  unfold Machine.leaveSuspended
  dsimp only
  split
  · exact h.setCapture
  · exact h

theorem CaptureKeeps.armedStep {arm : Arm} {r : ProbeReport} {c : CycleNumber} : CaptureKeeps s₀ (armedStep s arm r c) := by
  unfold Machine.armedStep
  dsimp only
  split
  · split
    · exact h.setCapture.commitTouch
    · exact h.setCapture
  · exact h

theorem CaptureKeeps.confirmTouch {arm : Arm} : CaptureKeeps s₀ (confirmTouch s arm) := by
  unfold Machine.confirmTouch
  dsimp only
  split
  · split
    · exact h.setCapture.commitTouch
    · exact h.setCapture
  · exact h.setCapture

theorem CaptureKeeps.deflectedStep {arm : Arm} {r : ProbeReport} {c : CycleNumber} : CaptureKeeps s₀ (deflectedStep s arm r c) := by
  unfold Machine.deflectedStep
  dsimp only
  split
  · split
    · exact h.setCapture.commitStuck
    · exact h.setCapture
  · exact h.setCapture

theorem CaptureKeeps.rearmingStep {arm : Arm} {r : ProbeReport} : CaptureKeeps s₀ (rearmingStep s arm r) := by
  unfold Machine.rearmingStep
  dsimp only
  split
  · exact h.setCapture
  · split
    · exact h.setCapture
    · exact h.setCapture

theorem CaptureKeeps.evaluateArm {arm : Arm} {r : Option ProbeReport} {c : CycleNumber} : CaptureKeeps s₀ (evaluateArm s arm r c) := by
  have hl := h.leaveSuspended (arm := arm)
  unfold Machine.evaluateArm keepPrevious
  refine CaptureKeeps.setCapture ?_
  unfold captureStep
  split
  · exact hl.armedStep
  · split
    · exact hl.confirmTouch
    · exact hl.setCapture
  · exact hl.setCapture
  · exact hl.deflectedStep
  · exact hl.rearmingStep
  · exact hl

end

theorem endStage_returnKeeps (d : BackRun) (cycle : CycleNumber) (s : State) (g : EndStage) : ReturnKeeps s (endStage d cycle s g) := by
  cases g with
  | ageing =>
    exact (((ageChannels_slotKeeps s _).trans (missingPosition_slotKeeps _ .a _)).trans (missingPosition_slotKeeps _ .b _)).toReturnKeeps
  | capture arm => exact ((CaptureKeeps.refl s).evaluateArm).returnKeeps

theorem foldl_endStage_returnKeeps (d : BackRun) (cycle : CycleNumber) (stages : List EndStage) (s : State) :
    ReturnKeeps s (stages.foldl (endStage d cycle) s) := by
  induction stages generalizing s with
  | nil => exact .refl s
  | cons g rest ih => exact (endStage_returnKeeps d cycle s g).trans (ih _)

end Sys2Proof.Machine
end

section
/-! The end of a return frame, and what the D port, the timers and leaving frames do while an outbound frame is in processing (R1, R11, R40;
log 10). -/

namespace Sys2Proof.Machine

/-! ### The return frame leaves processing -/

/-- A written table entry leaves link block, service block and capture queue. -/
theorem writeEntry_frame (s : State) (i : Nat) (e : Entry) :
    (writeEntry s i e).link = s.link ∧ (writeEntry s i e).service = s.service ∧ (writeEntry s i e).queue = s.queue := by
  cases e with
  | library e =>
    cases e with
    | none => exact ⟨rfl, rfl, rfl⟩
    | some e =>
      simp only [writeEntry, writeLibrary]
      split
      · rw [setActive_eq]; exact ⟨rfl, rfl, rfl⟩
      · exact ⟨rfl, rfl, rfl⟩
  | _ => exact ⟨rfl, rfl, rfl⟩

theorem writeDeferred_frame (s : State) : (writeDeferred s).link = s.link ∧
    (writeDeferred s).service = { s.service with deferred := [] } ∧ (writeDeferred s).queue = s.queue := by
  have hfold : ∀ (l : List (Nat × Entry)) (u : State),
      (l.foldl (fun s p => writeEntry s p.1 p.2) u).link = u.link ∧ (l.foldl (fun s p => writeEntry s p.1 p.2) u).service = u.service ∧
      (l.foldl (fun s p => writeEntry s p.1 p.2) u).queue = u.queue := by
    intro l
    induction l with
    | nil => exact fun _ => ⟨rfl, rfl, rfl⟩
    | cons p l ih =>
      intro u
      obtain ⟨h1, h2, h3⟩ := ih (writeEntry u p.1 p.2)
      obtain ⟨e1, e2, e3⟩ := writeEntry_frame u p.1 p.2
      exact ⟨h1.trans e1, h2.trans e2, h3.trans e3⟩
  obtain ⟨h1, -, h3⟩ := hfold s.service.deferred s
  exact ⟨h1, rfl, h3⟩

theorem writeDeferred_nil {s : State} (h : s.service.deferred = []) : writeDeferred s = s.setService { s.service with deferred := [] } := by
  simp [writeDeferred, h]

theorem placeTx_u (s : State) (t : TxFrame) :
    ∃ rest, (¬ s.Room .u → rest = []) ∧ s.placeTx .u t = s.setLink { s.link with txU := s.link.txU ++ rest } := by
  rcases s.placeTx_cases .u t with ⟨_, e⟩ | ⟨hl, e⟩
  · exact ⟨[], fun _ => rfl, by rw [e, List.append_nil]; rfl⟩
  · exact ⟨[t], fun h => absurd ((s.room_iff .u).2 hl) h, by rw [e]; rfl⟩

/-- What goes to the U queue for the reply held back: nothing when there is none, or when the queue is full (R14, R40). -/
structure Released (s : State) (rest : List TxFrame) : Prop where
  none : s.service.heldReply = none → rest = []
  full : ¬ s.Room .u → rest = []

/-- The reply held back goes to the U queue, or is lost; nothing else changes (R14, R40). -/
theorem releaseHeldReply_form (s : State) : ∃ rest, Released s rest ∧ releaseHeldReply s =
    (s.setService { s.service with heldReply := none }).setLink { s.link with txU := s.link.txU ++ rest } := by
  unfold releaseHeldReply
  split
  · rename_i h
    refine ⟨[], ⟨fun _ => rfl, fun _ => rfl⟩, ?_⟩
    rw [List.append_nil, ← h]
    rfl
  · rename_i r h
    obtain ⟨rest, hfull, e⟩ := placeTx_u (s.setService { s.service with heldReply := none }) (.reply r)
    exact ⟨rest, ⟨fun h0 => (by rw [h] at h0; cases h0), hfull⟩, e⟩

/-- What the end of return-frame processing does to link block, service block and capture queue (R40). -/
theorem leaveProcessing_frame (s : State) : ∃ rest, Released s rest ∧
    (leaveProcessing s).link = { s.link with returnInProcessing := false, txU := s.link.txU ++ rest } ∧
    (leaveProcessing s).service = { s.service with deferred := [], heldReply := none } ∧ (leaveProcessing s).queue = s.queue := by
  obtain ⟨hl, hv, hq⟩ := writeDeferred_frame (s.setLink { s.link with returnInProcessing := false })
  obtain ⟨rest, ⟨hnone, hfull⟩, e⟩ := releaseHeldReply_form (writeDeferred (s.setLink { s.link with returnInProcessing := false }))
  refine ⟨rest, ⟨fun h => hnone (by rw [hv]; exact h), fun h => hfull fun hr => h ?_⟩, ?_⟩
  · rw [State.room_iff, hl] at hr
    exact (s.room_iff .u).2 hr
  · rw [leaveProcessing, e, hl, hv]
    exact ⟨rfl, rfl, hq⟩

/-- With nothing held back it touches link block and service block alone. -/
theorem leaveProcessing_of_no_deferred {s : State} (h : s.service.deferred = []) :
    leaveProcessing s = (s.setLink (leaveProcessing s).link).setService (leaveProcessing s).service := by
  obtain ⟨rest, -, e⟩ := releaseHeldReply_form (writeDeferred (s.setLink { s.link with returnInProcessing := false }))
  rw [writeDeferred_nil (s := s.setLink { s.link with returnInProcessing := false }) h] at e
  rw [leaveProcessing, writeDeferred_nil (s := s.setLink { s.link with returnInProcessing := false }) h, e]
  rfl

/-! ### The frame end -/

/-- Two states agree but for capture queue and notice list, and in the current cycle number. -/
def QueueOnly (s t : State) : Prop := ∃ q n, n.currentCycle = s.notices.currentCycle ∧ t = (s.setQueue q).setNotices n

theorem QueueOnly.refl (s : State) : QueueOnly s s := ⟨s.queue, s.notices, rfl, rfl⟩

theorem QueueOnly.trans {s t u : State} (h : QueueOnly s t) (h' : QueueOnly t u) : QueueOnly s u := by
  obtain ⟨q, n, hn, rfl⟩ := h
  obtain ⟨q', n', hn', rfl⟩ := h'
  exact ⟨q', n', hn'.trans hn, rfl⟩

theorem setQueue_queueOnly (s : State) (q : Queue) : QueueOnly s (s.setQueue q) := ⟨q, s.notices, rfl, rfl⟩

theorem raise_queueOnly (s : State) (k : NoticeKind) (j : Subject) (d : Nat) : QueueOnly s (s.raise k j d) :=
  ⟨s.queue, _, Notices.enter_currentCycle _ _ _ _, rfl⟩

theorem writeReport_queueOnly (s : State) (slots : List Slot) : QueueOnly s (writeReport s slots).1 := by
  unfold writeReport
  split
  · split
    · exact setQueue_queueOnly s _
    · exact .refl s
  · exact .refl s

theorem judgeMissing_queueOnly (s : State) (present : Bool) : QueueOnly s (judgeMissing s present) := by
  unfold judgeMissing
  split
  · exact setQueue_queueOnly s _
  · split
    · exact .refl s
    · exact (setQueue_queueOnly s _).trans (raise_queueOnly _ _ _ _)

theorem judgeStall_queueOnly (s : State) (n : Nat) : QueueOnly s (judgeStall s n) := by
  unfold judgeStall
  dsimp only
  split
  · exact setQueue_queueOnly s _
  · split
    · split
      · exact (setQueue_queueOnly s _).trans (raise_queueOnly _ _ _ _)
      · exact setQueue_queueOnly s _
    · exact setQueue_queueOnly s _

/-- The REPORT slot written and the judgements made, before the frame is forwarded. -/
def reported (s : State) (slots : List Slot) : State :=
  judgeStall (judgeMissing (writeReport s slots).1 (reportActedOn slots)) (writeReport s slots).2.2

theorem reported_queueOnly (s : State) (slots : List Slot) : QueueOnly s (reported s slots) :=
  ((writeReport_queueOnly s slots).trans (judgeMissing_queueOnly _ _)).trans (judgeStall_queueOnly _ _)

theorem finishForwarded_eq (s : State) (cycle : CycleNumber) (slots : List Slot) : finishForwarded s cycle slots =
    (reported s slots).forward .d (.back { cycle := cycle, slots := (writeReport s slots).2.1 }) := rfl

/-- A frame that meets the U queue touches link block and notice list alone. -/
theorem forward_d_form (s : State) (t : TxFrame) : ∃ l n, n.currentCycle = s.notices.currentCycle ∧ s.forward .d t = (s.setLink l).setNotices n := by
  by_cases h : s.Room .u
  · rw [State.forward_of_room (p := .d) h]
    exact ⟨(s.sentOn .u t).link, s.notices, rfl, rfl⟩
  · rw [State.forward_of_full (p := .d) h]
    exact ⟨(s.badFrameOn .d).link, s.notices.enter .badFrame .none 0, Notices.enter_currentCycle _ _ _ _, rfl⟩

/-- What the end of a return frame leaves when nothing is held back: all but link block, service block, capture queue and notice list. -/
theorem endBack_form {s : State} (h : s.service.deferred = []) (b : BackFrame) : ∃ q l v n, n.currentCycle = s.notices.currentCycle ∧
    v.deferred = [] ∧ endBack s b = (((s.setQueue q).setLink l).setService v).setNotices n := by
  have hform : ∃ q l n, n.currentCycle = s.notices.currentCycle ∧
      (if b.originated then finishOriginated s else finishForwarded s b.cycle b.run.done) = ((s.setQueue q).setLink l).setNotices n := by
    split
    · obtain ⟨q, n, hn, e⟩ := judgeStall_queueOnly s 0
      exact ⟨q, s.link, n, hn, e⟩
    · obtain ⟨q, n, hn, e⟩ := reported_queueOnly s b.run.done
      rw [finishForwarded_eq, e]
      obtain ⟨l, n', hn', e'⟩ := forward_d_form ((s.setQueue q).setNotices n) (.back { cycle := b.cycle, slots := (writeReport s b.run.done).2.1 })
      exact ⟨q, l, n', hn'.trans hn, e'⟩
  obtain ⟨q, l, n, hn, e⟩ := hform
  rw [endBack, e]
  obtain ⟨-, -, -, hservice, -⟩ := leaveProcessing_frame (((s.setQueue q).setLink l).setNotices n)
  exact ⟨q, (leaveProcessing (((s.setQueue q).setLink l).setNotices n)).link,
    (leaveProcessing (((s.setQueue q).setLink l).setNotices n)).service, n, hn, by rw [hservice],
    leaveProcessing_of_no_deferred (s := ((s.setQueue q).setLink l).setNotices n) h⟩

/-! ### Nothing is done to the arms -/

/-- SETUP and the AXIS table are as they were, nothing is held back, and each arm is as calm as it was. -/
structure Undisturbed (s t : State) : Prop where
  setup : t.setup = s.setup
  axes : t.axes = s.axes
  deferred : t.service.deferred = []
  calm : ∀ arm, (s.supervision.get arm).Calm (t.supervision.get arm)

theorem Undisturbed.refl {s : State} (h : s.service.deferred = []) : Undisturbed s s := ⟨rfl, rfl, h, fun _ => .refl _⟩

theorem Undisturbed.trans {s t u : State} (h : Undisturbed s t) (h' : Undisturbed t u) : Undisturbed s u :=
  ⟨h'.setup.trans h.setup, h'.axes.trans h.axes, h'.deferred, fun arm => (h.calm arm).trans (h'.calm arm)⟩

section
variable {s : State} (hd : s.service.deferred = [])
include hd

theorem ReturnKeeps.undisturbed {t : State} (h : ReturnKeeps s t) : Undisturbed s t :=
  ⟨h.setup, h.axes, h.service ▸ hd, h.calm⟩

theorem setLink_undisturbed (l : Link) : Undisturbed s (s.setLink l) := ⟨rfl, rfl, hd, fun _ => .refl _⟩

theorem raise_undisturbed (k : NoticeKind) (j : Subject) (d : Nat) : Undisturbed s (s.raise k j d) := ⟨rfl, rfl, hd, fun _ => .refl _⟩

theorem endBack_undisturbed (b : BackFrame) : Undisturbed s (endBack s b) := by
  obtain ⟨q, l, v, n, -, hv, e⟩ := endBack_form hd b
  rw [e]
  exact ⟨rfl, rfl, hv, fun _ => .refl _⟩

theorem handleReturn_undisturbed (b : BackFrame) : Undisturbed s (handleReturn s b).1 := by
  unfold handleReturn
  split
  · exact (backSlot_slotKeeps s b.run _).toReturnKeeps.undisturbed hd
  · exact (endStage_returnKeeps b.run b.cycle s _).undisturbed hd
  · exact endBack_undisturbed hd b

theorem finishReturn_undisturbed (b : BackFrame) : Undisturbed s (finishReturn s b) := by
  have hslots := (backSlots_slotKeeps s b.run b.todo).toReturnKeeps.undisturbed hd
  have hstages := (foldl_endStage_returnKeeps (backSlots s b.run b.todo).2 b.cycle b.stages (backSlots s b.run b.todo).1).undisturbed
    hslots.deferred
  exact (hslots.trans hstages).trans (endBack_undisturbed hstages.deferred _)

theorem startBack_undisturbed (f : CycleFrame) : Undisturbed s (startBack s f).1 := ⟨rfl, rfl, hd, fun _ => .refl _⟩

theorem countBadFrame_undisturbed (p : Port) : Undisturbed s (s.countBadFrame p) := by
  rw [s.countBadFrame_eq_badFrameOn]
  exact ⟨rfl, rfl, hd, fun _ => .refl _⟩

theorem forward_undisturbed (p : Port) (t : TxFrame) : Undisturbed s (s.forward p t) := by
  by_cases h : s.Room (otherPort p)
  · rw [State.forward_of_room h]; cases p <;> exact ⟨rfl, rfl, hd, fun _ => .refl _⟩
  · rw [State.forward_of_full h]; exact ⟨rfl, rfl, hd, fun _ => .refl _⟩

/-- A frame taken on the D port, whatever its bytes. -/
theorem takeFrame_d_undisturbed (bytes : List Byte) : Undisturbed s (takeFrame s .d bytes) := by
  have hcount := countBadFrame_undisturbed hd .d
  have hbad : Undisturbed s (forwardBad s .d bytes) := hcount.trans (forward_undisturbed hcount.deferred .d _)
  unfold takeFrame
  split
  · exact hcount
  · exact hbad
  · exact hbad
  · rename_i f _
    unfold takeGood
    split
    · exact forward_undisturbed hd .d _
    · rename_i hp
      cases f with
      | cycleBack c =>
        have hstart := startBack_undisturbed hd c
        exact hstart.trans (finishReturn_undisturbed hstart.deferred _)
      | cycleOut c => exact absurd rfl hp
      | serviceReq _ _ _ _ => exact absurd rfl hp
      | serviceRep _ _ _ _ _ _ => exact absurd rfl hp

/-! ### Timers and leaving frames -/

theorem stopArm_undisturbed (arm : Arm) (c : StopCause) : Undisturbed s (stopArm s arm c) :=
  (stopArm_slotKeeps s arm c).toReturnKeeps.undisturbed hd

theorem originateAndStart_undisturbed : Undisturbed s (originateAndStart s) := by
  cases ht : s.link.template with
  | none =>
    have ho : originate s = s := by simp only [originate, ht]
    rw [originateAndStart, ho]
    exact setLink_undisturbed hd _
  | some f =>
    have h := originateAndStart_originates ht rfl
    generalize originateAndStart s = t at h
    rw [h.state]
    exact ⟨rfl, rfl, hd, fun _ => .refl _⟩

theorem enterHalted_undisturbed : Undisturbed s (enterHalted s) := by
  have h1 := setLink_undisturbed hd { s.link with watch := .halted, bridgeTimer := none }
  have h2 := h1.trans (stopArm_undisturbed h1.deferred .a .linkLoss)
  exact h2.trans (stopArm_undisturbed h2.deferred .b .linkLoss)

theorem reach_undisturbed (t : Nat) : Undisturbed s (s.reach t) := ⟨rfl, rfl, hd, fun _ => .refl _⟩

theorem lost_undisturbed (t : Nat) : Undisturbed s (lost s t) := by
  have h1 := (reach_undisturbed hd t).trans (setLink_undisturbed (s := s.reach t) hd { s.link with watchTimer := none })
  have h2 := h1.trans (raise_undisturbed h1.deferred .linkLoss .none 0)
  unfold lost
  dsimp only
  split
  · exact h2.trans (enterHalted_undisturbed h2.deferred)
  · exact h2.trans (setLink_undisturbed h2.deferred _)

theorem watchTimerExpires_undisturbed : Undisturbed s (watchTimerExpires s) := by
  cases ht : s.link.watchTimer with
  | none =>
    rw [show watchTimerExpires s = s by simp only [watchTimerExpires, ht]]
    exact .refl hd
  | some t =>
    cases hf : s.link.template with
    | some f =>
      rw [watchTimerExpires_template ht hf]
      exact (lost_undisturbed hd t).trans (originateAndStart_undisturbed (lost_undisturbed hd t).deferred)
    | none =>
      have hs : s.link.template.isSome = false := by rw [hf]; rfl
      simp only [watchTimerExpires, ht, hs, Bool.false_eq_true, if_false, loseWithoutTemplate]
      split <;> exact ⟨rfl, rfl, hd, fun _ => .refl _⟩

theorem sansReports_undisturbed {t : State} (h : t.sansReports = s.sansReports) : Undisturbed s t :=
  have f {α : Type} (g : State → α) : g t.sansReports = g s.sansReports := congrArg g h
  have hsup : t.supervision = s.supervision := f State.supervision
  have hservice : t.service = s.service := f State.service
  ⟨f State.setup, f State.axes, hservice ▸ hd, fun _ => hsup ▸ .refl _⟩

theorem timerExpires_undisturbed (t : Timer) : Undisturbed s (timerExpires s t) := by
  cases t with
  | watch => exact watchTimerExpires_undisturbed hd
  | origination =>
    simp only [timerExpires, originationTimerExpires]
    split
    · exact .refl hd
    · exact (reach_undisturbed hd _).trans (originateAndStart_undisturbed (s := s.reach _) hd)
  | bridge =>
    simp only [timerExpires, bridgeTimerExpires]
    split
    · exact .refl hd
    · exact (reach_undisturbed hd _).trans (enterHalted_undisturbed (s := s.reach _) hd)
  | reply =>
    simp only [timerExpires, replyTimerExpires]
    split
    · exact (reach_undisturbed hd _).trans (sansReports_undisturbed (s := s.reach _) hd (takeOutcome_sansReports _ _ _))
    · exact .refl hd
  | phase arm =>
    simp only [timerExpires, phaseTimerExpires]
    split
    · exact .refl hd
    · split
      · exact (reach_undisturbed hd _).trans (sansReports_undisturbed (s := s.reach _) hd (failChange_sansReports _ arm _))
      · exact .refl hd

theorem frameLeaves_undisturbed (p : Port) : Undisturbed s (frameLeaves s p) := by
  unfold frameLeaves
  split
  · exact .refl hd
  · dsimp only
    split
    · rw [messageSent_eq]; exact ⟨rfl, rfl, hd, fun _ => .refl _⟩
    · exact setLink_undisturbed hd _

end

/-- What comes between the pieces of an outbound frame and is neither work of the U port's receive side nor a request taken. -/
theorem midEvent_undisturbed {m : Mid} {e : MidEvent} (hport : e.port ≠ some .u) (hserve : e ≠ .serve)
    (hd : m.state.service.deferred = []) : Undisturbed m.state (midEvent m e).state := by
  have hfinish : Undisturbed m.state (m.finish .d).state := by
    cases hb : m.back with
    | none => simpa [Mid.finish, hb] using Undisturbed.refl hd
    | some b => simpa [Mid.finish, hb] using finishReturn_undisturbed hd b
  cases e with
  | handOver tag code params => exact absurd rfl hport
  | serve => exact absurd rfl hserve
  | takes p f =>
    cases p with
    | u => exact absurd rfl hport
    | d =>
      simp only [midEvent, Mid.takes]
      split
      · exact hfinish.trans (startBack_undisturbed hfinish.deferred f)
      · exact hfinish.trans (takeFrame_d_undisturbed hfinish.deferred _)
  | handles p =>
    cases p with
    | u => exact absurd rfl hport
    | d =>
      cases hb : m.back with
      | none => simpa [midEvent, Mid.handle, hb] using Undisturbed.refl hd
      | some b => simpa [midEvent, Mid.handle, hb] using handleReturn_undisturbed hd b
  | bytes p frame =>
    cases p with
    | u => exact absurd rfl hport
    | d => exact hfinish.trans (takeFrame_d_undisturbed hfinish.deferred _)
  | discards p =>
    cases p with
    | u => exact absurd rfl hport
    | d => exact hfinish.trans (countBadFrame_undisturbed hfinish.deferred .d)
  | expiry t => exact timerExpires_undisturbed hd t
  | leaves p => exact frameLeaves_undisturbed hd p

end Sys2Proof.Machine
end

section
/-! The TARGET slot of a STOPPED arm, and how far one frame moves a setpoint, with whatever comes between the slots (R92, R93; log 10). -/

namespace Sys2Proof.Machine

/-! ### The TARGET slot of a STOPPED arm -/

/-- A run of a frame by a part with an arm STOPPED: once the arm's TARGET slot is done, it stands with drive enable cleared. -/
structure StoppedRun (setup : Setup) (arm : Arm) (n : Nat) (sl : Slot) (handled : List Slot) (u : State) (d : OutRun) : Prop where
  follows : d.Follows handled
  sameSetup : u.setup = setup
  stopped : (u.supervision.get arm).state = .stopped
  done : n < handled.length →
    ∃ w marker targets, d.done[n]? = some { sl with payload := w } ∧ TargetWritten sl.payload w false marker targets

theorem outSlot_targetSlot_setup (u : State) (d : OutRun) (x : Slot) : (outSlot targetSlot u d x).1.setup = u.setup :=
  outSlot_setup supervises_targetSlot u d x

/-- A STOPPED arm stays STOPPED through the slots of a frame. -/
theorem outSlot_keeps_stopped {u : State} (d : OutRun) (x : Slot) {arm : Arm} (h : (u.supervision.get arm).state = .stopped) :
    ((outSlot targetSlot u d x).1.supervision.get arm).state = .stopped := by
  rcases d.acts_cases u.setup x with ⟨other, ha⟩ | ha | ha
  · rw [outSlot_target ha]; exact targetSlot_keeps_stopped other _ h
  · rw [outSlot_rackOut ha, rackOutSlot_state]; exact h
  · rw [outSlot_other ha]; exact h

theorem StoppedRun.outSlot {setup : Setup} {arm : Arm} {n : Nat} {sl x : Slot} {handled rest slots : List Slot} {u : State} {d : OutRun}
    (h : StoppedRun setup arm n sl handled u d) (hs : slots = handled ++ x :: rest) (hf : firstOfRow slots n sl) (hk : sl.kind = 0x10)
    (ha : armAt setup.armNode sl.address = some arm) (hl : 16 ≤ sl.payload.length) :
    StoppedRun setup arm n sl (handled ++ [x]) (outSlot targetSlot u d x).1 (outSlot targetSlot u d x).2 where
  follows := h.follows.outSlot supervises_targetSlot.length u x
  sameSetup := (outSlot_targetSlot_setup u d x).trans h.sameSetup
  stopped := outSlot_keeps_stopped d x h.stopped
  done := by
    intro hn
    by_cases hlt : n < handled.length
    · obtain ⟨w, marker, targets, hd, hw⟩ := h.done hlt
      exact ⟨w, marker, targets, outSlot_done_of_some targetSlot u x hd, hw⟩
    · obtain rfl : n = handled.length := by simp at hn; omega
      obtain rfl : x = sl := by simpa [hs] using hf.1
      have htake : slots.take handled.length = handled := by simp [hs]
      have hacts : d.acts u.setup x (.target arm) := h.sameSetup ▸
        OutRun.Follows.acts (htake.symm ▸ h.follows) hf (outRoute_target_iff.2 ⟨hk, ha⟩) hl
      rw [outSlot_target hacts, targetSlot_stopped _ (.inl h.stopped)]
      exact ⟨stoppedTarget (u.supervision.get arm) x.payload, _, _, by simp [OutRun.with, ← h.follows.length_done], targetWritten_stopped hl (u.supervision.get arm)⟩

theorem mem_take_of_getElem? {slots : List Slot} {n : Nat} {x : Slot} (h : x ∈ slots.take n) : ∃ m < n, slots[m]? = some x := by
  obtain ⟨m, hm⟩ := List.mem_iff_getElem?.1 h
  rw [List.getElem?_take] at hm
  split at hm
  · exact ⟨m, ‹_›, hm⟩
  · cases hm

/-- Settles O13: the run with the arm STOPPED, of the plain frame and with what comes between its slots. -/
theorem stoppedArmDriveDisabled : Obligations.StoppedArmDriveDisabled := by
  intro s f arm n sl hpin hf hne hstop hn hk ha hl hfirst
  have hrow : firstOfRow f.slots n sl := by
    refine ⟨hn, fun x hx hxk => ?_⟩
    obtain ⟨m, hm, hx⟩ := mem_take_of_getElem? hx
    exact hfirst m x hm hx (hxk.trans hk)
  have hlt : n < f.slots.length := (List.getElem?_eq_some_iff.1 hn).1
  have hat : armAt s.setup.armNode sl.address = some arm := armAt_of_address hne ha
  have h0 : StoppedRun s.setup arm n sl [] (startOut s f).1 OutRun.start := ⟨OutRun.Follows.start, rfl, hstop, fun h => absurd h (by simp)⟩
  constructor
  · intro hroom
    have hrun : StoppedRun s.setup arm n sl f.slots (plainRun s f).1 (plainRun s f).2 :=
      outSlots_induct (P := StoppedRun s.setup arm n sl) h0 fun _ _ _ _ _ hs h => h.outSlot hs hrow hk hat hl
    obtain ⟨w, marker, targets, hd, hw⟩ := hrun.done hlt
    obtain ⟨g, carries, w', htx, hg, hw'⟩ := (plainOutbound_placed s f).sentTarget hrun.follows hk hd hw hroom
    exact ⟨_, g, carries, _, exec_outbound_plain hpin hf, htx, hg, hw'.2.1⟩
  · intro during hothers hserve hdef
    refine ⟨by rw [exec_outbound hpin, cycleFrameWith_eq_afterEnd], fun hroom => ?_⟩
    have hinv := (outFrame_invariant (during := during)
      (I := fun handled u d => StoppedRun s.setup arm n sl handled u d ∧ u.service.deferred = []) hf hothers ⟨h0, hdef⟩ ?_ ?_).2
    · obtain ⟨run, ⟨hrun, -⟩, -, -, hu⟩ := hinv.handle
      obtain ⟨w, marker, targets, hd, hw⟩ := hrun.done hlt
      have hp := forwardOut_placed (s := (beforeEnd .u s f during).state) rfl rfl f.cycle run
      obtain ⟨g, carries, w', htx, hg, hw'⟩ := hp.sentTarget hrun.follows hk hd hw hroom
      exact ⟨g, carries, _, hu ▸ htx, hg, hw'.2.1⟩
    · intro handled m d e he hslot ⟨hr, hdm⟩
      have hquiet := midEvent_undisturbed (hothers e he hslot)
        (by simpa using List.all_eq_true.1 hserve e he) hdm
      exact ⟨⟨hr.follows, hquiet.setup.trans hr.sameSetup, (hquiet.calm arm).2 hr.stopped, hr.done⟩, hquiet.deferred⟩
    · intro handled x rest u d hs ⟨hr, hdm⟩
      have hkeep := (sameButHalt_of_sansHalt (outSlot_keeps u d x).1).service
      exact ⟨hr.outSlot hs hrow hk hat hl, hkeep ▸ hdm⟩

/-! ### The step clamp -/

theorem stepLimit_nonneg (s : State) (arm : Arm) (ax : Axis) : 0 ≤ stepLimit s arm ax := by
  unfold stepLimit
  split
  · omega
  · exact le_rfl

/-- The step clamp as a minimum and a maximum (R93). -/
theorem clampStep_eq (reference limit target : Int) (h : 0 ≤ limit) : clampStep reference limit target =
    max (-549755813887) (min 549755813887 (max (reference - limit) (min (reference + limit) target))) := by
  unfold clampStep clampPosition Config.positionLimit
  split <;> (try split) <;> omega

/-- A clamped target lies within the limit of a reference that is a position. -/
theorem clampStep_near {reference limit : Int} (target : Int) (h : 0 ≤ limit) (hr : withinPosition reference = true) :
    (clampStep reference limit target - reference).natAbs ≤ limit.natAbs := by
  have hw : -549755813887 ≤ reference ∧ reference ≤ 549755813887 :=
    ((Bool.and_eq_true _ _).mp hr).imp of_decide_eq_true of_decide_eq_true
  rw [clampStep_eq _ _ _ h]
  omega

theorem clampTargets_get (s : State) (arm : Arm) (p target : Triple Int) (ax : Axis) :
    (clampTargets s arm p target).get ax = clampStep (p.get ax) (stepLimit s arm ax) (target.get ax) := by
  cases ax <;> rfl

theorem Triple.all_get {α : Type} {f : α → Bool} {t : Triple α} (h : t.all f = true) (ax : Axis) : f (t.get ax) = true := by
  simp only [Triple.all, Bool.and_eq_true] at h
  obtain ⟨⟨hx, hy⟩, hz⟩ := h
  cases ax
  · exact hx
  · exact hy
  · exact hz

/-! ### One frame moves a setpoint once -/

/-- A setpoint lies within the max step of another on each axis, and on it where the AXIS record is empty (R93). -/
def SetpointNear (s : State) (arm : Arm) (p q : Triple Int) : Prop :=
  ∀ ax : Axis, (q.get ax - p.get ax).natAbs ≤
    match Table.entry s.axes (axisIndex arm ax) with
    | some e => e.maxStep * 1000
    | none => 0

theorem SetpointNear.refl (s : State) (arm : Arm) (p : Triple Int) : SetpointNear s arm p p := by
  intro ax
  simp

theorem stepLimit_natAbs (s : State) (arm : Arm) (ax : Axis) : (stepLimit s arm ax).natAbs =
    match Table.entry s.axes (axisIndex arm ax) with
    | some e => e.maxStep * 1000
    | none => 0 := by
  unfold stepLimit
  split <;> simp_all [Int.natAbs_mul]

theorem clampTargets_near {s : State} {arm : Arm} {p : Triple Int} (target : Triple Int) (hp : p.all withinPosition = true) :
    SetpointNear s arm p (clampTargets s arm p target) := by
  intro ax
  rw [clampTargets_get]
  exact (clampStep_near _ (stepLimit_nonneg s arm ax) (Triple.all_get hp ax)).trans_eq (stepLimit_natAbs s arm ax)

/-- The setpoint after a TARGET slot: the one before it, or the clamped targets (R96, R97). -/
theorem targetSlot_setpoint {u : State} {arm : Arm} {p : Triple Int} (payload : List Byte)
    (hp : (u.supervision.get arm).setpoint = some p) :
    ((targetSlot u arm payload).1.supervision.get arm).setpoint = some p ∨
    ((targetSlot u arm payload).1.supervision.get arm).setpoint = some (clampTargets u arm p (targetPoint payload)) := by
  by_cases h : (u.supervision.get arm).state = .stopped
  · rw [targetSlot_stopped payload (.inl h)]
    exact .inl hp
  · rw [targetSlot_running payload h hp]
    unfold supervisedTarget
    dsimp only
    split
    · exact .inr (by simp [passedSupervision])
    · split
      · exact .inl (by simp [heldSupervision, hp])
      · exact .inl (by simp [heldSupervision, hp])

/-- The setpoint of an arm in a run: untouched, or moved once, with the row of the arm's TARGET slot matched. -/
structure MovesOnce (s : State) (arm : Arm) (p : Triple Int) (u : State) (d : OutRun) : Prop where
  setup : u.setup = s.setup
  axes : u.axes = s.axes
  setpoint : (u.supervision.get arm).setpoint = some p ∨ ∃ q, (u.supervision.get arm).setpoint = some q ∧ SetpointNear s arm p q ∧
    ∃ x, outRoute s.setup x = some (.target arm) ∧ slotRow x ∈ d.matched

theorem MovesOnce.near {s u : State} {arm : Arm} {p : Triple Int} {d : OutRun} (h : MovesOnce s arm p u d) :
    ∃ q, (u.supervision.get arm).setpoint = some q ∧ SetpointNear s arm p q := by
  rcases h.setpoint with h | ⟨q, hq, hn, -⟩
  · exact ⟨p, h, .refl s arm p⟩
  · exact ⟨q, hq, hn⟩

theorem mem_outSlot_matched {row : Byte × Byte} {u : State} {d : OutRun} (x : Slot) (h : row ∈ d.matched) :
    row ∈ (outSlot targetSlot u d x).2.matched := by
  rw [outSlot_matched]
  split
  · exact List.mem_cons_of_mem _ h
  · exact h

theorem MovesOnce.outSlot {s u : State} {arm : Arm} {p : Triple Int} {d : OutRun} (h : MovesOnce s arm p u d)
    (hp : p.all withinPosition = true) (x : Slot) : MovesOnce s arm p (outSlot targetSlot u d x).1 (outSlot targetSlot u d x).2 := by
  have hkeep := sameButHalt_of_sansHalt (outSlot_keeps u d x).1
  refine ⟨hkeep.setup.trans h.setup, hkeep.axes.trans h.axes, ?_⟩
  by_cases ha : d.acts u.setup x (.target arm)
  · have hroute : outRoute s.setup x = some (.target arm) := h.setup ▸ ha.1
    have hset : (u.supervision.get arm).setpoint = some p := by
      rcases h.setpoint with hset | ⟨q, -, -, y, hy, hm⟩
      · exact hset
      · exact absurd (slotRow_eq_of_route hy hroute ▸ hm) ha.2.1
    have hrow : slotRow x ∈ (Machine.outSlot targetSlot u d x).2.matched := by
      rw [outSlot_matched, ha.1]
      exact List.mem_cons_self
    rw [outSlot_target ha] at hrow ⊢
    have hnear : SetpointNear s arm p (clampTargets u arm p (targetPoint x.payload)) := by
      have hu := clampTargets_near (s := u) (arm := arm) (targetPoint x.payload) hp
      intro ax
      rw [← h.axes]
      exact hu ax
    rcases targetSlot_setpoint x.payload hset with hq | hq
    · exact .inl hq
    · exact .inr ⟨_, hq, hnear, x, hroute, hrow⟩
  · have hsame : ((Machine.outSlot targetSlot u d x).1.supervision.get arm).setpoint = (u.supervision.get arm).setpoint := by
      rcases d.acts_cases u.setup x with ⟨other, ho⟩ | ho | ho
      · have hne : arm ≠ other := fun e => ha (e ▸ ho)
        rw [outSlot_target ho, targetSlot_supervision_other u x.payload hne]
      · rw [outSlot_rackOut ho, rackOutSlot_state]; rfl
      · rw [outSlot_other ho]
    rw [hsame]
    rcases h.setpoint with hq | ⟨q, hq, hn, y, hy, hm⟩
    · exact .inl hq
    · exact .inr ⟨q, hq, hn, y, hy, mem_outSlot_matched x hm⟩

/-- The end of an outbound frame leaves the supervision state. -/
theorem forwardOut_supervision (s : State) (f : CycleFrame) (carried : List (RackTag × Nat)) :
    (forwardOut s f carried).supervision = s.supervision ∧ (forwardOut s f carried).service = s.service := by
  obtain ⟨⟨n, -, e⟩, -, -⟩ := forwardOut_endsOut s f carried
  rw [e]
  exact ⟨rfl, rfl⟩

/-- What is kept after the frame: no frame on the U port, nothing held back, the setpoint near what it was. -/
structure StaysNear (s : State) (arm : Arm) (p : Triple Int) (m : Mid) : Prop where
  out : m.out = none
  deferred : m.state.service.deferred = []
  setpoint : ∃ q, (m.state.supervision.get arm).setpoint = some q ∧ SetpointNear s arm p q

theorem StaysNear.of_undisturbed {s : State} {arm : Arm} {p : Triple Int} {m m' : Mid} (h : StaysNear s arm p m)
    (hu : Undisturbed m.state m'.state) (ho : m'.out = m.out) : StaysNear s arm p m' := by
  obtain ⟨q, hq, hn⟩ := h.setpoint
  exact ⟨ho.trans h.out, hu.deferred, q, (hu.calm arm).1.trans hq, hn⟩

theorem setpointStep_interleaved {s : State} {f : CycleFrame} {arm : Arm} {p : Triple Int} (hf : cycleFits f = true)
    (hset : (s.supervision.get arm).setpoint = some p) (hp : p.all withinPosition = true) {during : List Interleaved}
    (hothers : ∀ e ∈ during, e.event.port ≠ some .u) (hserve : noServe during = true) (hdef : s.service.deferred = []) :
    ∃ q, ((cycleFrameWith .u s f during).supervision.get arm).setpoint = some q ∧ SetpointNear s arm p q := by
  have hnoserve : ∀ e ∈ during, e.event ≠ .serve := fun e he => by simpa using List.all_eq_true.1 hserve e he
  have hinv := (outFrame_invariant (s := s) (during := during)
    (I := fun _ u d => MovesOnce s arm p u d ∧ u.service.deferred = []) hf (fun e he _ => hothers e he)
    ⟨⟨rfl, rfl, .inl hset⟩, hdef⟩ ?_ ?_).2
  · obtain ⟨run, ⟨hrun, hdm⟩, -, hnone, hu⟩ := hinv.handle
    have hend := forwardOut_supervision (beforeEnd .u s f during).state { cycle := f.cycle, slots := run.done } run.carried
    have hnear : StaysNear s arm p ((beforeEnd .u s f during).handle .u) :=
      ⟨hnone, by rw [hu, hend.2]; exact hdm, by rw [hu, hend.1]; exact hrun.near⟩
    have hafter : StaysNear s arm p (eventsWhere during (fun i => decide (pieceCount .u f ≤ i)) ((beforeEnd .u s f during).handle .u)) :=
      eventsWhere_keeps (fun m e he h => h.of_undisturbed (midEvent_undisturbed (hothers e he) (hnoserve e he) h.deferred)
        (midEvent_out (hothers e he))) _ hnear
    rw [cycleFrameWith_eq_afterEnd]
    unfold afterEnd
    generalize eventsWhere during (fun i => decide (pieceCount .u f ≤ i)) ((beforeEnd .u s f during).handle .u) = m at hafter
    have hfu : m.finish .u = m := by simp [Mid.finish, hafter.out]
    rw [hfu]
    have hfd : Undisturbed m.state (m.finish .d).state := by
      cases hb : m.back with
      | none => simpa [Mid.finish, hb] using Undisturbed.refl hafter.deferred
      | some b => simpa [Mid.finish, hb] using finishReturn_undisturbed hafter.deferred b
    exact (hafter.of_undisturbed hfd (Mid.finish_d_out m)).setpoint
  · intro _ m d e he _ ⟨hr, hdm⟩
    have hq := midEvent_undisturbed (hothers e he) (hnoserve e he) hdm
    refine ⟨⟨hq.setup.trans hr.setup, hq.axes.trans hr.axes, ?_⟩, hq.deferred⟩
    rw [(hq.calm arm).1]
    exact hr.setpoint
  · intro _ x _ u d _ ⟨hr, hdm⟩
    exact ⟨hr.outSlot hp x, (sameButHalt_of_sansHalt (outSlot_keeps u d x).1).service ▸ hdm⟩

theorem setpointStep_plain {s : State} {f : CycleFrame} {arm : Arm} {p : Triple Int}
    (hset : (s.supervision.get arm).setpoint = some p) (hp : p.all withinPosition = true) :
    ∃ q, ((plainOutbound s f).supervision.get arm).setpoint = some q ∧ SetpointNear s arm p q := by
  have hrun : MovesOnce s arm p (plainRun s f).1 (plainRun s f).2 :=
    outSlots_induct (P := fun _ u d => MovesOnce s arm p u d) ⟨rfl, rfl, .inl hset⟩ fun _ x _ _ _ _ h => h.outSlot hp x
  rw [plainOutbound_eq, (forwardOut_supervision _ _ _).1]
  exact hrun.near

/-- The first part of SetpointStepBounded. -/
theorem setpointStep_near {s : State} {f : CycleFrame} {arm : Arm} {p : Triple Int} (hpin : s.resetPin = false) (hf : cycleFits f = true)
    (hset : (s.supervision.get arm).setpoint = some p) (hp : p.all withinPosition = true) {during : List Interleaved}
    (h : during = [] ∨ ((∀ e ∈ during, e.event.port ≠ some .u) ∧ noServe during = true ∧ s.service.deferred = [])) :
    ∃ t q, exec (.outboundCycleFrame f during) s = .next t ∧ (t.supervision.get arm).setpoint = some q ∧ SetpointNear s arm p q := by
  rcases h with rfl | ⟨hothers, hserve, hdef⟩
  · obtain ⟨q, hq, hn⟩ := setpointStep_plain (f := f) hset hp
    exact ⟨_, q, exec_outbound_plain hpin hf, hq, hn⟩
  · obtain ⟨q, hq, hn⟩ := setpointStep_interleaved hf hset hp hothers hserve hdef
    exact ⟨_, q, exec_outbound hpin f during, hq, hn⟩

end Sys2Proof.Machine
end

section
/-! The zone check axis by axis (R85 to R90, R94, R95). -/

namespace Sys2Proof.Machine

/-! ### Boxes axis by axis -/

theorem Axis.forall_iff {P : Axis → Prop} : (∀ ax, P ax) ↔ P .x ∧ P .y ∧ P .z :=
  ⟨fun h => ⟨h .x, h .y, h .z⟩, fun ⟨hx, hy, hz⟩ ax => by cases ax <;> assumption⟩

theorem Axis.exists_iff {P : Axis → Prop} : (∃ ax, P ax) ↔ P .x ∨ P .y ∨ P .z := by
  constructor
  · rintro ⟨ax, h⟩
    cases ax
    · exact .inl h
    · exact .inr (.inl h)
    · exact .inr (.inr h)
  · rintro (h | h | h)
    · exact ⟨_, h⟩
    · exact ⟨_, h⟩
    · exact ⟨_, h⟩

theorem Box.within_iff (b z : Box) : b.within z = true ↔ ∀ ax, z.low.get ax ≤ b.low.get ax ∧ b.high.get ax ≤ z.high.get ax := by
  simp only [Axis.forall_iff, Box.within, Triple.get, Bool.and_eq_true, decide_eq_true_eq, and_assoc]

theorem Box.intersects_iff (b z : Box) : b.intersects z = true ↔ ∀ ax, b.low.get ax ≤ z.high.get ax ∧ z.low.get ax ≤ b.high.get ax := by
  simp only [Axis.forall_iff, Box.intersects, Triple.get, Bool.and_eq_true, decide_eq_true_eq, and_assoc]

theorem Box.separated_iff (margin : Int) (b c : Box) : Box.separated margin b c = true ↔
    ∃ ax, margin ≤ max (b.low.get ax - c.high.get ax) (c.low.get ax - b.high.get ax) := by
  simp only [Box.separated, Bool.or_eq_true, decide_eq_true_eq, or_assoc]
  simp only [Axis.exists_iff, axisGap, Triple.get]

theorem zoneBox_get (z : ZoneEntry) (ax : Axis) :
    (zoneBox z).low.get ax = z.minimum.get ax * 1000 ∧ (zoneBox z).high.get ax = z.maximum.get ax * 1000 := by
  cases ax <;> exact ⟨rfl, rfl⟩

/-! ### The arm box -/

theorem toCommon_get (s : State) (arm : Arm) (p : Triple Int) (ax : Axis) : (toCommon s.setup arm p).get ax = s.commonOn arm p ax := by
  cases arm with
  | a => rfl
  | b =>
    unfold State.commonOn
    cases ax with
    | x => simp only [toCommon, Triple.get]; cases s.setup.signB.x <;> rfl
    | y => simp only [toCommon, Triple.get]; cases s.setup.signB.y <;> rfl
    | z => simp only [toCommon, Triple.get]; cases s.setup.signB.z <;> rfl

theorem boxRadius_eq (s : State) (arm : Arm) : boxRadius s arm = s.reachOf arm := by
  unfold boxRadius State.reachOf envelopeRadius
  cases s.active.get arm with
  | none => rfl
  | unknown x => rfl
  | known i => dsimp only; cases Table.entry s.library i <;> rfl

theorem armBox_get (s : State) (arm : Arm) (p : Triple Int) (ax : Axis) :
    (armBox s arm p).low.get ax = s.lowOn arm p ax ∧ (armBox s arm p).high.get ax = s.highOn arm p ax := by
  rw [State.lowOn, State.highOn, ← toCommon_get, ← boxRadius_eq]
  cases ax <;> exact ⟨rfl, rfl⟩

theorem armBox_within_iff (s : State) (arm : Arm) (p : Triple Int) (z : ZoneEntry) :
    (armBox s arm p).within (zoneBox z) = true ↔ s.boxInside arm p z := by
  rw [Box.within_iff]
  refine forall_congr' fun ax => ?_
  rw [(zoneBox_get z ax).1, (zoneBox_get z ax).2, (armBox_get s arm p ax).1, (armBox_get s arm p ax).2]

theorem armBox_intersects_iff (s : State) (arm : Arm) (p : Triple Int) (z : ZoneEntry) :
    (armBox s arm p).intersects (zoneBox z) = true ↔ s.boxMeets arm p z := by
  rw [Box.intersects_iff]
  refine forall_congr' fun ax => ?_
  rw [(zoneBox_get z ax).1, (zoneBox_get z ax).2, (armBox_get s arm p ax).1, (armBox_get s arm p ax).2]

/-! ### The zones that apply -/

theorem covers_iff (sc : Scope) (arm : Arm) :
    sc.covers arm = true ↔ sc = .both ∨ (sc = .onlyA ∧ arm = .a) ∨ (sc = .onlyB ∧ arm = .b) := by
  cases sc <;> cases arm <;> simp [Scope.covers]

/-- A zone of a kind applies to an arm. -/
theorem isFor_iff (z : ZoneEntry) (arm : Arm) (kind : ZoneKind) : (z.appliesTo arm && z.kind == kind) = true ↔ z.isFor arm kind := by
  rw [ZoneEntry.isFor, ZoneEntry.appliesTo, Bool.and_eq_true, Bool.and_eq_true, covers_iff, beq_iff_eq, and_comm]

theorem any_zonesFor_iff (s : State) (arm : Arm) (kind : ZoneKind) (test : ZoneEntry → Bool) :
    (zonesFor s arm kind).any test = true ↔ ∃ q ∈ s.zones, q.2.isFor arm kind ∧ test q.2 = true := by
  rw [List.any_eq_true]
  constructor
  · rintro ⟨z, hz, ht⟩
    obtain ⟨hm, hf⟩ := List.mem_filter.1 hz
    obtain ⟨q, hq, rfl⟩ := List.mem_map.1 hm
    exact ⟨q, hq, (isFor_iff _ _ _).1 hf, ht⟩
  · rintro ⟨q, hq, hf, ht⟩
    exact ⟨q.2, List.mem_filter.2 ⟨List.mem_map.2 ⟨q, hq, rfl⟩, (isFor_iff _ _ _).2 hf⟩, ht⟩

/-- The corridor of a station is the first such zone (R89). -/
theorem corridorOf_eq_some_iff (s : State) (arm : Arm) (station : Nat) (z : ZoneEntry) : corridorOf s arm station = some z ↔
    ∃ before q after, s.zones = before ++ q :: after ∧ q.2 = z ∧ q.2.isFor arm .corridor ∧ q.2.station = station ∧
      ∀ x ∈ before, ¬ (x.2.isFor arm .corridor ∧ x.2.station = station) := by
  have hp : ∀ x : Nat × ZoneEntry, (((x.2.appliesTo arm && x.2.kind == .corridor) && x.2.station == station) = true) ↔
      x.2.isFor arm .corridor ∧ x.2.station = station := fun x => by rw [Bool.and_eq_true, isFor_iff, beq_iff_eq]
  have hfind : corridorOf s arm station =
      (s.zones.find? fun x => (x.2.appliesTo arm && x.2.kind == .corridor) && x.2.station == station).map Prod.snd := by
    rw [corridorOf, zonesFor, List.find?_filter, List.find?_map]
    refine congrArg (Option.map Prod.snd) (congrArg (fun test => List.find? test s.zones) (funext fun x => Bool.eq_iff_iff.2 ?_))
    simp only [Function.comp_apply, decide_eq_true_eq, Bool.and_eq_true]
  rw [hfind, Option.map_eq_some_iff]
  constructor
  · rintro ⟨q, hq, rfl⟩
    obtain ⟨ht, before, after, hz, hbefore⟩ := List.find?_eq_some_iff_append.1 hq
    obtain ⟨hfor, hstation⟩ := (hp q).1 ht
    exact ⟨before, q, after, hz, rfl, hfor, hstation, fun x hx h => by simpa [(hp x).2 h] using hbefore x hx⟩
  · rintro ⟨before, q, after, hz, rfl, hfor, hstation, hbefore⟩
    refine ⟨q, List.find?_eq_some_iff_append.2 ⟨(hp q).2 ⟨hfor, hstation⟩, before, after, hz, fun x hx => ?_⟩, rfl⟩
    rw [Bool.not_eq_true', Bool.eq_false_iff]
    exact fun h => hbefore x hx ((hp x).1 h)

theorem rackLifted_iff (s : State) (arm : Arm) (p : Triple Int) : rackLifted s arm (armBox s arm p) = true ↔ s.inOpenCorridor arm p := by
  unfold rackLifted State.inOpenCorridor
  constructor
  · intro h
    split at h
    · cases h
    · rename_i station hs
      split at h
      · cases h
      · rename_i z hz
        obtain ⟨before, q, after, he, rfl, hfor, hstation, hbefore⟩ := (corridorOf_eq_some_iff s arm station z).1 hz
        exact ⟨station, before, q, after, hs, he, hfor, hstation, hbefore, (armBox_within_iff s arm p _).1 h⟩
  · rintro ⟨station, before, q, after, hs, he, hfor, hstation, hbefore, hin⟩
    have hz := (corridorOf_eq_some_iff s arm station q.2).2 ⟨before, q, after, he, rfl, hfor, hstation, hbefore⟩
    simp only [hs, hz]
    exact (armBox_within_iff s arm p _).2 hin

/-! ### The two tests -/

theorem zoneTests_iff (s : State) (arm : Arm) (p : Triple Int) : zoneTests s arm (armBox s arm p) = true ↔
    (∃ q ∈ s.zones, q.2.isFor arm .envelope ∧ s.boxInside arm p q.2) ∧
    (∀ q ∈ s.zones, q.2.isFor arm .keepOut → ¬ s.boxMeets arm p q.2) ∧
    (s.inOpenCorridor arm p ∨ ∀ q ∈ s.zones, q.2.isFor arm .rack → ¬ s.boxMeets arm p q.2) := by
  have hnone (kind : ZoneKind) : (!(zonesFor s arm kind).any fun z => (armBox s arm p).intersects (zoneBox z)) = true ↔
      ∀ q ∈ s.zones, q.2.isFor arm kind → ¬ s.boxMeets arm p q.2 := by
    rw [Bool.not_eq_true', Bool.eq_false_iff, ne_eq, any_zonesFor_iff]
    simp only [armBox_intersects_iff, not_exists, not_and]
  rw [zoneTests, Bool.and_eq_true, Bool.and_eq_true, Bool.or_eq_true, any_zonesFor_iff, hnone, hnone, rackLifted_iff, and_assoc]
  simp only [armBox_within_iff]

theorem Triple.present_eq_some_iff {α : Type} (t : Triple (Option α)) (p : Triple α) :
    t.present = some p ↔ ∀ ax, t.get ax = some (p.get ax) := by
  obtain ⟨x, y, z⟩ := t
  obtain ⟨px, py, pz⟩ := p
  cases x <;> cases y <;> cases z <;> simp [Triple.present, Axis.forall_iff, Triple.get]

/-- Where an arm's box stands (R95). -/
theorem standingPoint_iff (s : State) (arm : Arm) (p : Triple Int) : standingPoint s arm = some p ↔ s.standsAt arm p := by
  unfold standingPoint State.standsAt correctedHead
  cases h : (s.supervision.get arm).setpoint with
  | some q => simp
  | none =>
    have hget (ax : Axis) : ((s.head.get arm).record.map fun h => h.last).get ax = ((s.head.get arm).record.get ax).last := by
      cases ax <;> rfl
    simp only [Triple.present_eq_some_iff, hget, true_and, false_or, reduceCtorEq]

theorem interferenceTest_iff (s : State) (arm : Arm) (p : Triple Int) : interferenceTest s arm (armBox s arm p) = true ↔
    ∀ c, s.standsAt (otherArm arm) c → ∃ ax, (s.setup.margin : Int) * 1000000 ≤
      max (s.lowOn arm p ax - s.highOn (otherArm arm) c ax) (s.lowOn (otherArm arm) c ax - s.highOn arm p ax) := by
  have hsep (c : Triple Int) : Box.separated ((s.setup.margin : Int) * 1000000) (armBox s arm p) (armBox s (otherArm arm) c) = true ↔
      ∃ ax, (s.setup.margin : Int) * 1000000 ≤
        max (s.lowOn arm p ax - s.highOn (otherArm arm) c ax) (s.lowOn (otherArm arm) c ax - s.highOn arm p ax) := by
    rw [Box.separated_iff]
    refine exists_congr fun ax => ?_
    rw [(armBox_get s arm p ax).1, (armBox_get s arm p ax).2, (armBox_get s (otherArm arm) c ax).1, (armBox_get s (otherArm arm) c ax).2]
  simp only [← standingPoint_iff, ← hsep]
  unfold interferenceTest
  cases standingPoint s (otherArm arm) <;> simp

/-- The zone check is that of R94 and R95. -/
theorem zoneCheck_iff (s : State) (arm : Arm) (p : Triple Int) : zoneCheck s arm p = true ↔ s.ZonesPass arm p := by
  rw [zoneCheck, Bool.and_eq_true, zoneTests_iff, interferenceTest_iff, State.ZonesPass]
  simp only [and_assoc]

end Sys2Proof.Machine
end

section
/-! The TARGET slot of an arm in an outbound frame: clamp, zone check, pass, hold and stop (SetpointStepBounded). -/

namespace Sys2Proof.Machine

/-! ### The clamped targets -/

theorem clampedOn_eq (s : State) (arm : Arm) (p : Triple Int) (payload : List Byte) (ax : Axis) :
    s.clampedOn arm p payload ax = clampStep (p.get ax) (stepLimit s arm ax) (targetOn payload ax) := by
  rw [clampStep_eq _ _ _ (stepLimit_nonneg s arm ax)]
  unfold State.clampedOn stepLimit
  cases Table.entry s.axes (axisIndex arm ax) <;> rfl

theorem stepLimit_congr {s u : State} (h : u.axes = s.axes) (arm : Arm) (ax : Axis) : stepLimit u arm ax = stepLimit s arm ax := by
  unfold stepLimit
  rw [h]

/-- The clamped targets of a TARGET slot (R93). -/
theorem clampTargets_eq {s u : State} (h : u.axes = s.axes) (arm : Arm) (p : Triple Int) (payload : List Byte) :
    clampTargets u arm p (targetPoint payload) = s.clampedAll arm p payload := by
  simp only [clampTargets, State.clampedAll, clampedOn_eq, stepLimit_congr h]
  rfl

theorem clampChanges_eq (s : State) (arm : Arm) (p : Triple Int) (payload : List Byte) :
    clampChanges (targetPoint payload) (s.clampedAll arm p payload) = s.clampsOn arm p payload := by
  have hx : (targetPoint payload).x = targetOn payload .x := rfl
  have hy : (targetPoint payload).y = targetOn payload .y := rfl
  have hz : (targetPoint payload).z = targetOn payload .z := rfl
  rw [State.clampsOn, ← List.countP_eq_length_filter]
  simp only [clampChanges, State.clampedAll, hx, hy, hz, List.countP_cons, List.countP_nil, bne_iff_ne, ne_eq, ite_not,
    eq_comm (a := targetOn payload _)]
  omega

/-! ### The slot in its frame -/

/-- An arm's supervision state before a slot is as the frame finds it: no slot before it is acted on for the arm. -/
theorem outSlot_supervision_other {u : State} {d : OutRun} {x : Slot} {arm : Arm} (h : ¬ d.acts u.setup x (.target arm)) :
    (outSlot targetSlot u d x).1.supervision.get arm = u.supervision.get arm := by
  rcases d.acts_cases u.setup x with ⟨other, ho⟩ | ho | ho
  · have hne : arm ≠ other := fun e => h (e ▸ ho)
    rw [outSlot_target ho, targetSlot_supervision_other u x.payload hne]
  · rw [outSlot_rackOut ho, rackOutSlot_state]; rfl
  · rw [outSlot_other ho]

/-- What the TARGET slot of an arm finds and leaves: `m` is the part as the slots before it leave it. -/
structure TargetInFrame (s : State) (f : CycleFrame) (arm : Arm) (n : Nat) (sl : Slot) (m : State) : Prop where
  setup : m.setup = s.setup
  axes : m.axes = s.axes
  supervision : m.supervision.get arm = s.supervision.get arm
  after : (plainOutbound s f).supervision.get arm = (targetSlot m arm sl.payload).1.supervision.get arm
  sent : ∀ enable marker targets, TargetWritten sl.payload (targetSlot m arm sl.payload).2 enable marker targets →
    s.SentTarget (plainOutbound s f) n sl enable marker targets

theorem targetInFrame {s : State} {f : CycleFrame} {arm : Arm} {n : Nat} {sl : Slot} (hf : cycleFits f = true)
    (h : s.ActsOnTarget arm f.slots n sl) : TargetInFrame s f arm n sl (s.atSlot f n) := by
  obtain ⟨hne, hrow, hk, ha, hl⟩ := h
  have hn := (List.getElem?_eq_some_iff.1 hrow.1).1
  have hr : outRoute (startOut s f).1.setup sl = some (.target arm) := outRoute_target_iff.2 ⟨hk, armAt_of_address hne ha⟩
  have hm := outSlots_recalls supervises_targetSlot (startOut s f).1 (f.slots.take n)
  have hkeep := sameButHalt_of_sansHalt (outSlots_keep (startOut s f).1 (f.slots.take n)).1
  have hsup : (outSlots targetSlot (startOut s f).1 OutRun.start (f.slots.take n)).1.supervision.get arm = s.supervision.get arm :=
    outSlots_before (Q := fun u _ => u.supervision.get arm = s.supervision.get arm) supervises_targetSlot hrow hr
      (fun u d x hu hx hq => (outSlot_supervision_other (hu ▸ hx)).trans hq) rfl
  have hacts := hm.follows.acts hrow hr hl
  have hlen := hm.follows.length_done.trans (length_take_of_getElem? hrow.1)
  have hsplit := outSlots_split (supervise := targetSlot) (startOut s f).1 hrow.1
  rw [atSlot_eq hf hn.le]
  generalize hmd : outSlots targetSlot (startOut s f).1 OutRun.start (f.slots.take n) = md at hm hkeep hsup hacts hlen hsplit
  obtain ⟨m, d⟩ := md
  dsimp only at hm hkeep hsup hacts hlen hsplit ⊢
  have hafter : (plainRun s f).1.supervision.get arm = (targetSlot m arm sl.payload).1.supervision.get arm ∧
      (plainRun s f).2.done[n]? = some { sl with payload := (targetSlot m arm sl.payload).2 } := by
    rw [plainRun, hsplit]
    refine outSlots_after (Q := fun u d => u.supervision.get arm = _ ∧ d.done[n]? = some _) supervises_targetSlot
      (hm.outSlot supervises_targetSlot sl) hr (by simp)
      (fun u d x hu hx hq => ⟨(outSlot_supervision_other (hu ▸ hx)).trans hq.1, outSlot_done_of_some targetSlot u x hq.2⟩) ?_
    rw [outSlot_target (hm.sameSetup ▸ hacts)]
    exact ⟨rfl, by simp [OutRun.with, hlen]⟩
  exact ⟨hkeep.setup, hkeep.axes, hsup, by rw [plainOutbound_eq, (forwardOut_supervision _ _ _).1, hafter.1],
    fun enable marker targets hw => (plainOutbound_placed s f).sentTarget (plainRun_follows s f) hk hafter.2 hw⟩

theorem eq_otherArm_of_ne {arm other : Arm} (h : other ≠ arm) : other = otherArm arm := by
  cases arm <;> cases other <;> simp_all [otherArm]

/-- Without a TARGET slot of the other arm before it, the slot finds the part as the frame does, but for the rack channel. -/
theorem atSlot_undisturbed {s : State} {f : CycleFrame} {arm : Arm} {n : Nat} {sl : Slot} (hf : cycleFits f = true)
    (h : s.ActsOnTarget arm f.slots n sl)
    (hother : ∀ x ∈ f.slots.take n, x.kind = 0x10 → x.address.toNat ≠ s.setup.armNode.get (otherArm arm)) :
    ∃ r, s.atSlot f n = (startOut s f).1.setRack r := by
  obtain ⟨hne, hrow, hk, ha, hl⟩ := h
  have hr : outRoute s.setup sl = some (.target arm) := outRoute_target_iff.2 ⟨hk, armAt_of_address hne ha⟩
  rw [atSlot_eq hf (List.getElem?_eq_some_iff.1 hrow.1).1.le]
  refine outSlots_induct (P := fun _ u _ => ∃ r, u = (startOut s f).1.setRack r) ⟨(startOut s f).1.rack, rfl⟩ ?_
  rintro handled x rest u d hx ⟨r, rfl⟩
  have hmem : x ∈ f.slots.take n := by rw [hx]; simp
  rcases d.acts_cases ((startOut s f).1.setRack r).setup x with ⟨other, ho⟩ | ho | ho
  · obtain ⟨hxk, hxa⟩ := outRoute_target_iff.1 ho.1
    by_cases he : other = arm
    · exact absurd (he ▸ ho) (not_acts_before hrow hr hmem)
    · exact absurd (eq_otherArm_of_ne he ▸ armAt_address hxa) (hother x hmem hxk)
  · rw [outSlot_rackOut ho, rackOutSlot_state]
    exact ⟨_, rfl⟩
  · rw [outSlot_other ho]
    exact ⟨r, rfl⟩

/-! ### Pass, hold and stop -/

theorem heldSupervision_holdRun (v : Supervision) (changes : Nat) :
    (heldSupervision v changes).holdRun = min 65535 (v.holdRun + 1) := rfl

section
variable {s : State} {f : CycleFrame} {arm : Arm} {n : Nat} {sl : Slot} {m : State} (h : TargetInFrame s f arm n sl m)
  (hl : 16 ≤ sl.payload.length)
include h hl

/-- The TARGET slot of a STOPPED arm, and of one without a setpoint (R92; log 22). -/
theorem TargetInFrame.stopped (hv : (s.supervision.get arm).state = .stopped ∨ (s.supervision.get arm).setpoint = none) :
    (plainOutbound s f).supervision.get arm = s.supervision.get arm ∧
    s.SentTarget (plainOutbound s f) n sl false (s.supervision.get arm).setpoint.isSome (s.supervision.get arm).setpoint := by
  have hslot : targetSlot m arm sl.payload = (m, stoppedTarget (s.supervision.get arm) sl.payload) := by
    rw [targetSlot_stopped sl.payload (by rw [h.supervision]; exact hv), h.supervision]
  exact ⟨by rw [h.after, hslot, h.supervision], h.sent _ _ _ (by rw [hslot]; exact targetWritten_stopped hl _)⟩

variable {p : Triple Int} (hv : (s.supervision.get arm).state ≠ .stopped) (hp : (s.supervision.get arm).setpoint = some p)
include hv hp

omit hl in
theorem TargetInFrame.running : targetSlot m arm sl.payload = supervisedTarget m arm p sl.payload :=
  targetSlot_running sl.payload (by rw [h.supervision]; exact hv) (by rw [h.supervision]; exact hp)

theorem TargetInFrame.passed (hz : zoneCheck m arm (s.clampedAll arm p sl.payload) = true) :
    (plainOutbound s f).supervision.get arm = { s.supervision.get arm with
      state := .free, setpoint := some (s.clampedAll arm p sl.payload), holdRun := 0
      clampCount := min 65535 ((s.supervision.get arm).clampCount + s.clampsOn arm p sl.payload) } ∧
    s.SentTarget (plainOutbound s f) n sl (bitOf (sl.payload.headD 0) 0) false (some (s.clampedAll arm p sl.payload)) := by
  have hslot : targetSlot m arm sl.payload =
      (m.setSupervision arm (passedSupervision (s.supervision.get arm) (s.clampedAll arm p sl.payload) (s.clampsOn arm p sl.payload)),
        writeTarget sl.payload (targetEnable sl.payload) false (s.clampedAll arm p sl.payload)) := by
    rw [h.running hv hp, supervisedTarget]
    simp only [clampTargets_eq h.axes, clampChanges_eq, hz, if_true, h.supervision]
  exact ⟨by rw [h.after, hslot]; exact PerArm.get_put_same _ _ _,
    h.sent _ _ _ (by rw [hslot]; exact targetWritten_target hl _ _ _)⟩

theorem TargetInFrame.held (hz : zoneCheck m arm (s.clampedAll arm p sl.payload) = false)
    (hlimit : s.setup.holdLimit.get arm = 0 ∨ min 65535 ((s.supervision.get arm).holdRun + 1) ≤ s.setup.holdLimit.get arm) :
    (plainOutbound s f).supervision.get arm = heldSupervision (s.supervision.get arm) (s.clampsOn arm p sl.payload) ∧
    s.SentTarget (plainOutbound s f) n sl (bitOf (sl.payload.headD 0) 0) true (some p) := by
  have hexceeds : exceedsHoldLimit m arm (heldSupervision (s.supervision.get arm) (s.clampsOn arm p sl.payload)) = false := by
    simp only [exceedsHoldLimit, h.setup, heldSupervision_holdRun]
    rcases hlimit with h0 | h0
    · simp [h0]
    · simp [Nat.not_lt.2 h0]
  have hslot : targetSlot m arm sl.payload =
      (m.setSupervision arm (heldSupervision (s.supervision.get arm) (s.clampsOn arm p sl.payload)),
        writeTarget sl.payload (targetEnable sl.payload) true p) := by
    rw [h.running hv hp, supervisedTarget]
    simp only [clampTargets_eq h.axes, clampChanges_eq, hz, h.supervision, hexceeds, Bool.false_eq_true, if_false]
  exact ⟨by rw [h.after, hslot]; exact PerArm.get_put_same _ _ _,
    h.sent _ _ _ (by rw [hslot]; exact targetWritten_target hl _ _ _)⟩

theorem TargetInFrame.heldTooLong (hz : zoneCheck m arm (s.clampedAll arm p sl.payload) = false)
    (h0 : s.setup.holdLimit.get arm ≠ 0) (hlimit : s.setup.holdLimit.get arm < min 65535 ((s.supervision.get arm).holdRun + 1)) :
    (plainOutbound s f).supervision.get arm =
      { heldSupervision (s.supervision.get arm) (s.clampsOn arm p sl.payload) with state := .stopped, cause := .holdLimit } ∧
    s.SentTarget (plainOutbound s f) n sl false true (some p) := by
  have hexceeds : exceedsHoldLimit m arm (heldSupervision (s.supervision.get arm) (s.clampsOn arm p sl.payload)) = true := by
    simp only [exceedsHoldLimit, h.setup, heldSupervision_holdRun]
    simp [h0, hlimit]
  have hslot : targetSlot m arm sl.payload =
      (stopArm (m.setSupervision arm (heldSupervision (s.supervision.get arm) (s.clampsOn arm p sl.payload))) arm .holdLimit,
        writeTarget sl.payload false true p) := by
    rw [h.running hv hp, supervisedTarget]
    simp only [clampTargets_eq h.axes, clampChanges_eq, hz, h.supervision, hexceeds, Bool.false_eq_true, if_false, if_true]
  refine ⟨?_, h.sent _ _ _ (by rw [hslot]; exact targetWritten_target hl _ _ _)⟩
  rw [h.after, hslot, stopArm_supervision, PerArm.get_put_same, State.setSupervision_supervision, PerArm.get_put_same]
  rfl

end

/-- Settles O14: the bound from the run that moves a setpoint once, the slot from what it finds in its frame, the zone check from its
boxes. -/
theorem setpointStepBounded : Obligations.SetpointStepBounded := by
  refine ⟨fun s f arm p hpin hf hset hp during h => setpointStep_near hpin hf hset hp h, fun s f arm n sl hpin hf hacts => ?_, zoneCheck_iff⟩
  have h := targetInFrame hf hacts
  have hl : 16 ≤ sl.payload.length := hacts.2.2.2.2
  refine ⟨_, exec_outbound_plain hpin hf, h.supervision, fun hother => ?_, h.stopped hl, fun p hv hp => ⟨h.passed hl hv hp, ?_, ?_⟩⟩
  · obtain ⟨r, e⟩ := atSlot_undisturbed hf hacts hother
    rw [e]
    exact ⟨rfl, fun _ => rfl⟩
  · exact fun hz hlimit => h.held hl hv hp hz hlimit
  · exact fun hz h0 hlimit => h.heldTooLong hl hv hp hz h0 hlimit

end Sys2Proof.Machine
end

section
/-! The slots of a return frame as the part leaves them: POSITION slots while they are handled, the REPORT slot at the frame's end (R9, R13,
R74, R178). -/

namespace Sys2Proof.Machine

/-! ### POSITION slots -/

theorem correctedPayload_length {payload : List Byte} (h : 36 ≤ payload.length) (s : State) (arm : Arm) :
    (correctedPayload s arm payload).length = payload.length := by
  have hp (t : Triple Int) : (splice payload 16 (tripleBytes t)).length = payload.length :=
    splice_length (by rw [tripleBytes_length]; omega)
  unfold correctedPayload writePosition
  rw [splice_length, hp]
  simp only [hp, correctionFlagBytes, leBytes_length]
  omega

theorem backRoute_position {setup : Setup} {sl : Slot} {arm : Arm} :
    backRoute setup sl = some (.position arm) ↔ sl.kind = 0x11 ∧ armAt setup.armNode sl.address = some arm := by
  unfold backRoute kindThermal kindPosition
  split
  · rename_i hk; simp [hk]
  · split
    · rename_i hk; simp [hk]
    · rename_i hk
      have hk' : ¬ sl.kind = 17#8 := hk
      split <;> (try split) <;> simp [hk']

/-- One slot is passed on, rewritten only where it is a POSITION slot (R9, R13). -/
theorem handleBack_done (s : State) (d : BackRun) {r : BackRoute} {sl : Slot} (hr : backRoute s.setup sl = some r) :
    ∃ sl', Rewritten [0x11] sl sl' ∧ (handleBack s d r sl).2.done = d.done ++ [sl'] := by
  unfold handleBack
  split
  · split <;> exact ⟨sl, .refl _ sl, rfl⟩
  · rename_i arm
    split
    · rename_i hlong
      have hl : 36 ≤ sl.payload.length := by simpa [longEnough] using hlong
      exact ⟨_, .of_payload (correctedPayload_length hl s arm) (by simp [(backRoute_position.1 hr).1]), rfl⟩
    · exact ⟨sl, .refl _ sl, rfl⟩
  · split <;> exact ⟨sl, .refl _ sl, rfl⟩
  · split <;> exact ⟨sl, .refl _ sl, rfl⟩

theorem backSlot_done (s : State) (d : BackRun) (sl : Slot) :
    ∃ sl', Rewritten [0x11] sl sl' ∧ (backSlot s d sl).2.done = d.done ++ [sl'] := by
  unfold backSlot
  split
  · exact ⟨sl, .refl _ sl, rfl⟩
  · dsimp only
    split
    · exact ⟨sl, .refl _ sl, rfl⟩
    · exact handleBack_done s _ ‹_›

/-- A run has handled some slots of a return frame: the frame so far is theirs but for POSITION payloads. -/
def BackRun.Follows (handled : List Slot) (d : BackRun) : Prop := List.Forall₂ (Rewritten [0x11]) handled d.done

theorem BackRun.Follows.start : BackRun.start.Follows [] := List.Forall₂.nil

theorem BackRun.Follows.backSlot {handled : List Slot} {d : BackRun} (h : d.Follows handled) (s : State) (sl : Slot) :
    (backSlot s d sl).2.Follows (handled ++ [sl]) := by
  obtain ⟨sl', hsl, he⟩ := backSlot_done s d sl
  rw [BackRun.Follows, he]
  exact List.rel_append h (.cons hsl .nil)

theorem BackRun.Follows.backSlots {handled : List Slot} {d : BackRun} (h : d.Follows handled) (s : State) (slots : List Slot) :
    (backSlots s d slots).2.Follows (handled ++ slots) := by
  induction slots generalizing handled s d with
  | nil => rwa [List.append_nil]
  | cons sl rest ih =>
    have := ih (h.backSlot s sl) (Machine.backSlot s d sl).1
    rwa [List.append_assoc] at this

/-! ### The REPORT slot -/

@[simp] theorem recordBytes_length (q : QueuedRecord) : (recordBytes q).length = 36 := by
  have hp (p : Option PlanResult) : (planFieldBytes p).length = 8 := by cases p <;> simp [planFieldBytes]
  simp [recordBytes, hp]

@[simp] theorem spaceBytes_length (spaces : Nat) (records : List QueuedRecord) : (spaceBytes spaces records).length = 36 * spaces := by
  induction spaces generalizing records with
  | zero => rfl
  | succ n ih => cases records <;> simp [spaceBytes, emptySpace, ih] <;> omega

theorem recordSpaces_fit {payload : List Byte} (h : 16 ≤ payload.length) : 16 + 36 * recordSpaces payload ≤ payload.length := by
  unfold recordSpaces
  split
  · omega
  · split <;> omega

theorem reportSlot_length {payload : List Byte} (h : 16 ≤ payload.length) (s : State) :
    (reportSlot s payload).2.1.length = payload.length := by
  unfold reportSlot
  dsimp only
  have hs := recordSpaces_fit h
  have hspaces (l : List QueuedRecord) : (splice payload 16 (spaceBytes (recordSpaces payload) l)).length = payload.length :=
    splice_length (by rwa [spaceBytes_length])
  rw [splice_length, hspaces]
  rw [hspaces]
  simp only [headerBytes, List.length_cons, List.length_nil]
  omega

theorem replaceReport_rewritten {payload : List Byte} {slots : List Slot} {sl : Slot} (h : slots.find? isReport = some sl)
    (hl : payload.length = sl.payload.length) : List.Forall₂ (Rewritten [0x16]) slots (replaceReport payload slots) := by
  induction slots with
  | nil => exact .nil
  | cons x rest ih =>
    unfold replaceReport
    split
    · rename_i hx
      rw [List.find?_cons_of_pos hx] at h
      obtain rfl := Option.some.inj h
      have hk : x.kind = 0x16 := by simp only [isReport, kindReport, Bool.and_eq_true, beq_iff_eq] at hx; exact hx.1
      exact .cons (.of_payload hl (by simp [hk])) (forall₂_rewritten_refl _ _)
    · rename_i hx
      rw [List.find?_cons_of_neg hx] at h
      exact .cons (.refl _ x) (ih h)

theorem writeReport_rewritten (s : State) (slots : List Slot) : List.Forall₂ (Rewritten [0x16]) slots (writeReport s slots).2.1 := by
  unfold writeReport
  split
  · rename_i sl hsl
    split
    · rename_i hlong
      have hl : 16 ≤ sl.payload.length := by simpa [longEnough] using hlong
      exact replaceReport_rewritten hsl (reportSlot_length hl s)
    · exact forall₂_rewritten_refl _ _
  · exact forall₂_rewritten_refl _ _

/-- The slots of a return frame that is forwarded: only POSITION and REPORT slots are rewritten (R13). -/
theorem BackRun.Follows.forwarded {slots : List Slot} {d : BackRun} (h : d.Follows slots) (s : State) :
    onlyRewrites [0x11, 0x16] slots (writeReport s d.done).2.1 :=
  onlyRewrites_of_rewritten (forall₂_rewritten_trans (h.imp fun _ _ => Rewritten.mono (by simp))
    ((writeReport_rewritten s d.done).imp fun _ _ => Rewritten.mono (by simp)))

end Sys2Proof.Machine
end

section
/-! The end of a return frame, and a return frame with nothing between its pieces (R9, R11, R24, R40). -/

namespace Sys2Proof.Machine

/-! ### The stall judgement of a frame without a delivery -/

theorem judgeStall_waiting {s : State} (h : s.queue.records ≠ []) : (judgeStall s 0).queue = { s.queue with
    stallCount := min 255 (s.queue.stallCount + 1)
    stallMark := s.queue.stallMark || decide (s.setup.stallCycles ≤ min 255 (s.queue.stallCount + 1)) } := by
  have hl : 1 ≤ s.queue.records.length := List.length_pos_iff.2 h
  have hz : ¬ 1 ≤ 0 := by omega
  unfold judgeStall
  dsimp only
  rw [if_neg hz, if_pos hl]
  by_cases hc : s.setup.stallCycles ≤ min 255 (s.queue.stallCount + 1)
  · cases s.queue.stallMark <;> simp [bump8, addUpTo, hc]
  · simp [bump8, addUpTo, hc]

theorem judgeStall_empty {s : State} (h : s.queue.records = []) : (judgeStall s 0).queue = { s.queue with stallCount := 0 } := by
  simp [judgeStall, h]

/-! ### The frame's end -/

/-- A frame that is forwarded leaves the service block as it is. -/
theorem finishForwarded_service (s : State) (cycle : CycleNumber) (slots : List Slot) :
    (finishForwarded s cycle slots).service = s.service := by
  obtain ⟨q, n, -, e⟩ := reported_queueOnly s slots
  obtain ⟨l, n', -, e'⟩ := forward_d_form (reported s slots) (.back { cycle := cycle, slots := (writeReport s slots).2.1 })
  rw [finishForwarded_eq, e', e]
  rfl

theorem State.sentOn_u_link (s : State) (t : TxFrame) : (s.sentOn .u t).link = { s.link with txU := s.link.txU ++ [t] } := rfl

theorem State.badFrameOn_d_link (s : State) : (s.badFrameOn .d).link = { s.link with badD := min 65535 (s.link.badD + 1) } := rfl

/-- It is forwarded, or lost to a full queue and counted (R9, R14). -/
theorem finishForwarded_link (s : State) (cycle : CycleNumber) (slots : List Slot) :
    (s.Room .u → (finishForwarded s cycle slots).link =
      { s.link with txU := s.link.txU ++ [.back { cycle := cycle, slots := (writeReport s slots).2.1 }] }) ∧
    (¬ s.Room .u → (finishForwarded s cycle slots).link = { s.link with badD := min 65535 (s.link.badD + 1) }) := by
  have hlink : (reported s slots).link = s.link := by
    obtain ⟨q, n, -, e⟩ := reported_queueOnly s slots
    rw [e]
    rfl
  have hroom : (reported s slots).Room .u ↔ s.Room .u := by rw [State.room_iff, State.room_iff, hlink]
  rw [finishForwarded_eq]
  refine ⟨fun h => ?_, fun h => ?_⟩
  · rw [State.forward_of_room (p := .d) (hroom.2 h), ← hlink]
    exact State.sentOn_u_link _ _
  · rw [State.forward_of_full (p := .d) (mt hroom.1 h), ← hlink]
    exact State.badFrameOn_d_link _

/-- What the end of a frame leaves of the service block: nothing is held back any more (R40). -/
theorem endBack_service (s : State) (b : BackFrame) : (endBack s b).service = { s.service with deferred := [], heldReply := none } := by
  have hs : (if b.originated then finishOriginated s else finishForwarded s b.cycle b.run.done).service = s.service := by
    split
    · obtain ⟨q, n, -, e⟩ := judgeStall_queueOnly s 0
      rw [finishOriginated, e]
      rfl
    · exact finishForwarded_service s _ _
  obtain ⟨-, -, -, hservice, -⟩ := leaveProcessing_frame (if b.originated then finishOriginated s else finishForwarded s b.cycle b.run.done)
  rw [endBack, hservice, hs]

/-- The end of a frame that is forwarded: the frame, and after it the reply held back; a full queue loses both (R9, R14, R40). -/
theorem endBack_link_forwarded (s : State) {b : BackFrame} (hb : b.originated = false) :
    (s.Room .u → ∃ rest, (s.service.heldReply = none → rest = []) ∧ (endBack s b).link = { s.link with
      returnInProcessing := false
      txU := s.link.txU ++ .back { cycle := b.cycle, slots := (writeReport s b.run.done).2.1 } :: rest }) ∧
    (¬ s.Room .u → (endBack s b).link = { s.link with returnInProcessing := false, badD := min 65535 (s.link.badD + 1) }) := by
  obtain ⟨hroom, hfull⟩ := finishForwarded_link s b.cycle b.run.done
  obtain ⟨rest, hrest, hlink, -⟩ := leaveProcessing_frame (finishForwarded s b.cycle b.run.done)
  rw [endBack, hb, if_neg Bool.false_ne_true, hlink]
  refine ⟨fun h => ⟨rest, fun hn => hrest.none ((congrArg Service.heldReply (finishForwarded_service s _ _)).trans hn), ?_⟩, fun h => ?_⟩
  · rw [hroom h]
    simp
  · have hempty : rest = [] := hrest.full fun hr => h (by rw [State.room_iff, hfull h] at hr; exact (s.room_iff .u).2 hr)
    rw [hfull h, hempty, List.append_nil]

/-- The end of the return of an originated cycle: the reply held back alone (R24, R40). -/
theorem endBack_originated (s : State) {b : BackFrame} (hb : b.originated = true) : (endBack s b).queue = (judgeStall s 0).queue ∧
    ∃ rest, (s.service.heldReply = none → rest = []) ∧
      (endBack s b).link = { s.link with returnInProcessing := false, txU := s.link.txU ++ rest } := by
  obtain ⟨rest, hrest, hlink, -, hqueue⟩ := leaveProcessing_frame (finishOriginated s)
  obtain ⟨q, n, -, e⟩ := judgeStall_queueOnly s 0
  have hv : (finishOriginated s).service = s.service := by rw [finishOriginated, e]; rfl
  have hl : (finishOriginated s).link = s.link := by rw [finishOriginated, e]; rfl
  rw [endBack, hb, if_pos rfl, hlink, hqueue, hl]
  exact ⟨rfl, rest, fun hn => hrest.none (by rw [hv]; exact hn), rfl⟩

theorem endBack_txD (s : State) (b : BackFrame) : (endBack s b).link.txD = s.link.txD ∧ (endBack s b).link.returnInProcessing = false := by
  cases hb : b.originated with
  | true =>
    obtain ⟨-, rest, -, hl⟩ := endBack_originated s hb
    rw [hl]
    exact ⟨rfl, rfl⟩
  | false =>
    obtain ⟨hroom, hfull⟩ := endBack_link_forwarded s hb
    by_cases h : s.Room .u
    · obtain ⟨rest, -, hl⟩ := hroom h
      rw [hl]
      exact ⟨rfl, rfl⟩
    · rw [hfull h]
      exact ⟨rfl, rfl⟩

/-! ### A return frame with nothing between its pieces -/

theorem exec_return {s : State} (h : s.resetPin = false) (f : CycleFrame) (during : List Interleaved) :
    exec (.returnCycleFrame f during) s = .next (cycleFrameWith .d s f during) :=
  congrArg Host.Outcome.next (State.unlessReset_runs _ h)

/-- The slots of a return frame, handled with nothing between them. -/
def plainSlots (s : State) (f : CycleFrame) : State × BackRun := backSlots (startBack s f).1 BackRun.start f.slots

/-- Before its end: the slots and the stages of the frame-end work are done. -/
def plainBeforeEnd (s : State) (f : CycleFrame) : State :=
  endStages.foldl (endStage (plainSlots s f).2 f.cycle) (plainSlots s f).1

/-- The return frame whose end is to come. -/
def plainAtEnd (s : State) (f : CycleFrame) : BackFrame :=
  { cycle := f.cycle, originated := s.link.outstanding.contains f.cycle, todo := [], stages := [], run := (plainSlots s f).2 }

theorem exec_return_plain {s : State} (h : s.resetPin = false) {f : CycleFrame} (hf : cycleFits f = true) :
    exec (.returnCycleFrame f []) s = .next (endBack (plainBeforeEnd s f) (plainAtEnd s f)) := by
  rw [exec_return h, cycleFrameWith_nil_d hf]
  rfl

theorem plainSlots_follows (s : State) (f : CycleFrame) : (plainSlots s f).2.Follows f.slots :=
  BackRun.Follows.start.backSlots _ _

theorem plainBeforeEnd_keeps (s : State) (f : CycleFrame) : ReturnKeeps (startBack s f).1 (plainBeforeEnd s f) :=
  (backSlots_slotKeeps _ _ _).toReturnKeeps.trans (foldl_endStage_returnKeeps _ _ _ _)

theorem plainBeforeEnd_room (s : State) (f : CycleFrame) : (plainBeforeEnd s f).Room .u ↔ s.Room .u := by
  rw [State.room_iff, State.room_iff, (plainBeforeEnd_keeps s f).link]
  rfl

/-- The fields of the state that a return frame leaves. -/
theorem plainReturn_fields (s : State) (f : CycleFrame) (hd : s.service.deferred = []) (hh : s.service.heldReply = none) :
    let t := endBack (plainBeforeEnd s f) (plainAtEnd s f)
    t.setup = s.setup ∧ t.axes = s.axes ∧ t.map = s.map ∧ t.zones = s.zones ∧ t.service = s.service ∧ t.now = s.now ∧
      t.notices.currentCycle = f.cycle := by
  have hk := plainBeforeEnd_keeps s f
  have hservice := endBack_service (plainBeforeEnd s f) (plainAtEnd s f)
  obtain ⟨q, l, v, n, hn, -, ht⟩ := endBack_form (s := plainBeforeEnd s f) (hk.service ▸ hd) (plainAtEnd s f)
  obtain ⟨know, ksetup, -, kservice, kaxes, kmap, kzones, kcycle, -⟩ := hk
  generalize plainBeforeEnd s f = u at *
  generalize endBack u (plainAtEnd s f) = t at *
  have hv : t.service = s.service := by
    rw [hservice, kservice, ← hd, ← hh]
    rfl
  subst ht
  exact ⟨ksetup, kaxes, kmap, kzones, hv, know, hn.trans kcycle⟩

end Sys2Proof.Machine
end

section
/-! The D port has a return frame in processing: no work of the U port's receive side, of the service block, of a timer or of a leaving
frame changes that (R1, R40; log 10). An operation that does not touch the link block keeps it by definition. -/

namespace Sys2Proof.Machine

/-- A return frame is in processing. -/
def State.InProcessing (s : State) : Prop := s.link.returnInProcessing = true

section
variable {s : State} (h : s.InProcessing)
include h

theorem State.InProcessing.of_link {t : State} (hl : t.link = s.link) : t.InProcessing := by
  rw [State.InProcessing, hl]
  exact h

theorem State.InProcessing.of_sansReports {t : State} (e : t.sansReports = s.sansReports) : t.InProcessing :=
  have f {α : Type} (g : State → α) : g t.sansReports = g s.sansReports := congrArg g e
  h.of_link (f State.link)

theorem State.InProcessing.of_sansHalt {t : State} (e : t.sansHalt = s.sansHalt) : t.InProcessing :=
  h.of_link (sameButHalt_of_sansHalt e).link

/-! ### The transmit queues -/

theorem State.InProcessing.setTx {p : Port} {q : List TxFrame} : (s.setLink (s.link.setTx p q)).InProcessing := by cases p <;> exact h

theorem State.InProcessing.placeTx {p : Port} {t : TxFrame} : (s.placeTx p t).InProcessing := by
  rcases s.placeTx_cases p t with ⟨_, e⟩ | ⟨_, e⟩ <;> rw [e]
  · exact h
  · exact h.setTx

theorem State.InProcessing.countBadFrame {p : Port} : (s.countBadFrame p).InProcessing := by cases p <;> exact h

theorem State.InProcessing.forward {p : Port} {t : TxFrame} : (s.forward p t).InProcessing := by
  rcases s.forward_cases p t with ⟨_, e⟩ | ⟨_, e⟩ <;> rw [e]
  · exact h.countBadFrame
  · exact h.setTx

/-! ### The service block -/

theorem State.InProcessing.stopArm {arm : Arm} {c : StopCause} : (stopArm s arm c).InProcessing := h.of_sansHalt (stopArm_sansHalt s arm c)

theorem State.InProcessing.changeProbe {arm : Arm} {x : Nat} : (changeProbe s arm x).1.InProcessing := by
  have hs (q : Sequencer) : (suspendCapture (s.setSequencer arm q) arm).InProcessing :=
    h.of_sansReports (suspendCapture_sansReports (s.setSequencer arm q) arm)
  unfold Machine.changeProbe
  split
  · exact h
  · exact h
  · unfold acceptChange
    dsimp only
    split
    · exact State.InProcessing.of_sansReports (hs _) (sansReports_of_sansMoves (grantOpening_sansMoves _ arm))
    · exact hs _

theorem State.InProcessing.abortChange {arm : Arm} : (abortChange s arm).1.InProcessing := by
  unfold Machine.abortChange
  split
  · exact h
  · exact h.of_sansReports (failChange_sansReports s arm _)

theorem State.InProcessing.releaseArm {arm : Arm} : (releaseArm s arm).1.InProcessing := by
  unfold Machine.releaseArm
  dsimp only
  split; · exact h
  split; · exact h
  split; · exact h
  split
  · exact h
  · split <;> exact h

theorem State.InProcessing.openWindow {p : List Byte} : (openWindow s p).1.InProcessing := by
  unfold Machine.openWindow
  split
  · dsimp only
    split <;> exact h
  · exact h

theorem State.InProcessing.continueWindow {w : Window} : (continueWindow w s).1.InProcessing := by
  unfold Machine.continueWindow
  split <;> exact h

theorem State.InProcessing.readTable {p : List Byte} : (readTable s p).1.InProcessing := by
  unfold Machine.readTable
  split
  · exact h
  · dsimp only
    split; · exact h
    split <;> exact h

theorem State.InProcessing.placeEntry {held : Bool} {i : Nat} {e : Entry} : (placeEntry held s i e).InProcessing := by
  unfold Machine.placeEntry
  split
  · exact h
  · exact h.of_link (writeEntry_frame s i e).1

omit h in
theorem State.InProcessing.handleEntries {held : Bool} {k : Nat} {l : List (List Byte)} {d : DataRun} (h : d.state.InProcessing) :
    (handleEntries held k l d).state.InProcessing := by
  induction l generalizing k d with
  | nil => exact h
  | cons b bs ih =>
    unfold Machine.handleEntries
    split
    · exact ih h
    · split
      · exact h
      · exact ih h.placeEntry

theorem State.InProcessing.dataInWindow {held : Bool} {w : WindowValues} {p : List Byte} : (dataInWindow held s w p).1.InProcessing := by
  unfold Machine.dataInWindow
  split
  · exact h
  · dsimp only
    split; · exact h
    split; · exact h
    exact State.InProcessing.handleEntries (d := DataRun.start s w) h

theorem State.InProcessing.tableDataTaken {p : List Byte} : (tableDataTaken s p).1.InProcessing := by
  unfold Machine.tableDataTaken
  split
  · exact h
  · split
    · split <;> exact h.dataInWindow
    · exact h

theorem State.InProcessing.readNotices {p : List Byte} : (readNotices s p).1.InProcessing := by
  unfold Machine.readNotices
  dsimp only
  split <;> exact h

theorem State.InProcessing.setNoticeMask {p : List Byte} : (setNoticeMask s p).1.InProcessing := by
  unfold Machine.setNoticeMask
  dsimp only
  split <;> exact h

theorem State.InProcessing.readStatus {p : List Byte} : (readStatus s p).1.InProcessing := by
  unfold Machine.readStatus
  split
  · exact h
  · dsimp only
    split <;> exact h

theorem State.InProcessing.restartArm {arm : Arm} : (restartArm s arm).InProcessing := by
  unfold Machine.restartArm
  dsimp only
  split <;> exact h

theorem State.InProcessing.restartRun : (restartRun s).InProcessing :=
  have hn : (restartNotices s).InProcessing := h
  have hr := hn.restartArm (arm := .a) |>.restartArm (arm := .b)
  hr

theorem State.InProcessing.withArm {p : List Byte} {f : Arm → State × Answer} (hf : ∀ arm, (f arm).1.InProcessing) :
    (withArm s p f).1.InProcessing := by
  unfold Machine.withArm
  split
  · exact hf _
  · exact h

theorem State.InProcessing.planStartRequest {p : List Byte} : (planStartRequest s p).1.InProcessing := by
  refine h.withArm fun arm => ?_
  split
  · exact h
  · split
    · exact h
    · unfold planStart
      split <;> exact h

theorem State.InProcessing.planResume {arm : Arm} : (planResume s arm).1.InProcessing := by
  unfold Machine.planResume
  dsimp only
  split <;> exact h

omit h in
/-- Of two answers, whichever a test chooses. -/
theorem State.InProcessing.answer_ite {c : Prop} [Decidable c] {x y : State × Answer} (hx : x.1.InProcessing) (hy : y.1.InProcessing) :
    (if c then x else y).1.InProcessing := by
  split
  · exact hx
  · exact hy

open State.InProcessing in
theorem State.InProcessing.carryOutListed {w : Window} {c : Byte} {p : List Byte} : (carryOutListed w s c p).1.InProcessing :=
  answer_ite h.openWindow <| answer_ite h.continueWindow <| answer_ite h.readTable <|
  answer_ite (h.withArm fun _ => h.changeProbe) <| answer_ite (h.withArm fun _ => h.abortChange) <|
  answer_ite (h.withArm fun _ => h.stopArm) <| answer_ite (h.withArm fun _ => h.releaseArm) <|
  answer_ite h.planStartRequest <| answer_ite (h.withArm fun _ => h) <| answer_ite (h.withArm fun _ => h.planResume) <|
  answer_ite h <| answer_ite h <| answer_ite h.readNotices <| answer_ite h.setNoticeMask <| answer_ite h.readStatus <|
  answer_ite h.restartRun h

theorem State.InProcessing.carryOut {c : Byte} {p : List Byte} : (carryOut s c p).1.InProcessing := by
  have hb : (breakWindow s).InProcessing := h
  unfold Machine.carryOut
  split
  · exact hb.carryOutListed
  · exact h

theorem State.InProcessing.completeRequest {r : Request} : (completeRequest s r).InProcessing := by
  unfold Machine.completeRequest
  split
  · dsimp only
    split
    · exact h.tableDataTaken.placeTx
    · exact h.tableDataTaken
  · exact h.carryOut.placeTx

theorem State.InProcessing.serveOldest : (serveOldest s).InProcessing := by
  unfold Machine.serveOldest
  split
  · exact h
  · rename_i r rest _
    split
    · exact h
    · exact State.InProcessing.completeRequest (s := s.setService { s.service with requests := rest }) h

theorem State.InProcessing.takeRequest {r : Request} : (takeRequest s r).InProcessing := by
  unfold Machine.takeRequest
  split
  · unfold handOver
    split
    · exact h.placeTx
    · exact h
  · exact h.countBadFrame

/-! ### Outbound frames -/

theorem State.InProcessing.outSlot {d : OutRun} {sl : Slot} : (outSlot targetSlot s d sl).1.InProcessing :=
  h.of_sansHalt (outSlot_keeps s d sl).1

theorem State.InProcessing.outSlots {d : OutRun} {slots : List Slot} : (outSlots targetSlot s d slots).1.InProcessing :=
  outSlots_induct (P := fun _ u _ => u.InProcessing) h fun _ _ _ _ _ _ h => h.outSlot

theorem State.InProcessing.endOut {g : OutFrame} : (endOut s g).InProcessing := by
  obtain ⟨⟨n, -, e⟩, -, -⟩ := forwardOut_endsOut s { cycle := g.cycle, slots := g.run.done } g.run.carried
  rw [Machine.endOut, e]
  exact h

theorem State.InProcessing.handleOut {g : OutFrame} : (handleOut s g).1.InProcessing := by
  unfold Machine.handleOut
  split
  · exact h.endOut
  · exact h.outSlot

theorem State.InProcessing.startOut {f : CycleFrame} : (startOut s f).1.InProcessing := h

theorem State.InProcessing.takeFrame_u {bytes : List Byte} : (takeFrame s .u bytes).InProcessing := by
  unfold Machine.takeFrame
  split
  · exact h.countBadFrame
  · exact h.countBadFrame.forward
  · exact h.countBadFrame.forward
  · rename_i f _
    unfold takeGood
    split
    · exact h.forward
    · rename_i hp
      cases f with
      | cycleOut c => exact (h.startOut (f := c)).outSlots.endOut
      | cycleBack c => exact absurd rfl hp
      | serviceReq _ _ _ _ => exact h.takeRequest
      | serviceRep _ _ _ _ _ _ => exact h

/-! ### Timers and leaving frames -/

theorem State.InProcessing.originateAndStart : (originateAndStart s).InProcessing := by
  cases ht : s.link.template with
  | none =>
    have ho : originate s = s := by simp only [originate, ht]
    rw [Machine.originateAndStart, ho]
    exact h
  | some f =>
    have ho := (originateAndStart_originates ht rfl).state
    rw [ho]
    exact h

theorem State.InProcessing.enterHalted : (enterHalted s).InProcessing :=
  have hl : (s.setLink { s.link with watch := .halted, bridgeTimer := none }).InProcessing := h
  have ha := hl.stopArm (arm := .a) (c := .linkLoss)
  ha.stopArm

theorem State.InProcessing.watchTimerExpires : (watchTimerExpires s).InProcessing := by
  unfold Machine.watchTimerExpires
  split
  · exact h
  · rename_i t _
    have hw : (((s.reach t).setLink { s.link with watchTimer := none }).raise .linkLoss .none 0).InProcessing := h
    dsimp only
    split
    · unfold loseController
      dsimp only
      split
      · exact hw.enterHalted.originateAndStart
      · exact State.InProcessing.originateAndStart (s := State.setLink _ _) hw
    · unfold loseWithoutTemplate
      split <;> exact h

theorem State.InProcessing.timerExpires {t : Timer} : (timerExpires s t).InProcessing := by
  have hr (t : Nat) : (s.reach t).InProcessing := h
  cases t with
  | watch => exact h.watchTimerExpires
  | origination =>
    simp only [Machine.timerExpires, originationTimerExpires]
    split
    · exact h
    · exact (hr _).originateAndStart
  | bridge =>
    simp only [Machine.timerExpires, bridgeTimerExpires]
    split
    · exact h
    · exact (hr _).enterHalted
  | reply =>
    simp only [Machine.timerExpires, replyTimerExpires]
    split
    · exact (hr _).of_sansReports (takeOutcome_sansReports _ _ _)
    · exact h
  | phase arm =>
    simp only [Machine.timerExpires, phaseTimerExpires]
    split
    · exact h
    · split
      · exact (hr _).of_sansReports (failChange_sansReports _ arm _)
      · exact h

theorem State.InProcessing.frameLeaves {p : Port} : (frameLeaves s p).InProcessing := by
  unfold Machine.frameLeaves
  split
  · exact h
  · dsimp only
    split
    · rw [messageSent_eq]; exact h.setTx
    · exact h.setTx

/-! ### Return frames -/

theorem State.InProcessing.backSlot {d : BackRun} {sl : Slot} : (backSlot s d sl).1.InProcessing :=
  h.of_link (backSlot_slotKeeps s d sl).link

theorem State.InProcessing.endStage {d : BackRun} {c : CycleNumber} {g : EndStage} : (endStage d c s g).InProcessing :=
  h.of_link (endStage_returnKeeps d c s g).link

end

/-- What comes between the pieces of a return frame and is no work of the D port's receive side. -/
theorem State.InProcessing.midEvent {m : Mid} (h : m.state.InProcessing) {e : MidEvent} (hport : e.port ≠ some .d) :
    (midEvent m e).state.InProcessing := by
  have hfinish : (m.finish .u).state.InProcessing := by
    cases ho : m.out with
    | none => simpa [Mid.finish, ho] using h
    | some g => simpa [Mid.finish, ho, finishOut] using h.outSlots.endOut
  cases e with
  | handOver tag code params => exact hfinish.takeRequest
  | serve => exact h.serveOldest
  | takes p f =>
    cases p with
    | d => exact absurd rfl hport
    | u =>
      simp only [Machine.midEvent, Mid.takes]
      split
      · exact hfinish.startOut
      · exact hfinish.takeFrame_u
  | handles p =>
    cases p with
    | d => exact absurd rfl hport
    | u =>
      cases ho : m.out with
      | none => simpa [Machine.midEvent, Mid.handle, ho] using h
      | some g => simpa [Machine.midEvent, Mid.handle, ho] using h.handleOut
  | bytes p frame =>
    cases p with
    | d => exact absurd rfl hport
    | u => exact hfinish.takeFrame_u
  | discards p =>
    cases p with
    | d => exact absurd rfl hport
    | u => exact hfinish.countBadFrame
  | expiry t => exact h.timerExpires
  | leaves p => exact h.frameLeaves

end Sys2Proof.Machine
end

section
/-! A return cycle frame: what is forwarded, what stays, and what comes between its pieces (ReturnFrameKeepsShape). -/

namespace Sys2Proof.Machine

/-! ### A return frame piece by piece -/

section
variable {m : Mid} {cycle : CycleNumber} {originated : Bool} {run : BackRun}

theorem Mid.handle_backSlot {sl : Slot} {rest : List Slot} {stages : List EndStage}
    (h : m.back = some ⟨cycle, originated, sl :: rest, stages, run⟩) : m.handle .d = { m with
      state := (backSlot m.state run sl).1
      back := some ⟨cycle, originated, rest, stages, (backSlot m.state run sl).2⟩ } := by
  simp [Mid.handle, h, handleReturn]

theorem Mid.handle_endStage {g : EndStage} {rest : List EndStage} (h : m.back = some ⟨cycle, originated, [], g :: rest, run⟩) :
    m.handle .d = { m with
      state := endStage run cycle m.state g
      back := some ⟨cycle, originated, [], rest, run⟩ } := by
  simp [Mid.handle, h, handleReturn]

/-- The last piece of a return frame is its end. -/
theorem Mid.handle_end (h : m.back = some ⟨cycle, originated, [], [], run⟩) :
    m.handle .d = { m with state := endBack m.state ⟨cycle, originated, [], [], run⟩, back := none } := by
  simp [Mid.handle, h, handleReturn]

end

/-- A return frame has some of its pieces, slots and stages, handled. -/
def BackAt (f : CycleFrame) (originated : Bool) (n : Nat) (m : Mid) : Prop :=
  ∃ run, m.back = some ⟨f.cycle, originated, f.slots.drop n, endStages.drop (n - f.slots.length), run⟩ ∧
    run.Follows (f.slots.take n) ∧ m.state.InProcessing

theorem BackAt.midEvent {f : CycleFrame} {originated : Bool} {n : Nat} {m : Mid} {e : MidEvent} (h : BackAt f originated n m)
    (hport : e.port ≠ some .d) : BackAt f originated n (midEvent m e) := by
  obtain ⟨run, hback, hfollows, hin⟩ := h
  exact ⟨run, (midEvent_back hport).trans hback, hfollows, hin.midEvent hport⟩

/-- The next piece is a slot, or, when the slots are done, a stage of the frame-end work. -/
theorem BackAt.handle {f : CycleFrame} {originated : Bool} {n : Nat} {m : Mid} (h : BackAt f originated n m) (hn : n < f.slots.length + 3) :
    BackAt f originated (n + 1) (m.handle .d) := by
  obtain ⟨run, hback, hfollows, hin⟩ := h
  by_cases hslot : n < f.slots.length
  · have hstages : n + 1 - f.slots.length = n - f.slots.length := by omega
    have htake : f.slots.take (n + 1) = f.slots.take n ++ [f.slots[n]] := by simp
    rw [List.drop_eq_getElem_cons hslot] at hback
    rw [Mid.handle_backSlot hback]
    exact ⟨(backSlot m.state run f.slots[n]).2, by rw [hstages], htake ▸ hfollows.backSlot m.state _, hin.backSlot⟩
  · have hlt : n - f.slots.length < endStages.length := by simp only [endStages, List.length_cons, List.length_nil]; omega
    have hle : f.slots.length ≤ n := Nat.le_of_not_lt hslot
    have hstages : n + 1 - f.slots.length = n - f.slots.length + 1 := by omega
    rw [List.take_of_length_le hle] at hfollows
    rw [List.drop_of_length_le hle, List.drop_eq_getElem_cons hlt] at hback
    rw [Mid.handle_endStage hback]
    refine ⟨run, by rw [hstages, List.drop_of_length_le (Nat.le_succ_of_le hle)], ?_, hin.endStage⟩
    rwa [List.take_of_length_le (Nat.le_succ_of_le hle)]

/-- A return frame whose slots and stages are done and whose end is to come, whatever has come between its pieces. -/
theorem returnFrame_before {s : State} {f : CycleFrame} (hf : cycleFits f = true) {during : List Interleaved}
    (hothers : othersOnly .d (f.slots.length + 3) during) : ∃ run, run.Follows f.slots ∧ (beforeEnd .d s f during).state.InProcessing ∧
    (beforeEnd .d s f during).back = some ⟨f.cycle, decide (f.cycle ∈ s.link.outstanding), [], [], run⟩ := by
  have hstart : BackAt f (decide (f.cycle ∈ s.link.outstanding)) 0 ((Mid.idle s).takes .d f) := by
    refine ⟨BackRun.start, by simp [Mid.takes, hf, startBack], BackRun.Follows.start, ?_⟩
    have : (startBack s f).1.InProcessing := rfl
    simpa [Mid.takes, hf] using this
  have hpieces := framePieces_counts (P := BackAt f (decide (f.cycle ∈ s.link.outstanding))) (p := .d) (during := during)
    (last := f.slots.length + 3) (fun n m e hmem hn hlt h => h.midEvent (hothers e hmem (by omega))) (fun n m hlt h => h.handle hlt)
    0 (f.slots.length + 3) (by omega) hstart
  obtain ⟨run, hback, hfollows, hin⟩ : BackAt f (decide (f.cycle ∈ s.link.outstanding)) (0 + (f.slots.length + 3))
      (beforeEnd .d s f during) :=
    eventsWhere_at_keeps (fun m e hmem hn h => h.midEvent (hothers e hmem hn.le)) hpieces
  rw [List.drop_of_length_le (by omega), List.drop_of_length_le (by simp [endStages])] at hback
  rw [List.take_of_length_le (by omega)] at hfollows
  exact ⟨run, hfollows, hin, hback⟩

/-- A return frame that is forwarded, with nothing between its pieces (R9, R13, R14). -/
theorem plainReturn_forwarded {s : State} {f : CycleFrame} (hh : s.service.heldReply = none) (h : f.cycle ∉ s.link.outstanding) :
    let t := endBack (plainBeforeEnd s f) (plainAtEnd s f)
    (s.Room .u → t.link = { (startBack s f).1.link with
      returnInProcessing := false
      txU := s.link.txU ++ [.back { cycle := f.cycle, slots := (writeReport (plainBeforeEnd s f) (plainSlots s f).2.done).2.1 }] }) ∧
    (¬ s.Room .u → t.link = { (startBack s f).1.link with returnInProcessing := false, badD := min 65535 (s.link.badD + 1) }) := by
  obtain ⟨-, -, hlink, hservice, -⟩ := plainBeforeEnd_keeps s f
  have hb : (plainAtEnd s f).originated = false := by simpa [plainAtEnd] using h
  obtain ⟨hroom, hfull⟩ := endBack_link_forwarded (plainBeforeEnd s f) hb
  refine ⟨fun hr => ?_, fun hr => ?_⟩
  · obtain ⟨rest, hrest, e⟩ := hroom ((plainBeforeEnd_room s f).2 hr)
    obtain rfl := hrest (by rw [hservice]; exact hh)
    rw [e, hlink]
    rfl
  · rw [hfull (mt (plainBeforeEnd_room s f).1 hr), hlink]
    rfl

/-- The return of an originated cycle, with nothing between its pieces (R24). -/
theorem plainReturn_originated {s : State} {f : CycleFrame} (hh : s.service.heldReply = none) (h : f.cycle ∈ s.link.outstanding) :
    (endBack (plainBeforeEnd s f) (plainAtEnd s f)).link = { (startBack s f).1.link with returnInProcessing := false } := by
  obtain ⟨-, -, hlink, hservice, -⟩ := plainBeforeEnd_keeps s f
  have hb : (plainAtEnd s f).originated = true := by simpa [plainAtEnd] using h
  obtain ⟨-, rest, hrest, e⟩ := endBack_originated (plainBeforeEnd s f) hb
  obtain rfl := hrest (by rw [hservice]; exact hh)
  rw [e, hlink, List.append_nil]

/-- The link watch, the D queue and the count of the U port are as they were. -/
structure LinkStays (l l' : Link) : Prop where
  txD : l'.txD = l.txD
  badU : l'.badU = l.badU
  watch : l'.watch = l.watch
  template : l'.template = l.template
  processing : l'.returnInProcessing = false

theorem plainReturn_linkStays (s : State) (f : CycleFrame) (hh : s.service.heldReply = none) :
    LinkStays s.link (endBack (plainBeforeEnd s f) (plainAtEnd s f)).link := by
  by_cases ho : f.cycle ∈ s.link.outstanding
  · rw [plainReturn_originated hh ho]
    exact ⟨rfl, rfl, rfl, rfl, rfl⟩
  · obtain ⟨hroom, hfull⟩ := plainReturn_forwarded hh ho
    by_cases hr : s.Room .u
    · rw [hroom hr]
      exact ⟨rfl, rfl, rfl, rfl, rfl⟩
    · rw [hfull hr]
      exact ⟨rfl, rfl, rfl, rfl, rfl⟩

/-- Settles O15: the plain frame by its slots, stages and end one after another, the interleaved one by the invariant `BackAt` and its
end. -/
theorem returnFrameKeepsShape : Obligations.ReturnFrameKeepsShape := by
  intro s f hpin hf
  refine ⟨fun during => ⟨_, exec_return hpin f during⟩, fun hh hd => ?_, fun during hothers => ?_⟩
  · obtain ⟨hsetup, haxes, hmap, hzones, hservice, hnow, hcycle⟩ := plainReturn_fields s f hd hh
    obtain ⟨htxD, hbadU, hwatch, htemplate, hprocessing⟩ := plainReturn_linkStays s f hh
    refine ⟨_, (writeReport (plainBeforeEnd s f) (plainSlots s f).2.done).2.1, exec_return_plain hpin hf,
      (plainSlots_follows s f).forwarded _, fun ho hr => ?_, fun ho hr => ?_, htxD, hbadU, hwatch, htemplate, hsetup, haxes, hmap, hzones,
      hservice, hnow, hprocessing, hcycle⟩
    · rw [(plainReturn_forwarded hh ho).1 hr]
      exact ⟨rfl, rfl⟩
    · rw [(plainReturn_forwarded hh ho).2 hr]
      exact ⟨rfl, rfl⟩
  · obtain ⟨run, hfollows, hin, hback⟩ := returnFrame_before (s := s) hf hothers
    have hend := Mid.handle_end hback
    intro m u
    have hlink := endBack_txD m.state ⟨f.cycle, decide (f.cycle ∈ s.link.outstanding), [], [], run⟩
    have hservice := endBack_service m.state ⟨f.cycle, decide (f.cycle ∈ s.link.outstanding), [], [], run⟩
    have hforward := endBack_link_forwarded m.state (b := ⟨f.cycle, decide (f.cycle ∈ s.link.outstanding), [], [], run⟩)
    have hu : u = endBack m.state ⟨f.cycle, decide (f.cycle ∈ s.link.outstanding), [], [], run⟩ := congrArg Mid.state hend
    rw [← hu] at hlink hservice hforward
    obtain ⟨htxD, hprocessing⟩ := hlink
    refine ⟨(exec_return hpin f during).trans (congrArg _ (cycleFrameWith_eq_afterEnd .d s f during)),
      ⟨run, hback, onlyRewrites_of_rewritten hfollows⟩, congrArg Mid.back hend, (congrArg Mid.out hend).trans rfl, hin, hprocessing,
      congrArg Service.deferred hservice, congrArg Service.heldReply hservice, htxD, fun ho => ?_⟩
    obtain ⟨hroom, hfull⟩ := hforward (decide_eq_false ho)
    refine ⟨fun hr => ?_, fun hr => ?_⟩
    · obtain ⟨rest, hrest, e⟩ := hroom hr
      exact ⟨_, rest, hfollows.forwarded m.state, congrArg Link.txU e, hrest, (congrArg Link.badD e).trans rfl⟩
    · exact ⟨(congrArg Link.txU (hfull hr)).trans rfl, congrArg Link.badD (hfull hr)⟩

end Sys2Proof.Machine
end

section
/-! The return of an originated cycle: processed in full, not forwarded, and no record leaves the capture queue
(OriginatedReturnNotForwarded). -/

namespace Sys2Proof.Machine

/-! ### The record of an arm whose POSITION slot the frame lacks -/

theorem stopArm_head (s : State) (arm : Arm) (c : StopCause) : (stopArm s arm c).head = s.head :=
  (sameButHalt_of_sansHalt (stopArm_sansHalt s arm c)).head

theorem head_of_sansReports {s t : State} (h : t.sansReports = s.sansReports) : t.head = s.head :=
  have f {α : Type} (g : State → α) : g t.sansReports = g s.sansReports := congrArg g h
  f State.head

theorem foldl_head {α : Type} {f : State → α → State} (hf : ∀ s x, (f s x).head = s.head) (l : List α) (s : State) :
    (l.foldl f s).head = s.head := by
  induction l generalizing s with
  | nil => rfl
  | cons x l ih => exact (ih _).trans (hf s x)

theorem takeReading_head (s : State) (channel : Nat) (t : Int) : (takeReading s channel t).head = s.head := by
  unfold takeReading
  split
  · rfl
  · dsimp only
    split <;> split <;> rfl

theorem thermalSlot_head (s : State) (hub : Nat) (payload : List Byte) : (thermalSlot s hub payload).head = s.head :=
  foldl_head (fun s p => by
    split
    · exact takeReading_head s _ _
    · rfl) _ s

theorem probeSlot_head (s : State) (arm : Arm) (r : ProbeReport) : (probeSlot s arm r).head = s.head := by
  have hl := head_of_sansReports (libraryReport_sansReports { s with latestReport := s.latestReport.put arm (some r) } arm r)
  unfold probeSlot overtravelReport
  dsimp only
  split
  · rw [stopArm_head]; exact hl
  · exact hl

theorem ageChannels_head (s : State) (read : List Nat) : (ageChannels s read).head = s.head :=
  foldl_head (f := fun s (p : Nat × Channel) => s.raise .channelStale (.channel p.1) 0) (fun _ _ => rfl) _
    { s with channels := s.channels.map (agedChannel read) }

theorem countFail_head (s : State) (arm : Arm) :
    (countFail s arm).head = s.head.put arm (failCycle (s.setup.scaleFailLimit.get arm) (s.head.get arm)).1 := by
  unfold countFail
  dsimp only
  split
  · rw [stopArm_head]; rfl
  · rfl

theorem countFail_head_other (s : State) {arm other : Arm} (h : other ≠ arm) : (countFail s arm).head.get other = s.head.get other := by
  rw [countFail_head, PerArm.get_put_ne _ _ h]

theorem positionSlot_head_other (s : State) {arm other : Arm} (payload : List Byte) (h : other ≠ arm) :
    (positionSlot s arm payload).head.get other = s.head.get other := by
  have hu : (updateRecord s arm payload).head.get other = s.head.get other := PerArm.get_put_ne _ _ h
  unfold positionSlot
  dsimp only
  split
  · rw [head_of_sansReports (sansReports_of_sansMoves (leavingTest_sansMoves _ arm))]
    exact (PerArm.get_put_ne _ _ h).trans hu
  · rw [countFail_head_other _ h, hu]

/-- What a slot leaves for an arm whose POSITION slot it is not. -/
def PositionLess (arm : Arm) (s t : State) (d d' : BackRun) : Prop :=
  t.head.get arm = s.head.get arm ∧ d'.positions.get arm = d.positions.get arm

theorem handleBack_positionLess {arm : Arm} (s : State) (d : BackRun) {r : BackRoute} (sl : Slot) (hr : r ≠ .position arm) :
    PositionLess arm s (handleBack s d r sl).1 d (handleBack s d r sl).2 := by
  unfold handleBack
  split
  · split
    · exact ⟨by rw [thermalSlot_head], rfl⟩
    · exact ⟨rfl, rfl⟩
  · rename_i other
    have hne : arm ≠ other := fun e => hr (congrArg _ e.symm)
    split
    · exact ⟨positionSlot_head_other s _ hne, PerArm.get_put_ne _ _ hne⟩
    · exact ⟨rfl, rfl⟩
  · split
    · exact ⟨by rw [probeSlot_head], rfl⟩
    · exact ⟨rfl, rfl⟩
  · split
    · exact ⟨by rw [head_of_sansReports (takeReply_sansReports s _)], rfl⟩
    · exact ⟨rfl, rfl⟩

theorem backSlot_positionLess {arm : Arm} (s : State) (d : BackRun) {sl : Slot}
    (h : sl.kind = 0x11 → sl.address.toNat ≠ s.setup.armNode.get arm) :
    PositionLess arm s (backSlot s d sl).1 d (backSlot s d sl).2 := by
  unfold backSlot
  split
  · exact ⟨rfl, rfl⟩
  · rename_i r hr
    dsimp only
    split
    · exact ⟨rfl, rfl⟩
    · refine handleBack_positionLess s { d with matched := slotRow sl :: d.matched } sl fun e => ?_
      obtain ⟨hk, ha⟩ := backRoute_position.1 (e ▸ hr)
      exact h hk (armAt_address ha)

theorem backSlots_positionLess {arm : Arm} (s : State) (d : BackRun) {slots : List Slot}
    (h : ∀ sl ∈ slots, sl.kind = 0x11 → sl.address.toNat ≠ s.setup.armNode.get arm) :
    PositionLess arm s (backSlots s d slots).1 d (backSlots s d slots).2 := by
  induction slots generalizing s d with
  | nil => exact ⟨rfl, rfl⟩
  | cons sl rest ih =>
    obtain ⟨hhead, hpositions⟩ := backSlot_positionLess s d (h sl (by simp))
    have hset := (backSlot_slotKeeps s d sl).setup
    obtain ⟨hhead', hpositions'⟩ := ih (backSlot s d sl).1 (backSlot s d sl).2 fun x hx => by
      rw [hset]
      exact h x (List.mem_cons_of_mem sl hx)
    exact ⟨hhead'.trans hhead, hpositions'.trans hpositions⟩

/-- A FAIL cycle without a POSITION slot: the run gains one, and each axis of the record is STALE (R77, R78). -/
def MissedOnce (v w : Head) : Prop :=
  w.failRun = min 255 (v.failRun + 1) ∧ w.record = v.record.map (fun h => { h with flags := { h.flags with stale := true } })

theorem missingPosition_head (s : State) (arm : Arm) : MissedOnce (s.head.get arm) ((missingPosition s arm false).head.get arm) := by
  have hf (limit : Nat) (v : Head) :
      (failCycle limit v).1.failRun = min 255 (v.failRun + 1) ∧ (failCycle limit v).1.record = v.record := by
    unfold failCycle
    dsimp only
    split <;> exact ⟨rfl, rfl⟩
  unfold missingPosition
  rw [if_neg Bool.false_ne_true, countFail_head, PerArm.get_put_same, State.setHead, PerArm.get_put_same]
  exact hf _ { s.head.get arm with record := missingRecord (s.head.get arm).record }

theorem missingPosition_head_other (s : State) {arm other : Arm} (present : Bool) (h : other ≠ arm) :
    (missingPosition s arm present).head.get other = s.head.get other := by
  unfold missingPosition
  split
  · rfl
  · rw [countFail_head_other _ h]
    exact PerArm.get_put_ne _ _ h

theorem ageingStage_head (s : State) (d : BackRun) (cycle : CycleNumber) {arm : Arm} (h : d.positions.get arm = false) :
    MissedOnce (s.head.get arm) ((endStage d cycle s .ageing).head.get arm) := by
  have ha := ageChannels_head s d.readings
  unfold endStage
  dsimp only
  cases arm with
  | a =>
    have hp : d.positions.a = false := h
    rw [missingPosition_head_other _ _ (by decide), hp, ← ha]
    exact missingPosition_head _ .a
  | b =>
    have hp : d.positions.b = false := h
    rw [hp, ← ha, ← missingPosition_head_other (ageChannels s d.readings) (arm := .a) (other := .b) d.positions.a (by decide)]
    exact missingPosition_head _ .b

/-! ### The stages of the frame-end work -/

/-- The state after the ageing stage. -/
def plainAged (s : State) (f : CycleFrame) : State := endStage (plainSlots s f).2 f.cycle (plainSlots s f).1 .ageing

/-- The capture stages add records to the queue at its back (R175, R176). -/
theorem plainBeforeEnd_capture (s : State) (f : CycleFrame) : CaptureKeeps (plainAged s f) (plainBeforeEnd s f) :=
  (CaptureKeeps.refl (plainAged s f)).evaluateArm.evaluateArm

theorem plainAged_queue (s : State) (f : CycleFrame) : (plainAged s f).queue = s.queue := by
  have hslots : SlotKeeps (startBack s f).1 (plainSlots s f).1 := backSlots_slotKeeps _ _ _
  have hage : SlotKeeps (plainSlots s f).1 (plainAged s f) :=
    ((ageChannels_slotKeeps _ _).trans (missingPosition_slotKeeps _ .a _)).trans (missingPosition_slotKeeps _ .b _)
  exact (hslots.trans hage).queue

theorem plainBeforeEnd_grown (s : State) (f : CycleFrame) : s.queue.Grown (plainBeforeEnd s f).queue :=
  plainAged_queue s f ▸ (plainBeforeEnd_capture s f).queue

theorem plainBeforeEnd_missed {s : State} {f : CycleFrame} {arm : Arm}
    (h : ∀ sl ∈ f.slots, sl.kind = 0x11 → sl.address.toNat ≠ s.setup.armNode.get arm) :
    MissedOnce (s.head.get arm) ((plainBeforeEnd s f).head.get arm) := by
  obtain ⟨hhead, hpositions⟩ := backSlots_positionLess (arm := arm) (startBack s f).1 BackRun.start h
  have hfalse : (plainSlots s f).2.positions.get arm = false := hpositions.trans (by cases arm <;> rfl)
  have hstart : (plainSlots s f).1.head.get arm = s.head.get arm := hhead
  rw [(plainBeforeEnd_capture s f).head, ← hstart]
  exact ageingStage_head _ _ _ hfalse

/-! ### Its end -/

theorem endBack_head {s : State} (hd : s.service.deferred = []) (b : BackFrame) : (endBack s b).head = s.head := by
  obtain ⟨q, l, v, n, -, -, e⟩ := endBack_form hd b
  rw [e]
  rfl

/-- The capture queue as the return of an originated cycle leaves it: records come to it, none leaves, and the frame is judged as one
without a delivery (R181, R183). -/
theorem plainReturn_queue {s : State} {f : CycleFrame} (h : f.cycle ∈ s.link.outstanding) :
    let q := (endBack (plainBeforeEnd s f) (plainAtEnd s f)).queue
    q.credits = s.queue.credits ∧ q.missingMark = s.queue.missingMark ∧
    ((∃ new, q.records = s.queue.records ++ new) ∨
      (64 ≤ s.queue.records.length ∧ ∃ front back, s.queue.records = front ++ [back] ∧ q.records = front ++ [markOverrun back])) ∧
    (q.records ≠ [] → q.stallCount = min 255 (s.queue.stallCount + 1) ∧
      q.stallMark = (s.queue.stallMark || decide (s.setup.stallCycles ≤ min 255 (s.queue.stallCount + 1)))) ∧
    (q.records = [] → q.stallCount = 0 ∧ q.stallMark = s.queue.stallMark) := by
  have hb : (plainAtEnd s f).originated = true := by simpa [plainAtEnd] using h
  obtain ⟨hq, -⟩ := endBack_originated (plainBeforeEnd s f) hb
  have hset : (plainBeforeEnd s f).setup = s.setup := (plainBeforeEnd_keeps s f).setup
  obtain ⟨hcredits, hmissing, hcount, hmark, hrecords⟩ := plainBeforeEnd_grown s f
  intro q
  by_cases he : (plainBeforeEnd s f).queue.records = []
  · have hj : q = _ := hq.trans (judgeStall_empty he)
    rw [hj]
    exact ⟨hcredits, hmissing, hrecords, fun hn => absurd he hn, fun _ => ⟨rfl, hmark⟩⟩
  · have hj : q = _ := hq.trans (judgeStall_waiting he)
    rw [hj, ← hcount, ← hmark, ← hset]
    exact ⟨hcredits, hmissing, hrecords, fun _ => ⟨rfl, rfl⟩, fun h0 => absurd h0 he⟩

/-- Settles O16: the plain frame by what slots, stages and end do to the queue, to the U port and to an arm without a POSITION slot; the
interleaved one by `BackAt` and the frame's end. -/
theorem originatedReturnNotForwarded : Obligations.OriginatedReturnNotForwarded := by
  intro s f hpin hf ho
  refine ⟨fun hh hd => ?_, fun during hothers => ?_⟩
  · obtain ⟨-, -, -, -, -, -, hcycle⟩ := plainReturn_fields s f hd hh
    have hlink := plainReturn_originated hh ho
    have hd' : (plainBeforeEnd s f).service.deferred = [] := (plainBeforeEnd_keeps s f).service ▸ hd
    obtain ⟨hcredits, hmissing, hrecords, hwaiting, hempty⟩ := plainReturn_queue ho
    refine ⟨_, exec_return_plain hpin hf, (congrArg Link.txU hlink).trans rfl, (congrArg Link.badD hlink).trans rfl, ?_, hcycle,
      hcredits, hmissing, hrecords, hwaiting, hempty, fun arm _ hlacks => ?_⟩
    · have hlist : f.cycle ∉ s.link.outstanding.filter (fun c => c != f.cycle) := by simp
      rw [hlink]
      exact hlist
    · rw [endBack_head hd']
      exact plainBeforeEnd_missed hlacks
  · obtain ⟨run, -, -, hback⟩ := returnFrame_before (s := s) hf hothers
    obtain ⟨hq, rest, hrest, hlink⟩ := endBack_originated (beforeEnd .d s f during).state
      (b := ⟨f.cycle, decide (f.cycle ∈ s.link.outstanding), [], [], run⟩) (decide_eq_true ho)
    intro m u
    have hu : u = endBack m.state ⟨f.cycle, decide (f.cycle ∈ s.link.outstanding), [], [], run⟩ := congrArg Mid.state (Mid.handle_end hback)
    rw [← hu] at hq hlink
    exact ⟨(exec_return hpin f during).trans (congrArg _ (cycleFrameWith_eq_afterEnd .d s f during)),
      ⟨rest, congrArg Link.txU hlink, hrest⟩, (congrArg Link.badD hlink).trans rfl, fun hn => hq.trans (judgeStall_waiting hn),
      fun h0 => hq.trans (judgeStall_empty h0)⟩

end Sys2Proof.Machine
end

section
/-! ZONE, LIBRARY and PLAN entries are read back (R88, R107, R161), by the way of the other tables: what reading asks, the entry cut into
segments, and each field from its segment. -/

namespace Sys2Proof.Machine

/-! ### Coded bytes -/

theorem zoneKindOf_code (k : ZoneKind) : zoneKindOf (byteOf (zoneKindCode k)).toNat = some k := by cases k <;> rfl

theorem scopeOf_code (c : Scope) : scopeOf (byteOf (scopeCode c)).toNat = some c := by cases c <;> rfl

theorem calibrationOf_code (c : Calibration) : calibrationOf (byteOf (calibrationCode c)).toNat = some c := by cases c <;> rfl

/-- A location that was written is one of those that are written. -/
theorem writtenLocation_code {v : Nat} {l : Location} (h : writtenLocation v = some l) :
    writtenLocation (byteOf (locationCode l)).toNat = some l := by
  unfold writtenLocation at h
  split at h <;> cases h <;> rfl

theorem armOf_code (arm : Arm) : armOf (byteOf (armCode arm)).toNat = some arm := by cases arm <;> rfl

theorem ownerOf_byte (o : Owner) : ownerOf (ownerByte o).toNat = some o := by cases o <;> rfl

/-- The next index of an entry, carried in two bytes. -/
theorem nextOf_code {b : List Byte} {next : Option Nat} (h : nextOf (uField b 30 2) = some next) :
    next.getD 0xFFFF = uField b 30 2 := by
  unfold nextOf at h
  split_ifs at h with h1 h2
  · cases h; rfl
  · cases h; exact h2.symm

/-! ### ZONE -/

/-- The ZONE entry that bytes spell, but for its coded fields. -/
def zoneFrom (b : List Byte) (kind : ZoneKind) (scope : Scope) (enabled : Bool) : ZoneEntry :=
  { kind := kind, station := uField b 2 1, scope := scope, enabled := enabled, minimum := ⟨sField b 5 4, sField b 9 4, sField b 13 4⟩,
    maximum := ⟨sField b 17 4, sField b 21 4, sField b 25 4⟩ }

/-- All that reading a ZONE entry in use asks. -/
theorem readZone_some_iff {b : List Byte} {e : ZoneEntry} :
    readZone b = .ok (some e) ↔
      uField b 0 1 = 1 ∧ zoneKindOf (uField b 1 1) = some e.kind ∧ scopeOf (uField b 3 1) = some e.scope ∧
        flagOf (uField b 4 1) = some e.enabled ∧ zoneFrom b e.kind e.scope e.enabled = e ∧ zoneFieldsOk e = true ∧
        zoneJoined e = true := by
  constructor
  · intro h
    unfold readZone at h
    split at h
    · cases h
    · split at h
      · dsimp only at h
        split_ifs at h with hf hj
        obtain rfl := Option.some.inj (Except.ok.inj h)
        exact ⟨by assumption, by assumption, by assumption, by assumption, rfl, by simpa using hf, by simpa using hj⟩
      · cases h
    · cases h
  · rintro ⟨h1, hk, hs, he, hfrom, hf, hj⟩
    unfold readZone
    simp only [h1, hk, hs, he]
    change (if !zoneFieldsOk (zoneFrom b e.kind e.scope e.enabled) then Except.error Reason.field
      else if !zoneJoined (zoneFrom b e.kind e.scope e.enabled) then .error .entry
      else .ok (some (zoneFrom b e.kind e.scope e.enabled))) = .ok (some e)
    simp [hfrom, hf, hj]

/-- A ZONE entry in use field by field. -/
def zoneSegments (e : ZoneEntry) : List (List Byte) :=
  [[1], [byteOf (zoneKindCode e.kind)], [byteOf e.station], [byteOf (scopeCode e.scope)], [markByte e.enabled],
    leIntBytes 4 e.minimum.x, leIntBytes 4 e.minimum.y, leIntBytes 4 e.minimum.z, leIntBytes 4 e.maximum.x, leIntBytes 4 e.maximum.y,
    leIntBytes 4 e.maximum.z]

theorem zoneBytes_eq (e : ZoneEntry) : ∃ pad, zoneBytes (some e) = (zoneSegments e).flatten ++ pad := by
  refine ⟨_, congrArg₂ (· ++ ·) ?_ rfl⟩
  simp [zoneSegments]

theorem zoneSegments_widths (e : ZoneEntry) : (zoneSegments e).map List.length = [1, 1, 1, 1, 1, 4, 4, 4, 4, 4, 4] := by
  simp [zoneSegments]

theorem zoneFrom_zoneBytes (b : List Byte) (kind : ZoneKind) (scope : Scope) (enabled : Bool) :
    zoneFrom (zoneBytes (some (zoneFrom b kind scope enabled))) kind scope enabled = zoneFrom b kind scope enabled := by
  obtain ⟨pad, hb⟩ := zoneBytes_eq (zoneFrom b kind scope enabled)
  have hs := zoneSegments_widths (zoneFrom b kind scope enabled)
  have u := uField_segments (pad := pad) (b := b) hs
  have i := sField_segments (pad := pad) (b := b) hs
  rw [← hb] at u i
  generalize zoneBytes (some (zoneFrom b kind scope enabled)) = carried at u i
  simp only [zoneFrom]
  rw [u 2 2 1 rfl rfl, i 5 5 4 rfl rfl, i 6 9 4 rfl rfl, i 7 13 4 rfl rfl, i 8 17 4 rfl rfl, i 9 21 4 rfl rfl, i 10 25 4 rfl rfl]

theorem readZone_zoneBytes {b : List Byte} {e : Option ZoneEntry} (h : readZone b = .ok e) : readZone (zoneBytes e) = .ok e := by
  cases e with
  | none => rfl
  | some e =>
    obtain ⟨_, _, _, _, he, hf, hj⟩ := readZone_some_iff.1 h
    have hfrom := zoneFrom_zoneBytes b e.kind e.scope e.enabled
    rw [he] at hfrom
    refine readZone_some_iff.2 ⟨?_, ?_, ?_, ?_, hfrom, hf, hj⟩ <;>
      obtain ⟨pad, hb⟩ := zoneBytes_eq e <;> rw [hb] <;> have hs := zoneSegments_widths e
    · exact uField_byte hs 0 0 rfl rfl
    · rw [uField_byte hs 1 1 rfl rfl, zoneKindOf_code]
    · rw [uField_byte hs 3 3 rfl rfl, scopeOf_code]
    · rw [uField_byte hs 4 4 rfl rfl, flagOf_markByte]

/-! ### LIBRARY -/

/-- The LIBRARY entry that bytes spell, but for its coded fields. -/
def libraryFrom (b : List Byte) (home : Option Nat) (allowed : Scope) (calibration : Calibration) (location : Location) : LibraryEntry :=
  { identity := uField b 1 3, home := home, allowed := allowed, offset := ⟨sField b 7 4, sField b 11 4, sField b 15 4⟩,
    radius := uField b 19 3, coefficient := sField b 22 2, calTemp := sField b 24 3, calibration := calibration,
    envelope := uField b 28 2, location := location }

/-- All that reading a LIBRARY entry in use asks. -/
theorem readLibrary_some_iff {b : List Byte} {e : LibraryEntry} :
    readLibrary b = .ok (some e) ↔
      uField b 0 1 = 1 ∧ readHome b = some e.home ∧ scopeOf (uField b 6 1) = some e.allowed ∧
        calibrationOf (uField b 27 1) = some e.calibration ∧ writtenLocation (uField b 30 1) = some e.location ∧
        libraryFrom b e.home e.allowed e.calibration e.location = e ∧ libraryFieldsOk e = true ∧
        ¬ (e.location = .inRack ∧ e.home = none) := by
  constructor
  · intro h
    unfold readLibrary at h
    split at h
    · cases h
    · split at h
      · dsimp only at h
        split_ifs at h with hf hj
        obtain rfl := Option.some.inj (Except.ok.inj h)
        exact ⟨by assumption, by assumption, by assumption, by assumption, by assumption, rfl, by simpa using hf, hj⟩
      · cases h
    · cases h
  · rintro ⟨h1, hh, ha, hc, hl, hfrom, hf, hj⟩
    unfold readLibrary
    simp only [h1, hh, ha, hc, hl]
    change (if !libraryFieldsOk (libraryFrom b e.home e.allowed e.calibration e.location) then Except.error Reason.field
      else if (libraryFrom b e.home e.allowed e.calibration e.location).location = .inRack ∧
        (libraryFrom b e.home e.allowed e.calibration e.location).home = none then .error .entry
      else .ok (some (libraryFrom b e.home e.allowed e.calibration e.location))) = .ok (some e)
    simp only [hfrom, hf, Bool.not_true, Bool.false_eq_true, if_false, if_neg hj]

/-- A LIBRARY entry in use field by field. -/
def librarySegments (fill : Nat → Byte) (e : LibraryEntry) : List (List Byte) :=
  [[1], leBytes 3 e.identity, [markByte e.home.isSome], [(e.home.map byteOf).getD (fill 5)], [byteOf (scopeCode e.allowed)],
    leIntBytes 4 e.offset.x, leIntBytes 4 e.offset.y, leIntBytes 4 e.offset.z, leBytes 3 e.radius, leIntBytes 2 e.coefficient,
    leIntBytes 3 e.calTemp, [byteOf (calibrationCode e.calibration)], leBytes 2 e.envelope, [byteOf (locationCode e.location)]]

theorem libraryBytes_eq (fill : Nat → Byte) (e : LibraryEntry) :
    ∃ pad, libraryBytes fill (some e) = (librarySegments fill e).flatten ++ pad := by
  refine ⟨_, congrArg₂ (· ++ ·) ?_ rfl⟩
  have h := hubBytes_eq fill 4 e.home
  unfold hubBytes at h
  simp [librarySegments, h]

theorem librarySegments_widths (fill : Nat → Byte) (e : LibraryEntry) :
    (librarySegments fill e).map List.length = [1, 3, 1, 1, 1, 4, 4, 4, 3, 2, 3, 1, 2, 1] := by
  simp [librarySegments]

theorem readHome_eq {b : List Byte} {home : Option Nat} (h : readHome b = some home) :
    home = none ∨ (home = some (uField b 5 1) ∧ inNat 1 24 (uField b 5 1) = true) := by
  unfold readHome at h
  split at h
  · exact .inl (Option.some.inj h).symm
  · split_ifs at h with hr
    exact .inr ⟨(Option.some.inj h).symm, hr⟩
  · cases h

theorem readHome_libraryBytes {b : List Byte} {e : LibraryEntry} (fill : Nat → Byte) (h : readHome b = some e.home) :
    readHome (libraryBytes fill (some e)) = some e.home := by
  obtain ⟨pad, hb⟩ := libraryBytes_eq fill e
  have hs := librarySegments_widths fill e
  rw [hb, readHome, uField_byte hs 2 4 rfl rfl, uField_byte hs 3 5 rfl rfl]
  rcases readHome_eq h with hn | ⟨hn, hr⟩
  · simp [hn, markByte]
  · have ht : (byteOf (uField b 5 1)).toNat = uField b 5 1 := byteOf_toNat (uField_lt b 5 1)
    simp only [hn, Option.map_some, Option.getD_some, ht, hr, if_true]
    rfl

theorem libraryFrom_libraryBytes (fill : Nat → Byte) (b : List Byte) (home : Option Nat) (allowed : Scope) (calibration : Calibration)
    (location : Location) :
    libraryFrom (libraryBytes fill (some (libraryFrom b home allowed calibration location))) home allowed calibration location =
      libraryFrom b home allowed calibration location := by
  obtain ⟨pad, hb⟩ := libraryBytes_eq fill (libraryFrom b home allowed calibration location)
  have hs := librarySegments_widths fill (libraryFrom b home allowed calibration location)
  have u := uField_segments (pad := pad) (b := b) hs
  have i := sField_segments (pad := pad) (b := b) hs
  rw [← hb] at u i
  generalize libraryBytes fill (some (libraryFrom b home allowed calibration location)) = carried at u i
  simp only [libraryFrom]
  rw [u 1 1 3 rfl rfl, i 5 7 4 rfl rfl, i 6 11 4 rfl rfl, i 7 15 4 rfl rfl, u 8 19 3 rfl rfl, i 9 22 2 rfl rfl, i 10 24 3 rfl rfl,
    u 12 28 2 rfl rfl]

theorem readLibrary_libraryBytes {b : List Byte} {e : Option LibraryEntry} (fill : Nat → Byte) (h : readLibrary b = .ok e) :
    readLibrary (libraryBytes fill e) = .ok e := by
  cases e with
  | none => rfl
  | some e =>
    obtain ⟨_, hh, _, _, hl, he, hf, hj⟩ := readLibrary_some_iff.1 h
    have hfrom := libraryFrom_libraryBytes fill b e.home e.allowed e.calibration e.location
    rw [he] at hfrom
    refine readLibrary_some_iff.2 ⟨?_, readHome_libraryBytes fill hh, ?_, ?_, ?_, hfrom, hf, hj⟩ <;>
      obtain ⟨pad, hb⟩ := libraryBytes_eq fill e <;> rw [hb] <;> have hs := librarySegments_widths fill e
    · exact uField_byte hs 0 0 rfl rfl
    · rw [uField_byte hs 4 6 rfl rfl, scopeOf_code]
    · rw [uField_byte hs 11 27 rfl rfl, calibrationOf_code]
    · rw [uField_byte hs 13 30 rfl rfl, writtenLocation_code hl]

/-! ### PLAN -/

/-- The PLAN entry that bytes spell, but for its coded fields: its results are cleared. -/
def planFrom (b : List Byte) (arm : Arm) (owner : Owner) (next : Option Nat) : PlanEntry :=
  { arm := arm, owner := owner, nominal := ⟨sField b 3 5, sField b 8 5, sField b 13 5⟩,
    approach := ⟨sField b 18 2, sField b 20 2, sField b 22 2⟩, search := uField b 24 3, tolerance := uField b 27 3, next := next,
    verdict := none, sequence := none, deviation := 0 }

/-- All that reading a PLAN entry in use asks. -/
theorem readPlan_some_iff {b : List Byte} {e : PlanEntry} :
    readPlan b = .ok (some e) ↔
      uField b 0 1 = 1 ∧ armOf (uField b 1 1) = some e.arm ∧ ownerOf (uField b 2 1) = some e.owner ∧
        nextOf (uField b 30 2) = some e.next ∧ planFrom b e.arm e.owner e.next = e ∧ planFieldsOk e = true ∧ planJoined e = true := by
  constructor
  · intro h
    unfold readPlan at h
    split at h
    · cases h
    · split at h
      · dsimp only at h
        split_ifs at h with hf hj
        obtain rfl := Option.some.inj (Except.ok.inj h)
        exact ⟨by assumption, by assumption, by assumption, by assumption, rfl, by simpa using hf, by simpa using hj⟩
      · cases h
    · cases h
  · rintro ⟨h1, ha, ho, hn, hfrom, hf, hj⟩
    unfold readPlan
    simp only [h1, ha, ho, hn]
    change (if !planFieldsOk (planFrom b e.arm e.owner e.next) then Except.error Reason.field
      else if !planJoined (planFrom b e.arm e.owner e.next) then .error .entry
      else .ok (some (planFrom b e.arm e.owner e.next))) = .ok (some e)
    simp [hfrom, hf, hj]

/-- The two value bytes of a sequence field. -/
def sequenceBytes (fill : Nat → Byte) : Option SequenceNumber → List Byte
  | none => freeBytes fill 34 2
  | some n => leBytes 2 n.toNat

/-- A PLAN entry in use field by field. -/
def planSegments (fill : Nat → Byte) (e : PlanEntry) : List (List Byte) :=
  [[1], [byteOf (armCode e.arm)], [ownerByte e.owner], leIntBytes 5 e.nominal.x, leIntBytes 5 e.nominal.y, leIntBytes 5 e.nominal.z,
    leIntBytes 2 e.approach.x, leIntBytes 2 e.approach.y, leIntBytes 2 e.approach.z, leBytes 3 e.search, leBytes 3 e.tolerance,
    leBytes 2 (e.next.getD 0xFFFF), [verdictByte e.verdict], [markByte e.sequence.isSome], sequenceBytes fill e.sequence,
    leIntBytes 5 e.deviation]

theorem planBytes_eq (fill : Nat → Byte) (e : PlanEntry) : ∃ pad, planBytes fill (some e) = (planSegments fill e).flatten ++ pad := by
  refine ⟨_, congrArg₂ (· ++ ·) ?_ rfl⟩
  have hs : optionalBytes fill 33 2 (e.sequence.map fun n => leBytes 2 n.toNat) =
      markByte e.sequence.isSome :: sequenceBytes fill e.sequence := by
    cases e.sequence <;> rfl
  simp [planSegments, tripleBytes, hs]

theorem planSegments_widths (fill : Nat → Byte) (e : PlanEntry) :
    (planSegments fill e).map List.length = [1, 1, 1, 5, 5, 5, 2, 2, 2, 3, 3, 2, 1, 1, 2, 5] := by
  have hs : (sequenceBytes fill e.sequence).length = 2 := by cases e.sequence <;> rfl
  simp [planSegments, hs]

theorem planFrom_planBytes (fill : Nat → Byte) (b : List Byte) (arm : Arm) (owner : Owner) (next : Option Nat) :
    planFrom (planBytes fill (some (planFrom b arm owner next))) arm owner next = planFrom b arm owner next := by
  obtain ⟨pad, hb⟩ := planBytes_eq fill (planFrom b arm owner next)
  have hs := planSegments_widths fill (planFrom b arm owner next)
  have u := uField_segments (pad := pad) (b := b) hs
  have i := sField_segments (pad := pad) (b := b) hs
  rw [← hb] at u i
  generalize planBytes fill (some (planFrom b arm owner next)) = carried at u i
  simp only [planFrom]
  rw [i 3 3 5 rfl rfl, i 4 8 5 rfl rfl, i 5 13 5 rfl rfl, i 6 18 2 rfl rfl, i 7 20 2 rfl rfl, i 8 22 2 rfl rfl, u 9 24 3 rfl rfl,
    u 10 27 3 rfl rfl]

theorem readPlan_planBytes {b : List Byte} {e : Option PlanEntry} (fill : Nat → Byte) (h : readPlan b = .ok e) :
    readPlan (planBytes fill e) = .ok e := by
  cases e with
  | none => rfl
  | some e =>
    obtain ⟨_, _, _, hn, he, hf, hj⟩ := readPlan_some_iff.1 h
    have hfrom := planFrom_planBytes fill b e.arm e.owner e.next
    rw [he] at hfrom
    refine readPlan_some_iff.2 ⟨?_, ?_, ?_, ?_, hfrom, hf, hj⟩ <;>
      obtain ⟨pad, hb⟩ := planBytes_eq fill e <;> rw [hb] <;> have hs := planSegments_widths fill e
    · exact uField_byte hs 0 0 rfl rfl
    · rw [uField_byte hs 1 1 rfl rfl, armOf_code]
    · rw [uField_byte hs 2 2 rfl rfl, ownerOf_byte]
    · have hseg : (planSegments fill e)[11]? = some (leBytes 2 (uField b 30 2)) := by rw [← nextOf_code hn]; rfl
      rw [uField_segments hs 11 30 2 rfl hseg, hn]

/-- Settles O9: each of the three tables by its own round trip. -/
theorem zoneLibraryPlanRoundTrip : Obligations.ZoneLibraryPlanRoundTrip := fun fill _ =>
  ⟨fun _ => readZone_zoneBytes, fun _ => readLibrary_libraryBytes fill, fun _ => readPlan_planBytes fill⟩

end Sys2Proof.Machine
end

section
/-! One induction for what every step keeps: a property that reads no more than the tables, the write window, the buffer, the library, the
probe records, the sequencers and whether a return frame is in processing. It is kept by the step when it is kept by the few operations on
those (`Kept`); every other operation leaves them alone. -/

namespace Sys2Proof.Machine

/-! ### What the property may read -/

/-- The state with all erased but the loadable tables, the service block without its waiting requests, the probe records, the sequencers
and the mark of a return frame in processing. -/
def State.core (s : State) : State :=
  { State.reset with
    link := { Link.initial with returnInProcessing := s.link.returnInProcessing }
    service := { s.service with requests := [] }
    channels := s.channels, axes := s.axes, map := s.map, zones := s.zones, library := s.library, plan := s.plan
    active := s.active, sequencer := s.sequencer }

/-- The operations that a kept property has to be checked for. -/
structure Kept (P : State → Prop) : Prop where
  core : ∀ {s t : State}, P s → t.core = s.core → P t
  reset : P State.reset
  channel : ∀ {s : State} {i : Nat} {c : Channel} (d : Channel), Table.entry s.channels i = some c → P s →
    P { s with channels := Table.store s.channels i d }
  aged : ∀ {s : State} (read : List Nat), P s → P { s with channels := s.channels.map (agedChannel read) }
  plan : ∀ {s : State} {i : Nat} {e : PlanEntry} (d : PlanEntry), Table.entry s.plan i = some e → P s →
    P { s with plan := Table.store s.plan i d }
  fails : ∀ {s : State} (arm : Arm) (c : FailureCause), P s → P (failChange s arm c)
  leaves : ∀ {s : State} (arm : Arm), P s → P (leavingTest s arm)
  reported : ∀ {s : State} (arm : Arm) (r : ProbeReport), P s → P (libraryReport s arm r)
  outcome : ∀ {s : State} (m : RackMessage) (o : RackOutcome), P s → P (takeOutcome s m o)
  changes : ∀ {s : State} (arm : Arm) (x : Nat), P s → P (changeProbe s arm x).1
  opens : ∀ {s : State} (p : List Byte), P s → P (openWindow s p).1
  breaks : ∀ {s : State}, P s → P (breakWindow s)
  continues : ∀ {s : State} {w : WindowValues}, s.service.window = .broken w → P s →
    P (s.setService { s.service with window := .opened w })
  data : ∀ {s : State} {r : Request}, r.code = codeTableData → P s → P (completeRequest s r)
  restarts : ∀ {s : State}, P s → P (restartRun s)

/-! ### Operations on the blocks that the property does not read -/

theorem placeTx_core (s : State) (p : Port) (t : TxFrame) : (s.placeTx p t).core = s.core := by
  rcases s.placeTx_cases p t with ⟨_, e⟩ | ⟨_, e⟩ <;> rw [e]
  cases p <;> rfl

theorem countBadFrame_core (s : State) (p : Port) : (s.countBadFrame p).core = s.core := by cases p <;> rfl

theorem forward_core (s : State) (p : Port) (t : TxFrame) : (s.forward p t).core = s.core := by
  rcases s.forward_cases p t with ⟨_, e⟩ | ⟨_, e⟩ <;> rw [e]
  · exact countBadFrame_core s p
  · cases p <;> rfl

theorem suspendCapture_core (s : State) (arm : Arm) : (suspendCapture s arm).core = s.core := by rw [suspendCapture_eq]; rfl

theorem messageSent_core (s : State) : (messageSent s).core = s.core := by rw [messageSent_eq]; rfl

theorem frameLeaves_core (s : State) (p : Port) : (frameLeaves s p).core = s.core := by
  unfold frameLeaves
  split
  · rfl
  · rename_i rest _
    have hr : (s.setLink (s.link.setTx p rest)).core = s.core := by cases p <;> rfl
    dsimp only
    split
    · exact (messageSent_core _).trans hr
    · exact hr

theorem rackOutSlot_core (s : State) (payload : List Byte) : (rackOutSlot s payload).1.core = s.core := by
  rw [rackOutSlot_state]; rfl

theorem placeOut_core (s : State) (f : CycleFrame) (carried : List (RackTag × Nat)) : (placeOut s f carried).core = s.core := by
  unfold placeOut
  dsimp only
  split
  · split
    · exact messageSent_core _
    · rfl
  · exact placeTx_core _ _ _

theorem enqueueRecord_core (s : State) (r : CaptureRecord) : (enqueueRecord s r).1.core = s.core := by
  rcases enqueueRecord_cases s r with ⟨_, e⟩ | ⟨_, e⟩ <;> rw [e]
  · unfold commitRecord
    dsimp only
    split <;> rfl
  · rfl

theorem QueueOnly.core {s t : State} (h : QueueOnly s t) : t.core = s.core := by
  obtain ⟨q, n, _, rfl⟩ := h
  rfl

theorem plan_of_core {s t : State} (h : t.core = s.core) : t.plan = s.plan :=
  have f {α : Type} (g : State → α) : g t.core = g s.core := congrArg g h
  f State.plan

/-! ### The operations on one block after another -/

namespace Kept

variable {P : State → Prop} (k : Kept P) {s : State}
include k

omit k in
/-- What every action of a list keeps, the whole list keeps. -/
theorem foldl {α : Type} {f : State → α → State} (hf : ∀ {s : State} (x : α), P s → P (f s x)) (l : List α) (h : P s) :
    P (l.foldl f s) := by
  induction l generalizing s with
  | nil => exact h
  | cons x xs ih => exact ih (hf x h)

theorem stopArm (arm : Arm) (c : StopCause) (h : P s) : P (stopArm s arm c) := by
  unfold Machine.stopArm toldStopped
  dsimp only
  split
  · exact h
  · refine k.core ?_ (suspendCapture_core _ _)
    split
    any_goals exact k.fails arm .armStopped (k.core h rfl)
    exact k.core h rfl

/-! ### Return slots and frame-end stages -/

theorem takeReading (c : Nat) (t : Int) (h : P s) : P (takeReading s c t) := by
  unfold Machine.takeReading
  split
  · exact h
  · rename_i e
    dsimp only
    split
    · split
      · exact k.core (k.channel _ e h) rfl
      · exact k.channel _ e h
    · split
      · exact k.core (k.channel _ e h) rfl
      · exact k.channel _ e h

theorem thermalSlot (hub : Nat) (payload : List Byte) (h : P s) : P (thermalSlot s hub payload) := by
  refine Kept.foldl (fun x h => ?_) _ h
  split
  · exact k.takeReading _ _ h
  · exact h

theorem countFail (arm : Arm) (h : P s) : P (countFail s arm) := by
  unfold Machine.countFail
  dsimp only
  split
  · exact k.stopArm arm .scaleFail (k.core h rfl)
  · exact k.core h rfl

theorem positionSlot (arm : Arm) (payload : List Byte) (h : P s) : P (positionSlot s arm payload) := by
  unfold Machine.positionSlot
  dsimp only
  split
  · exact k.leaves arm (k.core h rfl)
  · exact k.countFail arm (k.core h rfl)

theorem probeSlot (arm : Arm) (r : ProbeReport) (h : P s) : P (probeSlot s arm r) := by
  have hl : P (libraryReport { s with latestReport := s.latestReport.put arm (some r) } arm r) := k.reported arm r (k.core h rfl)
  unfold Machine.probeSlot overtravelReport
  dsimp only
  split
  · exact k.stopArm arm .overtravel (k.core hl rfl)
  · exact k.core hl rfl

theorem takeReply (r : RackReply) (h : P s) : P (takeReply s r) := by
  unfold Machine.takeReply
  split
  · exact k.outcome _ _ (k.core h rfl)
  · exact k.core h rfl

theorem backSlot (d : BackRun) (sl : Slot) (h : P s) : P (backSlot s d sl).1 := by
  unfold Machine.backSlot handleBack
  split
  · exact h
  · dsimp only
    split
    · exact h
    · split
      · split
        · exact k.thermalSlot _ _ h
        · exact h
      · split
        · exact k.positionSlot _ _ h
        · exact h
      · split
        · exact k.probeSlot _ _ h
        · exact h
      · split
        · exact k.takeReply _ h
        · exact h

theorem backSlots (d : BackRun) (slots : List Slot) (h : P s) : P (backSlots s d slots).1 := by
  induction slots generalizing s d with
  | nil => exact h
  | cons sl rest ih => exact ih _ (k.backSlot d sl h)

theorem ageChannels (read : List Nat) (h : P s) : P (ageChannels s read) :=
  Kept.foldl (f := fun s (p : Nat × Channel) => s.raise .channelStale (.channel p.1) 0) (fun _ h => k.core h rfl) _ (k.aged read h)

theorem missingPosition (arm : Arm) (present : Bool) (h : P s) : P (missingPosition s arm present) := by
  unfold Machine.missingPosition
  split
  · exact h
  · exact k.countFail arm (k.core h rfl)

theorem matchRecord (arm : Arm) {i : Nat} {e : PlanEntry} (he : Table.entry s.plan i = some e) (r : CaptureRecord) (radius : Nat)
    (h : P s) : P (matchRecord s arm i e r radius) := by
  unfold Machine.matchRecord
  dsimp only
  have stored (u : State) (q : CaptureRecord) (d : PlanEntry) (hu : u.core = s.core) :
      P { (enqueueRecord u q).1 with plan := Table.store (enqueueRecord u q).1.plan i d } := by
    have hq : (enqueueRecord u q).1.core = s.core := (enqueueRecord_core u q).trans hu
    exact k.plan (e := e) d (by rw [plan_of_core hq, he]) (k.core h hq)
  split
  · exact stored _ _ _ rfl
  · exact stored _ _ _ rfl

theorem handRecord (r : CaptureRecord) (radius : Nat) (h : P s) : P (handRecord s r radius) := by
  have hq (u : State) (q : CaptureRecord) (hu : u.core = s.core) : P (enqueueRecord u q).1 :=
    k.core h ((enqueueRecord_core u q).trans hu)
  unfold Machine.handRecord walkRecord
  dsimp only
  split
  · split
    · exact hq _ _ rfl
    · rename_i e he
      split; · exact hq _ _ rfl
      split; · exact hq _ _ rfl
      split
      · exact k.matchRecord r.arm he r radius h
      · exact hq _ _ rfl
  · exact hq _ _ rfl

theorem commitTouch (arm : Arm) (l : TouchLatch) (h : P s) : P (commitTouch s arm l) := by
  unfold Machine.commitTouch
  split
  · exact k.handRecord _ _ h
  · exact h

theorem commitStuck (arm : Arm) (c : CycleNumber) (h : P s) : P (commitStuck s arm c) := by
  unfold Machine.commitStuck
  split
  · exact k.handRecord _ _ h
  · exact h

theorem captureStep (arm : Arm) (r : Option ProbeReport) (c : CycleNumber) (h : P s) : P (captureStep s arm r c) := by
  have hc (v : Capture) : P (s.setCapture arm v) := k.core h rfl
  unfold Machine.captureStep
  split
  · unfold armedStep
    dsimp only
    split
    · split
      · exact k.commitTouch arm _ (hc _)
      · exact hc _
    · exact h
  · split
    · unfold confirmTouch
      dsimp only
      split
      · split
        · exact k.commitTouch arm _ (hc _)
        · exact hc _
      · exact hc _
    · exact hc _
  · exact hc _
  · unfold deflectedStep
    dsimp only
    split
    · split
      · exact k.commitStuck arm c (hc _)
      · exact hc _
    · exact hc _
  · unfold rearmingStep
    dsimp only
    split
    · exact hc _
    · split <;> exact hc _
  · exact h

theorem evaluateArm (arm : Arm) (r : Option ProbeReport) (c : CycleNumber) (h : P s) : P (evaluateArm s arm r c) := by
  refine k.core (k.captureStep arm r c ?_) rfl
  unfold leaveSuspended
  dsimp only
  split
  · exact k.core h rfl
  · exact h

theorem endStage (d : BackRun) (c : CycleNumber) (g : EndStage) (h : P s) : P (endStage d c s g) := by
  cases g with
  | ageing => exact k.missingPosition .b _ (k.missingPosition .a _ (k.ageChannels _ h))
  | capture arm => exact k.evaluateArm arm _ _ h

/-- The frame end up to the held-back writes. -/
theorem finishForwarded (c : CycleNumber) (slots : List Slot) (h : P s) : P (finishForwarded s c slots) := by
  rw [finishForwarded_eq]
  exact k.core h ((forward_core _ _ _).trans (reported_queueOnly s slots).core)

theorem finishOriginated (h : P s) : P (finishOriginated s) := k.core h (judgeStall_queueOnly s 0).core

/-! ### Outbound frames, the link watch and the timers -/

theorem outSlots {f : State → Arm → List Byte → State × List Byte} (hf : ∀ {s : State} (arm : Arm) (p : List Byte), P s → P (f s arm p).1)
    (d : OutRun) (slots : List Slot) (h : P s) : P (outSlots f s d slots).1 := by
  induction slots generalizing s d with
  | nil => exact h
  | cons sl rest ih =>
    refine ih _ ?_
    unfold Machine.outSlot
    split
    · exact h
    · dsimp only
      split
      · split
        · exact hf _ _ h
        · exact k.core h (rackOutSlot_core _ _)
      · exact h

theorem targetSlot (arm : Arm) (payload : List Byte) (h : P s) : P (targetSlot s arm payload).1 := by
  unfold Machine.targetSlot
  dsimp only
  split
  · exact h
  · unfold supervisedTarget
    dsimp only
    split
    · exact k.core h rfl
    · split
      · exact k.stopArm arm .holdLimit (k.core h rfl)
      · exact k.core h rfl
  · exact h

theorem endOut (g : OutFrame) (h : P s) : P (endOut s g) := by
  unfold Machine.endOut forwardOut
  split
  · exact k.core h ((placeOut_core _ _ _).trans (countBadFrame_core _ _))
  · exact k.core h (placeOut_core _ _ _)

theorem startOut (f : CycleFrame) (h : P s) : P (startOut s f).1 := k.core h rfl

theorem handleOut (g : OutFrame) (h : P s) : P (handleOut s g).1 := by
  unfold Machine.handleOut
  split
  · exact k.endOut g h
  · rename_i sl rest _
    exact k.outSlots (fun _ _ h => k.targetSlot _ _ h) g.run [sl] h

theorem finishOut (g : OutFrame) (h : P s) : P (finishOut s g) := k.endOut _ (k.outSlots (fun _ _ h => k.targetSlot _ _ h) _ _ h)

theorem originateAndStart (h : P s) : P (originateAndStart s) := by
  refine k.core (?_ : P (originate s)) rfl
  unfold originate
  split
  · exact h
  · have hp (c : CycleNumber) (t f : CycleFrame) (l : List (RackTag × Nat)) : P (placeOut (originatedSlots (s.setCurrentCycle c) t).1 f l) :=
      k.core (s := (originatedSlots (s.setCurrentCycle c) t).1) (k.outSlots (fun _ _ h => h) _ _ (k.core h rfl)) (placeOut_core _ _ _)
    dsimp only
    split
    · exact hp _ _ _ _
    · exact k.core (hp _ _ _ _) rfl

theorem enterHalted (h : P s) : P (enterHalted s) := k.stopArm .b .linkLoss (k.stopArm .a .linkLoss (k.core h rfl))

theorem watchTimerExpires (h : P s) : P (watchTimerExpires s) := by
  unfold Machine.watchTimerExpires loseController loseWithoutTemplate
  split
  · exact h
  · dsimp only
    split
    · split
      · exact k.originateAndStart (k.enterHalted (k.core h rfl))
      · exact k.originateAndStart (k.core h rfl)
    · split <;> exact k.core h rfl

theorem timerExpires (t : Timer) (h : P s) : P (timerExpires s t) := by
  cases t with
  | watch => exact k.watchTimerExpires h
  | origination =>
    change P (originationTimerExpires s)
    unfold originationTimerExpires
    split
    · exact h
    · exact k.originateAndStart (k.core h rfl)
  | bridge =>
    change P (bridgeTimerExpires s)
    unfold bridgeTimerExpires
    split
    · exact h
    · exact k.enterHalted (k.core h rfl)
  | reply =>
    change P (replyTimerExpires s)
    unfold replyTimerExpires
    split
    · exact k.outcome _ _ (k.core h rfl)
    · exact h
  | phase arm =>
    change P (phaseTimerExpires s arm)
    unfold phaseTimerExpires
    split
    · exact h
    · split
      · exact k.fails arm .phaseTimeout (k.core h rfl)
      · exact h

/-! ### The service block -/

omit k in
theorem withArm {p : List Byte} {f : Arm → State × Answer} (hf : ∀ arm, P (f arm).1) (h : P s) : P (withArm s p f).1 := by
  unfold Machine.withArm
  split
  · exact hf _
  · exact h

theorem abortChange (arm : Arm) (h : P s) : P (abortChange s arm).1 := by
  unfold Machine.abortChange
  split
  · exact h
  · exact k.fails arm .aborted h

theorem releaseArm (arm : Arm) (h : P s) : P (releaseArm s arm).1 := by
  unfold Machine.releaseArm
  dsimp only
  split; · exact h
  split; · exact h
  split; · exact h
  split; · exact h
  split
  · exact k.core h rfl
  · exact h

theorem readTable (p : List Byte) (h : P s) : P (readTable s p).1 := by
  unfold Machine.readTable
  split
  · exact h
  · dsimp only
    split; · exact h
    split
    · exact h
    · exact k.core h rfl

theorem planStartRequest (p : List Byte) (h : P s) : P (planStartRequest s p).1 := by
  refine withArm (fun arm => ?_) h
  split
  · exact h
  · split
    · exact h
    · unfold planStart
      split
      · exact h
      · exact k.core h rfl

theorem planResume (arm : Arm) (h : P s) : P (planResume s arm).1 := by
  unfold Machine.planResume
  dsimp only
  split
  · exact k.core h rfl
  · exact h

theorem readNotices (p : List Byte) (h : P s) : P (readNotices s p).1 := by
  unfold Machine.readNotices
  dsimp only
  split
  · exact k.core h rfl
  · exact h

theorem setNoticeMask (p : List Byte) (h : P s) : P (setNoticeMask s p).1 := by
  unfold Machine.setNoticeMask
  dsimp only
  split
  · exact h
  · exact k.core h rfl

theorem readStatus (p : List Byte) (h : P s) : P (readStatus s p).1 := by
  unfold Machine.readStatus
  split
  · exact h
  · dsimp only
    split <;> exact k.core h rfl

/-- TABLE CONTINUE after the window it found was broken. -/
theorem continueWindow (h : P s) : P (continueWindow s.service.window (breakWindow s)).1 := by
  unfold Machine.continueWindow
  split
  · rename_i w hw
    exact k.continues (by simp [hw, Window.broke]) (k.breaks h)
  · exact k.breaks h

omit k in
/-- Of two answers, whichever a test chooses. -/
theorem answer_ite {c : Prop} [Decidable c] {x y : State × Answer} (hx : P x.1) (hy : P y.1) : P (if c then x else y).1 := by
  split
  · exact hx
  · exact hy

theorem carryOut (c : Byte) (p : List Byte) (h : P s) : P (carryOut s c p).1 := by
  have hb : P (breakWindow s) := k.breaks h
  have hcore {t : State} (ht : t.core = (breakWindow s).core) : P t := k.core hb ht
  unfold Machine.carryOut
  split
  · exact answer_ite (k.opens _ hb) <| answer_ite (k.continueWindow h) <| answer_ite (k.readTable _ hb) <|
      answer_ite (withArm (fun _ => k.changes _ _ hb) hb) <| answer_ite (withArm (fun _ => k.abortChange _ hb) hb) <|
      answer_ite (withArm (fun _ => k.stopArm _ _ hb) hb) <| answer_ite (withArm (fun _ => k.releaseArm _ hb) hb) <|
      answer_ite (k.planStartRequest _ hb) <| answer_ite (withArm (fun _ => hcore rfl) hb) <|
      answer_ite (withArm (fun _ => k.planResume _ hb) hb) <| answer_ite (hcore rfl) <| answer_ite (hcore rfl) <|
      answer_ite (k.readNotices _ hb) <| answer_ite (k.setNoticeMask _ hb) <| answer_ite (k.readStatus _ hb) <|
      answer_ite (k.restarts hb) hb
  · exact hb

theorem completeRequest (r : Request) (h : P s) : P (completeRequest s r) := by
  by_cases hc : r.code = codeTableData
  · exact k.data hc h
  · simp only [Machine.completeRequest, if_neg hc]
    exact k.core (k.carryOut _ _ h) (placeTx_core _ _ _)

theorem serveOldest (h : P s) : P (serveOldest s) := by
  unfold Machine.serveOldest
  split
  · exact h
  · split
    · exact h
    · exact k.completeRequest _ (k.core h rfl)

theorem handOver (r : Request) (h : P s) : P (handOver s r) := by
  unfold Machine.handOver
  split
  · exact k.core h (placeTx_core _ _ _)
  · exact k.core h rfl

theorem takeRequest (r : Request) (h : P s) : P (takeRequest s r) := by
  unfold Machine.takeRequest
  split
  · exact k.handOver r h
  · exact k.core h (countBadFrame_core _ _)

theorem arriveRequest (r : Request) (h : P s) : P (arriveRequest s r) := by
  unfold Machine.arriveRequest requestStep
  split
  · split; · exact k.completeRequest r h
    split
    · exact k.serveOldest h
    · exact k.handOver r h
  · exact k.core h (countBadFrame_core _ _)

theorem idleStep (h : P s) : P (idleStep s) := by
  rcases idleStep_cases s with ⟨_, e⟩ | ⟨_, _, e⟩ | ⟨_, _, _, e⟩ | ⟨_, _, _, e⟩ <;> rw [e]
  · exact h
  · exact k.serveOldest h
  · exact h
  · exact k.core h rfl

end Kept

/-! ### Frames by their bytes, and the two receive sides -/

/-- A property of the part between return frames and one of the part within them: entering a return frame leads from the one to the other,
and its end back. -/
structure KeptByReturn (P Q : State → Prop) : Prop where
  outside : Kept P
  inside : Kept Q
  enters : ∀ {s : State} (c : CycleNumber), P s → Q (enterProcessing s c)
  ends : ∀ {s : State}, Q s → P (leaveProcessing s)

/-- The property that holds of a part with its frames in processing. -/
def Mid.Holds (P Q : State → Prop) (m : Mid) : Prop := (m.back = none → P m.state) ∧ (m.back ≠ none → Q m.state)

namespace KeptByReturn

variable {P Q : State → Prop} (k : KeptByReturn P Q) {s : State}
include k

theorem startBack (f : CycleFrame) (h : P s) : Q (startBack s f).1 := k.enters f.cycle h

theorem endBack (b : BackFrame) (h : Q s) : P (endBack s b) := by
  refine k.ends ?_
  split
  · exact k.inside.finishOriginated h
  · exact k.inside.finishForwarded _ _ h

theorem finishReturn (b : BackFrame) (h : Q s) : P (finishReturn s b) :=
  k.endBack _ (Kept.foldl (fun g h => k.inside.endStage _ _ g h) _ (k.inside.backSlots _ _ h))

omit k in
/-- A frame that is no return cycle frame, by its bytes. -/
theorem takeFrame_other {R : State → Prop} (r : Kept R) {p : Port} (bytes : List Byte) (h : R s)
    (hback : ∀ f, classify bytes = .good (.cycleBack f) → passesThrough p (.cycleBack f) = true) : R (takeFrame s p bytes) := by
  have hbad : R (forwardBad s p bytes) := r.core h ((forward_core _ _ _).trans (countBadFrame_core _ _))
  unfold takeFrame
  split
  · exact r.core h (countBadFrame_core _ _)
  · exact hbad
  · exact hbad
  · rename_i f hf
    unfold takeGood
    split
    · exact r.core h (forward_core _ _ _)
    · rename_i hp
      split
      · exact r.finishOut _ (r.startOut _ h)
      · exact absurd (hback _ hf) hp
      · exact r.takeRequest _ h
      · exact h

theorem takeFrame (p : Port) (bytes : List Byte) (h : P s) : P (takeFrame s p bytes) := by
  by_cases hb : ∃ f, classify bytes = .good (.cycleBack f) ∧ passesThrough p (.cycleBack f) = false
  · obtain ⟨f, hf, hp⟩ := hb
    rw [show Machine.takeFrame s p bytes = plainReturn s f by simp [Machine.takeFrame, takeGood, hf, hp]]
    exact k.finishReturn _ (k.startBack f h)
  · exact takeFrame_other k.outside bytes h fun f hf => by simpa using fun hp => hb ⟨f, hf, hp⟩

variable {m : Mid}

omit k in
/-- What no work of the D port's receive side is keeps the property when it keeps it outside and within return frames. -/
theorem on {m m' : Mid} (h : m.Holds P Q) (hb : m'.back = m.back) (hP : P m.state → P m'.state) (hQ : Q m.state → Q m'.state) :
    m'.Holds P Q := ⟨fun e => hP (h.1 (hb ▸ e)), fun e => hQ (h.2 (hb ▸ e))⟩

theorem handle (p : Port) (h : m.Holds P Q) : (m.handle p).Holds P Q := by
  cases p with
  | u =>
    unfold Mid.handle
    dsimp only
    split
    · exact h
    · exact on h rfl (k.outside.handleOut _) (k.inside.handleOut _)
  | d =>
    unfold Mid.handle
    dsimp only
    split
    · exact h
    · rename_i b hb
      have hq : Q m.state := h.2 (by simp [hb])
      unfold handleReturn
      split
      · exact ⟨nofun, fun _ => k.inside.backSlot _ _ hq⟩
      · exact ⟨nofun, fun _ => k.inside.endStage _ _ _ hq⟩
      · exact ⟨fun _ => k.endBack b hq, fun e => absurd rfl e⟩

theorem finish (p : Port) (h : m.Holds P Q) : (m.finish p).Holds P Q := by
  cases p with
  | u =>
    unfold Mid.finish
    dsimp only
    split
    · exact h
    · exact on h rfl (k.outside.finishOut _) (k.inside.finishOut _)
  | d =>
    unfold Mid.finish
    dsimp only
    split
    · exact h
    · rename_i b hb
      exact ⟨fun _ => k.finishReturn b (h.2 (by simp [hb])), fun e => absurd rfl e⟩

theorem finish_d_takeFrame (h : m.Holds P Q) (bytes : List Byte) : ((m.finish .d).on fun s => Machine.takeFrame s .d bytes).Holds P Q := by
  have hf := (k.finish .d h).1 (by simp)
  exact ⟨fun _ => k.takeFrame .d bytes hf, fun e => absurd (Mid.finish_d_back m) e⟩

theorem finish_u_takeFrame (h : m.Holds P Q) (bytes : List Byte) : ((m.finish .u).on fun s => Machine.takeFrame s .u bytes).Holds P Q :=
  on (k.finish .u h) rfl (fun h => takeFrame_other k.outside bytes h fun _ _ => rfl)
    (fun h => takeFrame_other k.inside bytes h fun _ _ => rfl)

theorem takes (p : Port) (f : CycleFrame) (h : m.Holds P Q) : (m.takes p f).Holds P Q := by
  unfold Mid.takes
  dsimp only
  split
  · cases p with
    | u => exact on (k.finish .u h) rfl (k.outside.startOut f) (k.inside.startOut f)
    | d => exact ⟨nofun, fun _ => k.startBack f ((k.finish .d h).1 (by simp))⟩
  · cases p with
    | u => exact k.finish_u_takeFrame h _
    | d => exact k.finish_d_takeFrame h _

theorem midEvent (e : MidEvent) (h : m.Holds P Q) : (midEvent m e).Holds P Q := by
  cases e with
  | handOver tag code params => exact on (k.finish .u h) rfl (k.outside.takeRequest _) (k.inside.takeRequest _)
  | serve => exact on h rfl k.outside.serveOldest k.inside.serveOldest
  | takes p f => exact k.takes p f h
  | handles p => exact k.handle p h
  | bytes p frame =>
    cases p with
    | u => exact k.finish_u_takeFrame h _
    | d => exact k.finish_d_takeFrame h _
  | discards p =>
    exact on (k.finish p h) rfl (k.outside.core · (countBadFrame_core _ _)) (k.inside.core · (countBadFrame_core _ _))
  | expiry t => exact on h rfl (k.outside.timerExpires t) (k.inside.timerExpires t)
  | leaves p => exact on h rfl (k.outside.core · (frameLeaves_core _ _)) (k.inside.core · (frameLeaves_core _ _))

/-- The command finishes every frame in processing, so the property outside return frames holds again. -/
theorem cycleFrameWith (p : Port) (f : CycleFrame) (during : List Interleaved) (h : P s) : P (cycleFrameWith p s f during) := by
  have hidle : (Mid.idle s).Holds P Q := ⟨fun _ => h, fun e => absurd rfl e⟩
  have hm := eventsWhere_keeps (during := during) (fun _ e _ h => k.midEvent e.event h) (fun i => decide (pieceCount p f ≤ i))
    (framePieces_keeps (during := during) (fun _ e _ h => k.midEvent e.event h) (fun _ h => k.handle p h) 0 (pieceCount p f)
      (k.takes p f hidle))
  exact (k.finish .d (k.finish .u hm)).1 (by simp)

/-! ### Commands and the step -/

theorem exec {c : Instr} {t : State} (h : P s) (ht : exec c s = .next t) : P t := by
  have run {f : State → State} (hf : P s → P (f s)) : P (s.unlessReset f) := by
    unfold State.unlessReset
    split
    · exact h
    · exact hf h
  have o := k.outside
  cases c <;> obtain rfl := Host.Outcome.next.inj ht
  case powerUp => exact o.core (s := State.reset) o.reset rfl
  case resetPin => exact o.core (s := State.reset) o.reset rfl
  case resetEnd => exact o.core h rfl
  case frameDiscarded p => exact run (o.core · (countBadFrame_core s p))
  case badCheckFrame => exact run (k.takeFrame _ _)
  case notWellFormedFrame => exact run (k.takeFrame _ _)
  case forwardUnchanged => exact run (k.takeFrame _ _)
  case outboundCycleFrame => exact run (k.cycleFrameWith _ _ _)
  case returnCycleFrame => exact run (k.cycleFrameWith _ _ _)
  case serviceReqHandedOver => exact run (o.takeRequest _)
  case frameLeavesPort p => exact run (o.core · (frameLeaves_core s p))
  case watchTimerExpiry => exact run (o.timerExpires .watch)
  case originationTimerExpiry => exact run (o.timerExpires .origination)
  case bridgeTimerExpiry => exact run (o.timerExpires .bridge)
  case replyTimerExpiry => exact run (o.timerExpires .reply)
  case phaseTimerExpiry arm => exact run (o.timerExpires (.phase arm))
  all_goals exact run (o.arriveRequest _)

theorem step {t : State} (h : P s) (ht : step s = .next t) : P t := by
  rcases step_cases ht with ⟨_, rfl⟩ | ⟨c, rest, _, hx⟩
  · exact k.outside.idleStep h
  · exact k.exec (k.outside.core (s := s) (t := { s with pending := rest }) h rfl) hx

end KeptByReturn

end Sys2Proof.Machine
end

section
/-! The tables, the write window and the buffer stay in order, and between two steps no return frame is in processing (R31, R34 to R36, R40;
log 10). -/

namespace Sys2Proof.Machine

/-! ### Tables by their indices -/

/-- The canonical form reads the indices alone. -/
theorem Table.wf_congr {α β : Type} {size : Nat} {t : Table α} {u : Table β} (h : t.map Prod.fst = u.map Prod.fst) :
    Table.wf size t = Table.wf size u := by
  unfold Table.wf
  generalize 0 = low
  induction t generalizing u low with
  | nil =>
    cases u with
    | nil => rfl
    | cons q u => simp at h
  | cons p t ih =>
    cases u with
    | nil => simp at h
    | cons q u =>
      obtain ⟨hk, hr⟩ := List.cons.inj h
      simp only [Table.risesFrom, ih hr]
      rw [show p.1 = q.1 from hk]

theorem Table.mem_of_entry {α : Type} {t : Table α} {i : Nat} {v : α} (h : Table.entry t i = some v) : (i, v) ∈ t := by
  induction t with
  | nil => cases h
  | cons p t ih =>
    obtain ⟨k, w⟩ := p
    simp only [Table.entry] at h
    split at h
    · rename_i hk
      cases h
      exact hk ▸ List.mem_cons_self
    · exact List.mem_cons_of_mem _ (ih h)

/-- In a table in canonical form what is listed is what is read. -/
theorem Table.entry_iff_mem {α : Type} {size : Nat} {t : Table α} (ht : Table.wf size t = true) {i : Nat} {v : α} :
    Table.entry t i = some v ↔ (i, v) ∈ t :=
  ⟨Table.mem_of_entry, fun h => (Table.entry_of_mem ht h).1⟩

theorem Table.lt_of_entry {α : Type} {size : Nat} {t : Table α} (ht : Table.wf size t = true) {i : Nat} {v : α}
    (h : Table.entry t i = some v) : i < size :=
  (Table.entry_of_mem ht (Table.mem_of_entry h)).2.2

/-- Storing at an index in use keeps the canonical form. -/
theorem Table.wf_store_of_entry {α : Type} {size : Nat} {t : Table α} (ht : Table.wf size t = true) {i : Nat} {v : α}
    (h : Table.entry t i = some v) (w : α) : Table.wf size (Table.store t i w) = true :=
  Table.wf_store w ht (Table.lt_of_entry ht h)

/-! ### The invariant -/

/-- The blocks that `State.tableInv` reads, each in order. -/
structure TablesInOrder (channels : Table Channel) (axes : Table AxisEntry) (points : Table Int) (zones : Table ZoneEntry)
    (library : Table LibraryEntry) (plan : Table PlanEntry) (window : Window) (deferred : List (Nat × Entry)) : Prop where
  channels : Table.wf 32 channels = true
  axes : Table.wf 6 axes = true
  map : Table.wf 1536 points = true
  nonzero : points.all (fun p => p.2 != 0) = true
  zones : Table.wf 32 zones = true
  library : Table.wf 32 library = true
  plan : Table.wf 512 plan = true
  window : window.wf = true
  deferred : ∀ p ∈ deferred, p.1 < tableSize p.2.table

/-- `State.tableInv` block by block. -/
def State.InOrder (s : State) : Prop :=
  TablesInOrder s.channels s.axes s.map s.zones s.library s.plan s.service.window s.service.deferred

theorem State.inOrder_iff (s : State) : s.tableInv = true ↔ s.InOrder := by
  simp only [State.tableInv, State.tablesWf, deferredWf, Bool.and_eq_true, List.all_eq_true (p := fun p : Nat × Entry => _),
    decide_eq_true_eq]
  constructor
  · rintro ⟨⟨⟨⟨⟨⟨⟨⟨c, a⟩, m⟩, p⟩, z⟩, l⟩, n⟩, w⟩, d⟩
    exact ⟨c, a, m, p, z, l, n, w, d⟩
  · rintro ⟨c, a, m, p, z, l, n, w, d⟩
    exact ⟨⟨⟨⟨⟨⟨⟨⟨c, a⟩, m⟩, p⟩, z⟩, l⟩, n⟩, w⟩, d⟩

namespace State.InOrder

variable {s t : State} (h : s.InOrder)
include h

theorem setLibrary {l : Table LibraryEntry} (hl : Table.wf 32 l = true) : State.InOrder { s with library := l } := { h with library := hl }

theorem setWindow {v : Service} (hv : v.window.wf = true) (hd : v.deferred = s.service.deferred) : (s.setService v).InOrder :=
  { h with window := hv, deferred := by rw [State.setService_service, hd]; exact h.deferred }

/-- What leaves all the blocks read. -/
theorem of_core (e : t.core = s.core) : t.InOrder := by
  have f {α : Type} (g : State → α) : g t.core = g s.core := congrArg g e
  have hc : t.channels = s.channels := f State.channels
  have ha : t.axes = s.axes := f State.axes
  have hm : t.map = s.map := f State.map
  have hz : t.zones = s.zones := f State.zones
  have hl : t.library = s.library := f State.library
  have hp : t.plan = s.plan := f State.plan
  have hw : t.service.window = s.service.window := f fun s => s.service.window
  have hd : t.service.deferred = s.service.deferred := f fun s => s.service.deferred
  rw [State.InOrder, hc, ha, hm, hz, hl, hp, hw, hd]
  exact h

/-- What touches the library alone of the blocks read. -/
theorem of_sansReports (e : t.sansReports = s.sansReports) (hl : Table.wf 32 t.library = true) : t.InOrder := by
  have f {α : Type} (g : State → α) : g t.sansReports = g s.sansReports := congrArg g e
  have hc : t.channels = s.channels := f State.channels
  have ha : t.axes = s.axes := f State.axes
  have hm : t.map = s.map := f State.map
  have hz : t.zones = s.zones := f State.zones
  have hp : t.plan = s.plan := f State.plan
  have hs : t.service = s.service := f State.service
  obtain ⟨c, a, m, p, z, _, n, w, d⟩ := h
  exact ⟨hc ▸ c, ha ▸ a, hm ▸ m, hm ▸ p, hz ▸ z, hl, hp ▸ n, hs ▸ w, hs ▸ d⟩

end State.InOrder

/-! ### The catalogue: indices, identities and home stations of the library -/

/-- What an entry is listed under. -/
def catalogueKey (p : Nat × LibraryEntry) : Nat × Nat × Option Nat := (p.1, p.2.identity, p.2.home)

/-- The library is in canonical form with these indices, identities and home stations. -/
def State.Catalogued (keys : List (Nat × Nat × Option Nat)) (s : State) : Prop :=
  Table.wf 32 s.library = true ∧ s.library.map catalogueKey = keys

theorem Table.map_store {α β : Type} {size low : Nat} {t : Table α} (ht : Table.risesFrom size low t = true) {i : Nat} {v w : α}
    (hi : Table.entry t i = some v) {key : Nat × α → β} (hkey : key (i, w) = key (i, v)) :
    (Table.store t i w).map key = t.map key := by
  induction t generalizing low with
  | nil => cases hi
  | cons p t ih =>
    obtain ⟨k, x⟩ := p
    simp only [Table.risesFrom, Bool.and_eq_true, decide_eq_true_eq] at ht
    obtain ⟨⟨_, _⟩, hrest⟩ := ht
    by_cases hk : k = i
    · subst hk
      have hx : x = v := by simpa [Table.entry] using hi
      subst hx
      simp [Table.store, hkey]
    · have hi' : Table.entry t i = some v := by simpa [Table.entry, hk] using hi
      have hlt : k + 1 ≤ i := (Table.entry_of_mem hrest (Table.mem_of_entry hi')).2.1
      simp [Table.store, show ¬ i < k by omega, Ne.symm hk, ih hrest hi']

namespace State.Catalogued

variable {keys : List (Nat × Nat × Option Nat)} {s t : State} (h : s.Catalogued keys)
include h

theorem of_library (e : t.library = s.library) : t.Catalogued keys := by
  rw [State.Catalogued, e]
  exact h

theorem of_sansMoves (e : t.sansMoves = s.sansMoves) : t.Catalogued keys :=
  have f {α : Type} (g : State → α) : g t.sansMoves = g s.sansMoves := congrArg g e
  h.of_library (f State.library)

theorem setActive {arm : Arm} {r : ActiveProbe} : (setActive s arm r).Catalogued keys := h.of_library (setActive_library s arm r)

theorem raise {kind : NoticeKind} {j : Subject} {d : Nat} : (s.raise kind j d).Catalogued keys := h

theorem setSequencer {arm : Arm} {v : Sequencer} : (s.setSequencer arm v).Catalogued keys := h

theorem startPhase {arm : Arm} {q : Sequencer} {st : SeqState} : (startPhase s arm q st).Catalogued keys := h

theorem failChange {arm : Arm} {c : FailureCause} : (failChange s arm c).Catalogued keys := h.of_sansMoves (failChange_sansMoves s arm c)

theorem modifyEntry {i : Nat} {f : LibraryEntry → LibraryEntry} (hf : ∀ e, (f e).identity = e.identity ∧ (f e).home = e.home) :
    (modifyEntry s i f).Catalogued keys := by
  cases hi : Table.entry s.library i with
  | none => rwa [modifyEntry_of_none f hi]
  | some e =>
    rw [modifyEntry_of_some f hi]
    obtain ⟨hid, hhome⟩ := hf e
    exact ⟨Table.wf_store_of_entry h.1 hi _, (Table.map_store h.1 hi (by simp [catalogueKey, hid, hhome])).trans h.2⟩

theorem setLocation {i : Nat} {l : Location} : (setLocation s i l).Catalogued keys := h.modifyEntry fun _ => ⟨rfl, rfl⟩

theorem takeFromOther {arm : Arm} {i x : Nat} : (takeFromOther s arm i x).Catalogued keys := h.setLocation.setActive.raise.setActive

theorem mountIdentity {arm : Arm} {x : Nat} : (mountIdentity s arm x).Catalogued keys := by
  unfold Machine.mountIdentity
  split
  · split
    · exact h.takeFromOther
    · unfold mountSuspect
      refine State.Catalogued.setActive (h.modifyEntry ?_)
      exact fun _ => ⟨rfl, rfl⟩
  · exact h.setActive

theorem mountChange {arm : Arm} {r : ProbeReport} : (mountChange s arm r).Catalogued keys := by
  unfold Machine.mountChange detachedMount manualMount loseOldProbe
  split
  · split
    · exact h.setLocation.setActive.raise
    · exact h.setActive
    · exact h
  · split
    · exact h.setLocation.raise.mountIdentity.raise
    · exact h.mountIdentity.raise

theorem dropReleased {arm : Arm} {r : ProbeReport} : (dropReleased s arm r).Catalogued keys := by
  unfold Machine.dropReleased
  dsimp only
  split
  · exact h.startPhase
  · split
    · exact h.setLocation.setActive.startPhase
    · exact h.mountChange.failChange
  · exact h.mountChange.failChange

theorem wrongProbeUpdate {arm : Arm} {i x : Nat} : (wrongProbeUpdate s arm i x).Catalogued keys :=
  State.Catalogued.mountIdentity (h.modifyEntry fun _ => by split <;> exact ⟨rfl, rfl⟩)

theorem pickAttached {arm : Arm} {x : Nat} : (pickAttached s arm x).Catalogued keys := by
  unfold Machine.pickAttached
  dsimp only
  split
  · exact h
  · split
    · exact h.wrongProbeUpdate.failChange
    · split
      · split
        · exact h.takeFromOther.raise.failChange
        · exact h.setLocation.setActive.startPhase
      · exact h.wrongProbeUpdate.failChange

theorem libraryReport {arm : Arm} {r : ProbeReport} : (libraryReport s arm r).Catalogued keys := by
  unfold Machine.libraryReport takeReport
  dsimp only
  split
  · split
    · exact h
    · exact h.mountChange
  · split
    · exact h
    · exact h.dropReleased
    · exact h
    · split
      · exact h
      · exact h.pickAttached
    · split
      · exact h
      · exact h.mountChange.failChange

theorem judgeDrop {arm : Arm} {b : Bool} : (judgeDrop s arm b).Catalogued keys := by
  unfold Machine.judgeDrop
  dsimp only
  split
  · exact h.setSequencer.modifyEntry fun _ => by split <;> exact ⟨rfl, rfl⟩
  · exact h.setSequencer

theorem judgeAfterFailure {arm : Arm} {n : Nat} {o : RackOutcome} : (judgeAfterFailure s arm n o).Catalogued keys := by
  unfold Machine.judgeAfterFailure
  split
  · dsimp only
    split
    · split
      · exact h.judgeDrop
      · exact h.judgeDrop.raise
    · exact h
  · exact h

theorem takeOutcome {m : RackMessage} {o : RackOutcome} : (takeOutcome s m o).Catalogued keys := by
  have opens (st : SeqState) (k : NoticeKind) : (openCorridor s m.sender st k m.station).Catalogued keys :=
    h.of_sansMoves (openCorridor_sansMoves s m.sender st k m.station)
  have cleared : (clearPortMark s m.sender).Catalogued keys := h
  unfold Machine.takeOutcome
  split
  · unfold dropOpeningOutcome
    split
    · exact cleared.failChange
    · exact h.failChange
    · exact opens _ _
    · exact h.failChange
    · exact h.failChange
  · unfold pickOpeningOutcome
    split
    · exact cleared.failChange
    · exact opens _ _
    · exact h.failChange
    · exact h.failChange
    · exact h.failChange
  · unfold dropClosingOutcome
    dsimp only
    split
    · split
      · split
        · exact cleared.judgeDrop.of_sansMoves (afterDrop_sansMoves _ _)
        · exact cleared.judgeDrop.failChange
      · exact cleared.of_sansMoves (afterDrop_sansMoves _ _)
    · split
      · split
        · exact h.judgeDrop.failChange
        · exact h.judgeDrop.failChange.raise
      · exact h.failChange
    · exact h.failChange
    · exact h.failChange
  · unfold pickClosingOutcome
    split
    · exact cleared.of_sansMoves (completeChange_sansMoves _ _)
    · exact h.failChange
    · exact h.failChange
    · exact h.failChange
  · refine State.Catalogued.of_sansMoves (State.Catalogued.judgeAfterFailure ?_) (wayBack_sansMoves _ _)
    split
    · split
      · exact cleared
      · exact h
    · exact h
  · unfold reclosingOutcome
    dsimp only
    split
    · exact h.judgeAfterFailure.of_sansMoves (endChange_sansMoves _ _)
    · exact h.judgeAfterFailure.raise.of_sansMoves (endChange_sansMoves _ _)
  · exact h

end State.Catalogued

/-! ### The write window -/

theorem Window.wf_broke {w : Window} (h : w.wf = true) : w.broke.wf = true := by cases w <;> exact h

theorem WindowValues.wf_iff (w : WindowValues) : w.wf = true ↔
    w.start ≤ w.pointer ∧ w.start ≤ w.last ∧ w.last < tableSize w.table ∧
      (w.method = .stop → w.pointer ≤ w.last + 1) ∧ (w.method = .wrap → w.pointer ≤ w.last) := by
  unfold WindowValues.wf
  cases w.method <;> simp [and_assoc]

/-- Where the window is not at its end, the pointer lies in its range. -/
theorem WindowValues.pointer_le {w : WindowValues} (h : w.wf = true) (he : w.atEnd = false) : w.pointer ≤ w.last := by
  obtain ⟨_, _, _, _, hwrap⟩ := w.wf_iff.1 h
  cases hm : w.method with
  | stop => simpa [WindowValues.atEnd, hm] using he
  | wrap => exact hwrap hm

theorem WindowValues.pointer_lt {w : WindowValues} (h : w.wf = true) (he : w.atEnd = false) : w.pointer < tableSize w.table :=
  (w.pointer_le h he).trans_lt (w.wf_iff.1 h).2.2.1

@[simp] theorem WindowValues.advanced_table (w : WindowValues) : w.advanced.table = w.table := by
  unfold WindowValues.advanced; split <;> rfl

theorem WindowValues.wf_advanced {w : WindowValues} (h : w.wf = true) (he : w.atEnd = false) : w.advanced.wf = true := by
  have hp := w.pointer_le h he
  obtain ⟨hs, hl, ht, _, _⟩ := w.wf_iff.1 h
  rw [WindowValues.wf_iff]
  cases hm : w.method with
  | stop => simp [WindowValues.advanced, hm]; omega
  | wrap =>
    simp only [WindowValues.advanced, hm]
    split <;> simp <;> omega

theorem openWindow_cases (s : State) (p : List Byte) :
    (openWindow s p).1 = s ∨
    ∃ w : WindowValues, w.wf = true ∧ (openWindow s p).1 = s.setService { s.service with window := .opened w } := by
  unfold openWindow
  split
  · dsimp only
    split
    · rename_i m _ _ hr
      simp only [rangeOk, Bool.and_eq_true, decide_eq_true_eq] at hr
      refine .inr ⟨_, ?_, rfl⟩
      rw [WindowValues.wf_iff]
      exact ⟨Nat.le_refl _, hr.1, hr.2, fun _ => hr.1.trans (Nat.le_succ _), fun _ => hr.1⟩
    · exact .inl rfl
  · exact .inl rfl

/-! ### Checked entries -/

theorem checkEntry_ok_iff {s : State} {t : TableCode} {i : Nat} {b : List Byte} {e : Entry} :
    checkEntry s t i b = .ok e ↔ readEntry t i b = .ok e ∧ judgeEntry s i e = none := by
  unfold checkEntry
  split
  · rename_i r h
    simp [h]
  · rename_i d h
    split
    · rename_i r hr
      simp only [reduceCtorEq, h, Except.ok.injEq, false_iff, not_and]
      rintro rfl
      simp [hr]
    · rename_i hr
      simp only [h, Except.ok.injEq]
      exact ⟨fun e => ⟨e, e ▸ hr⟩, fun e => e.1⟩

/-- An entry that is read belongs to the table it was read for. -/
theorem readEntry_table {t : TableCode} {i : Nat} {b : List Byte} {e : Entry} (h : readEntry t i b = .ok e) : e.table = t := by
  have map_ok {α : Type} {x : Except Reason α} {f : α → Entry} (hx : x.map f = .ok e) : ∃ v, f v = e := by
    cases x with
    | error r => cases hx
    | ok v => exact ⟨v, Except.ok.inj hx⟩
  cases t <;> obtain ⟨v, rfl⟩ := map_ok h <;> rfl

theorem checkEntry_table {s : State} {t : TableCode} {i : Nat} {b : List Byte} {e : Entry} (h : checkEntry s t i b = .ok e) :
    e.table = t :=
  readEntry_table (checkEntry_ok_iff.1 h).1

/-- What every entry that passes keeps when it is written or buffered, the entries of a TABLE DATA keep; and the window stays in its
table. -/
theorem handleEntries_keeps {R : State → Prop} {held : Bool} {code : TableCode}
    (hR : ∀ {s : State} {i : Nat} {b : List Byte} {e : Entry}, R s → i < tableSize code → checkEntry s code i b = .ok e →
      R (placeEntry held s i e))
    (k : Nat) (l : List (List Byte)) (d : DataRun) (hd : R d.state) (hw : d.window.wf = true) (ht : d.window.table = code) :
    R (handleEntries held k l d).state ∧ (handleEntries held k l d).window.wf = true := by
  induction l generalizing k d with
  | nil => exact ⟨hd, hw⟩
  | cons b bs ih =>
    unfold handleEntries
    split
    · exact ih _ _ hd hw ht
    · rename_i he
      have he : d.window.atEnd = false := by simpa using he
      split
      · exact ⟨hd, hw⟩
      · rename_i e hc
        have hi : d.window.pointer < tableSize code := ht ▸ d.window.pointer_lt hw he
        exact ih _ _ (hR hd hi (ht ▸ hc)) (d.window.wf_advanced hw he) ((d.window.advanced_table).trans ht)

/-- A property that the writing of a checked entry keeps, and that reads of the service block no more than the window's being in its table,
a TABLE DATA keeps. -/
theorem dataInWindow_keeps {R : State → Prop} {held : Bool} {s : State} {w : WindowValues} {p : List Byte}
    (hR : ∀ {s : State} {i : Nat} {b : List Byte} {e : Entry}, R s → i < tableSize w.table → checkEntry s w.table i b = .ok e →
      R (placeEntry held s i e))
    (hwin : ∀ {s : State} {v : WindowValues}, R s → v.wf = true → R (s.setService { s.service with window := .opened v }))
    (h : R s) (hw : w.wf = true) : R (dataInWindow held s w p).1 := by
  unfold dataInWindow
  split
  · exact h
  · dsimp only
    split; · exact h
    split; · exact h
    obtain ⟨hs, hv⟩ := handleEntries_keeps hR 1 _ (DataRun.start s w) h hw rfl
    exact hwin hs hv

/-- A TABLE DATA taken with its reply at once or held back. -/
theorem completeRequest_data {s : State} {r : Request} (hc : r.code = codeTableData) :
    completeRequest s r =
      match (tableDataTaken s r.params).2 with
      | .answered a => replyTo (tableDataTaken s r.params).1 r a
      | .held a => holdReply (tableDataTaken s r.params).1 r a := if_pos hc

/-! ### What the operations keep -/

section
variable {s : State} (h : s.InOrder)
include h

theorem State.InOrder.writeLibrary {i : Nat} {e : Option LibraryEntry} (hi : i < 32) : (writeLibrary s i e).InOrder := by
  unfold Machine.writeLibrary
  split
  · exact h.setLibrary (Table.wf_clear h.library)
  · have hs (v : LibraryEntry) : State.InOrder { s with library := Table.store s.library i v } := h.setLibrary (Table.wf_store v h.library hi)
    split
    · exact (hs _).of_sansReports (setActive_sansReports _ _ _) (by rw [setActive_library]; exact (hs _).library)
    · exact hs _

theorem State.InOrder.writeEntry {i : Nat} {e : Entry} (hi : i < tableSize e.table) : (writeEntry s i e).InOrder := by
  cases e with
  | setup f => exact h
  | channel c => exact { h with channels := Table.wf_write _ h.channels hi }
  | axis a => exact { h with axes := Table.wf_write a h.axes hi }
  | map v =>
    obtain ⟨hm, hp⟩ := writeMapPoint_wf v h.map h.nonzero hi
    exact { h with map := hm, nonzero := hp }
  | zone z => exact { h with zones := Table.wf_write z h.zones hi }
  | library l => exact h.writeLibrary hi
  | plan p => exact { h with plan := Table.wf_write p h.plan hi }

theorem State.InOrder.placeEntry {held : Bool} {i : Nat} {e : Entry} (hi : i < tableSize e.table) : (placeEntry held s i e).InOrder := by
  unfold Machine.placeEntry
  split
  · refine { h with deferred := fun p hp => ?_ }
    rcases List.mem_append.1 hp with hp | hp
    · exact h.deferred p hp
    · cases List.mem_singleton.1 hp
      exact hi
  · exact h.writeEntry hi

theorem State.InOrder.tableDataTaken {p : List Byte} : (tableDataTaken s p).1.InOrder := by
  have hd {held : Bool} {w : WindowValues} (hw : w.wf = true) : (dataInWindow held s w p).1.InOrder :=
    dataInWindow_keeps (fun h hi hc => h.placeEntry (checkEntry_table hc ▸ hi)) (fun h hv => h.setWindow hv rfl) h hw
  unfold Machine.tableDataTaken
  split
  · exact h
  · split
    · rename_i w hw
      have hwf : w.wf = true := by simpa [hw, Window.wf] using h.window
      split
      · exact hd hwf
      · exact hd hwf
    · exact h

theorem State.InOrder.changeProbe {arm : Arm} {x : Nat} : (changeProbe s arm x).1.InOrder := by
  have hs (q : Sequencer) : (suspendCapture (s.setSequencer arm q) arm).InOrder := by rw [suspendCapture_eq]; exact h
  unfold Machine.changeProbe
  split
  · exact h
  · exact h
  · unfold acceptChange
    dsimp only
    split
    · exact (hs _).of_sansReports (sansReports_of_sansMoves ((grantOpening_sansMoves _ _).trans (setRack_sansMoves _ _)))
        ((hs _).library |> (State.Catalogued.of_sansMoves ⟨·, rfl⟩ ((grantOpening_sansMoves _ _).trans (setRack_sansMoves _ _))) |>.1)
    · exact hs _

/-- The buffered entries are written. -/
theorem State.InOrder.writeAll (l : List (Nat × Entry)) (hl : ∀ p ∈ l, p.1 < tableSize p.2.table) :
    (l.foldl (fun s p => Machine.writeEntry s p.1 p.2) s).InOrder := by
  induction l generalizing s with
  | nil => exact h
  | cons p l ih => exact ih (h.writeEntry (hl p List.mem_cons_self)) fun q hq => hl q (List.mem_cons_of_mem _ hq)

theorem State.InOrder.leaveProcessing : (leaveProcessing s).InOrder := by
  obtain ⟨_, hservice, _⟩ := writeDeferred_frame (s.setLink { s.link with returnInProcessing := false })
  have ha := State.InOrder.writeAll (s := s.setLink { s.link with returnInProcessing := false }) h s.service.deferred h.deferred
  have hw : (writeDeferred (s.setLink { s.link with returnInProcessing := false })).InOrder :=
    { ha with
      window := by rw [hservice]; exact h.window
      deferred := fun _ hp => absurd hp List.not_mem_nil }
  obtain ⟨rest, _, e⟩ := releaseHeldReply_form (writeDeferred (s.setLink { s.link with returnInProcessing := false }))
  rw [Machine.leaveProcessing, e]
  exact hw

theorem State.InOrder.aged (read : List Nat) : State.InOrder { s with channels := s.channels.map (agedChannel read) } := by
  have hk : (s.channels.map (agedChannel read)).map Prod.fst = s.channels.map Prod.fst := by
    rw [List.map_map]
    refine List.map_congr_left fun p _ => ?_
    simp only [Function.comp, agedChannel]
    split <;> rfl
  exact { h with channels := (Table.wf_congr hk).trans h.channels }

omit h in
theorem restartArm_core (s : State) (arm : Arm) : (restartArm s arm).core = s.core := by
  unfold restartArm
  dsimp only
  split <;> rfl

theorem State.InOrder.restartRun : (restartRun s).InOrder := by
  have h1 : (restartArm (restartArm (restartNotices s) .a) .b).InOrder :=
    h.of_core ((restartArm_core _ _).trans (restartArm_core _ _))
  have hk : (restartChannels (restartArm (restartArm (restartNotices s) .a) .b).channels).map Prod.fst =
      (restartArm (restartArm (restartNotices s) .a) .b).channels.map Prod.fst := by
    rw [restartChannels, List.map_map]
    rfl
  exact { h1 with
    channels := (Table.wf_congr hk).trans h1.channels
    window := rfl
    deferred := fun _ hp => absurd hp List.not_mem_nil }

end

/-- The tables, the window and the buffer are kept in order. -/
theorem kept_inOrder : Kept State.InOrder where
  core := State.InOrder.of_core
  reset := (State.inOrder_iff _).1 (by decide)
  channel := fun d he h => { h with channels := Table.wf_store_of_entry h.channels he d }
  aged := fun read h => h.aged read
  plan := fun d he h => { h with plan := Table.wf_store_of_entry h.plan he d }
  fails := fun {s} arm c h => h.of_sansReports (failChange_sansReports s arm c)
    (State.Catalogued.failChange (keys := s.library.map catalogueKey) ⟨h.library, rfl⟩).1
  leaves := fun {s} arm h => h.of_sansReports (sansReports_of_sansMoves (leavingTest_sansMoves s arm))
    (State.Catalogued.of_sansMoves (keys := s.library.map catalogueKey) ⟨h.library, rfl⟩ (leavingTest_sansMoves s arm)).1
  reported := fun {s} arm r h => h.of_sansReports (libraryReport_sansReports s arm r)
    (State.Catalogued.libraryReport (keys := s.library.map catalogueKey) ⟨h.library, rfl⟩).1
  outcome := fun {s} m o h => h.of_sansReports (takeOutcome_sansReports s m o)
    (State.Catalogued.takeOutcome (keys := s.library.map catalogueKey) ⟨h.library, rfl⟩).1
  changes := fun _ _ h => h.changeProbe
  opens := fun {s} p h => by
    rcases openWindow_cases s p with e | ⟨w, hw, e⟩ <;> rw [e]
    · exact h
    · exact h.setWindow hw rfl
  breaks := fun h => h.setWindow (Window.wf_broke h.window) rfl
  continues := fun hw h => h.setWindow (by simpa [hw, Window.wf] using h.window) rfl
  data := fun {s r} hc h => by
    rw [completeRequest_data hc]
    split
    · exact h.tableDataTaken.of_core (placeTx_core _ _ _)
    · exact h.tableDataTaken
  restarts := fun h => h.restartRun

end Sys2Proof.Machine
end

section
/-! Between two steps no return frame is in processing, nothing is buffered and no reply is held back (log 10). -/

namespace Sys2Proof.Machine

/-- `State.betweenFrames`, part by part. -/
structure State.Quiet (s : State) : Prop where
  processing : s.link.returnInProcessing = false
  deferred : s.service.deferred = []
  heldReply : s.service.heldReply = none

theorem State.quiet_iff (s : State) : s.betweenFrames = true ↔ s.Quiet := by
  simp only [State.betweenFrames, Bool.and_eq_true, Bool.not_eq_true', List.isEmpty_iff, Option.isNone_iff_eq_none]
  exact ⟨fun ⟨⟨p, d⟩, h⟩ => ⟨p, d, h⟩, fun ⟨p, d, h⟩ => ⟨⟨p, d⟩, h⟩⟩

/-- A TABLE DATA written at once leaves link block and service block. -/
theorem handleEntries_frame (k : Nat) (l : List (List Byte)) (d : DataRun) :
    (handleEntries false k l d).state.link = d.state.link ∧ (handleEntries false k l d).state.service = d.state.service := by
  induction l generalizing k d with
  | nil => exact ⟨rfl, rfl⟩
  | cons b bs ih =>
    unfold handleEntries
    split
    · exact ih _ _
    · split
      · exact ⟨rfl, rfl⟩
      · rename_i e _
        obtain ⟨hl, hs⟩ := ih (k + 1) { d with
          state := placeEntry false d.state d.window.pointer e, window := d.window.advanced, written := d.written + 1 }
        obtain ⟨hl', hs', _⟩ := writeEntry_frame d.state d.window.pointer e
        exact ⟨hl.trans hl', hs.trans hs'⟩

/-- A TABLE DATA written at once changes no more of link block and service block than the window. -/
theorem dataInWindow_frame (s : State) (w : WindowValues) (p : List Byte) :
    (dataInWindow false s w p).1.link = s.link ∧ ∃ v, (dataInWindow false s w p).1.service = { s.service with window := v } := by
  unfold dataInWindow
  split
  · exact ⟨rfl, _, rfl⟩
  · dsimp only
    split; · exact ⟨rfl, _, rfl⟩
    split; · exact ⟨rfl, _, rfl⟩
    obtain ⟨hl, hs⟩ := handleEntries_frame 1 _ (DataRun.start s w)
    exact ⟨hl, _, by rw [State.setService_service, hs]; rfl⟩

namespace State.Quiet

variable {s t : State} (h : s.Quiet)
include h

theorem of_blocks (hl : t.link.returnInProcessing = s.link.returnInProcessing) (hd : t.service.deferred = s.service.deferred)
    (hr : t.service.heldReply = s.service.heldReply) : t.Quiet :=
  ⟨hl.trans h.processing, hd.trans h.deferred, hr.trans h.heldReply⟩

theorem of_core (e : t.core = s.core) : t.Quiet :=
  have f {α : Type} (g : State → α) : g t.core = g s.core := congrArg g e
  h.of_blocks (f fun s => s.link.returnInProcessing) (f fun s => s.service.deferred) (f fun s => s.service.heldReply)

theorem of_sansReports (e : t.sansReports = s.sansReports) : t.Quiet :=
  have f {α : Type} (g : State → α) : g t.sansReports = g s.sansReports := congrArg g e
  h.of_blocks (f fun s => s.link.returnInProcessing) (f fun s => s.service.deferred) (f fun s => s.service.heldReply)

theorem changeProbe {arm : Arm} {x : Nat} : (changeProbe s arm x).1.Quiet := by
  have hs (q : Sequencer) : (suspendCapture (s.setSequencer arm q) arm).Quiet :=
    h.of_sansReports (suspendCapture_sansReports (s.setSequencer arm q) arm)
  unfold Machine.changeProbe
  split
  · exact h
  · exact h.of_core rfl
  · unfold acceptChange
    dsimp only
    split
    · exact (hs _).of_sansReports (sansReports_of_sansMoves ((grantOpening_sansMoves _ _).trans (setRack_sansMoves _ _)))
    · exact (hs _).of_sansReports (setRack_sansReports _ _)

theorem data {r : Request} (hc : r.code = codeTableData) : (completeRequest s r).Quiet := by
  have taken : ∃ a, (tableDataTaken s r.params).2 = .answered a ∧ (tableDataTaken s r.params).1.Quiet := by
    unfold tableDataTaken
    simp only [h.heldReply, h.processing, Option.isSome_none, Bool.false_eq_true, if_false, Bool.and_false]
    split
    · rename_i w _
      obtain ⟨hl, v, hv⟩ := dataInWindow_frame s w r.params
      exact ⟨_, rfl, h.of_blocks (by rw [hl]) (by rw [hv]) (by rw [hv])⟩
    · exact ⟨_, rfl, h⟩
  obtain ⟨a, ha, hq⟩ := taken
  rw [completeRequest_data hc, ha]
  exact hq.of_core (placeTx_core _ _ _)

theorem restartRun : (restartRun s).Quiet := by
  have h1 : (restartArm (restartArm (restartNotices s) .a) .b).Quiet := h.of_core ((restartArm_core _ _).trans (restartArm_core _ _))
  exact ⟨h1.processing, rfl, h1.heldReply⟩

end State.Quiet

theorem kept_quiet : Kept State.Quiet where
  core := State.Quiet.of_core
  reset := ⟨rfl, rfl, rfl⟩
  channel := fun _ _ h => h.of_blocks rfl rfl rfl
  aged := fun _ h => h.of_blocks rfl rfl rfl
  plan := fun _ _ h => h.of_blocks rfl rfl rfl
  fails := fun arm c h => h.of_sansReports (failChange_sansReports _ arm c)
  leaves := fun arm h => h.of_sansReports (sansReports_of_sansMoves (leavingTest_sansMoves _ arm))
  reported := fun arm r h => h.of_sansReports (libraryReport_sansReports _ arm r)
  outcome := fun m o h => h.of_sansReports (takeOutcome_sansReports _ m o)
  changes := fun _ _ h => h.changeProbe
  opens := fun {s} p h => by
    rcases openWindow_cases s p with e | ⟨w, _, e⟩ <;> rw [e]
    · exact h
    · exact h.of_blocks rfl rfl rfl
  breaks := fun h => h.of_blocks rfl rfl rfl
  continues := fun _ h => h.of_blocks rfl rfl rfl
  data := fun hc h => h.data hc
  restarts := fun h => h.restartRun

/-- Nothing is asked of the part within a return frame: its end writes the buffer and releases the reply whatever they hold (R40). -/
theorem keptByReturn_quiet : KeptByReturn State.Quiet fun _ => True where
  outside := kept_quiet
  inside := by constructor <;> intros <;> trivial
  enters := fun _ _ => trivial
  ends := fun {s} _ => by
    obtain ⟨rest, _, hl, hs, _⟩ := leaveProcessing_frame s
    exact ⟨by rw [hl], by rw [hs], by rw [hs]⟩

theorem keptByReturn_inOrder : KeptByReturn State.InOrder State.InOrder where
  outside := kept_inOrder
  inside := kept_inOrder
  enters := fun _ h => h
  ends := fun h => h.leaveProcessing

end Sys2Proof.Machine
end

section
/-! The library and the active probe records agree (R109, R110, R136). A report or a change may part them while it is carried out: an arm
whose entry was taken away, or whose sequencer is about to leave its state; each lemma says what is left then. -/

namespace Sys2Proof.Machine

/-! ### The invariant, arm by arm -/

/-- The location of the entry in use at an index. -/
def locationAt (t : Table LibraryEntry) (i : Nat) : Option Location := (Table.entry t i).map LibraryEntry.location

/-- An arm's record is KNOWN with exactly the index of the entry that is MOUNTED on it (R109). -/
def State.Matched (s : State) (arm : Arm) : Prop := ∀ i, s.active.get arm = .known i ↔ locationAt s.library i = some (.mounted arm)

/-- No entry is MOUNTED on the arm. -/
def State.Bare (s : State) (arm : Arm) : Prop := ∀ i, locationAt s.library i ≠ some (.mounted arm)

/-- An arm whose change carries no probe has none on record (R136). -/
def State.HeadFree (s : State) (arm : Arm) : Prop := (s.sequencer.get arm).headEmpty = true → s.active.get arm = .none

/-- Library and records agree. -/
structure State.Agrees (s : State) : Prop where
  unique : libraryUnique s.library = true
  matched : ∀ arm, s.Matched arm
  headFree : ∀ arm, s.HeadFree arm
  deferred : ∀ p ∈ s.service.deferred, p.2.table.heldBack = true

theorem State.mountedOk_iff {s : State} (hl : Table.wf 32 s.library = true) (arm : Arm) : s.mountedOk arm = true ↔ s.Matched arm := by
  simp only [State.mountedOk, Bool.and_eq_true, List.all_eq_true, beq_iff_eq]
  constructor
  · rintro ⟨hall, hknown⟩ i
    constructor
    · intro hi
      simp only [hi, Option.isSome_iff_exists] at hknown
      obtain ⟨e, he⟩ := hknown
      have := hall (i, e) (Table.mem_of_entry he)
      simp only [hi, beq_self_eq_true, beq_iff_eq] at this
      simp [locationAt, he, this]
    · intro hi
      obtain ⟨e, he, hm⟩ := Option.map_eq_some_iff.1 hi
      have := hall (i, e) (Table.mem_of_entry he)
      simpa [hm] using this.symm
  · intro h
    refine ⟨fun p hp => ?_, ?_⟩
    · have he : Table.entry s.library p.1 = some p.2 := (Table.entry_iff_mem hl).2 hp
      rw [Bool.eq_iff_iff, beq_iff_eq, beq_iff_eq, h p.1, locationAt, he]
      simp
    · split
      · rename_i i hi
        obtain ⟨e, he, _⟩ := Option.map_eq_some_iff.1 ((h i).1 hi)
        simp [he]
      · rfl

theorem State.headEmptyOk_iff (s : State) (arm : Arm) : s.headEmptyOk arm = true ↔ s.HeadFree arm := by
  unfold State.headEmptyOk State.HeadFree
  cases (s.sequencer.get arm).headEmpty <;> simp

theorem State.agrees_iff {s : State} (hl : Table.wf 32 s.library = true) : s.libraryInv = true ↔ s.Agrees := by
  simp only [State.libraryInv, Bool.and_eq_true, State.mountedOk_iff hl, State.headEmptyOk_iff,
    List.all_eq_true (p := fun p : Nat × Entry => _)]
  constructor
  · rintro ⟨⟨⟨⟨⟨u, ma⟩, mb⟩, fa⟩, fb⟩, d⟩
    exact ⟨u, Arm.forall_iff.2 ⟨ma, mb⟩, Arm.forall_iff.2 ⟨fa, fb⟩, d⟩
  · rintro ⟨u, m, f, d⟩
    exact ⟨⟨⟨⟨⟨u, m .a⟩, m .b⟩, f .a⟩, f .b⟩, d⟩

/-- Uniqueness reads the catalogue alone. -/
theorem libraryUnique_congr {t u : Table LibraryEntry} (h : t.map catalogueKey = u.map catalogueKey) :
    libraryUnique t = libraryUnique u := by
  induction t generalizing u with
  | nil =>
    cases u with
    | nil => rfl
    | cons q u => simp at h
  | cons p t ih =>
    cases u with
    | nil => simp at h
    | cons q u =>
      obtain ⟨hk, hr⟩ := List.cons.inj h
      obtain ⟨_, hid, hhome⟩ : p.1 = q.1 ∧ p.2.identity = q.2.identity ∧ p.2.home = q.2.home := by simpa [catalogueKey] using hk
      have hall : ∀ (test : Nat × Nat × Option Nat → Bool), t.all (test ∘ catalogueKey) = u.all (test ∘ catalogueKey) := by
        intro test
        rw [← List.all_map, ← List.all_map, hr]
      have := hall fun x => x.2.1 != q.2.identity && (q.2.home.isNone || x.2.2 != q.2.home)
      simp only [libraryUnique, ih hr, hid, hhome]
      exact congrArg (· && libraryUnique u) this

/-! ### Arms -/

theorem Arm.forall_of_other {Q : Arm → Prop} (arm : Arm) (h : Q arm) (ho : Q (otherArm arm)) : ∀ x, Q x := by
  intro x
  by_cases e : x = arm
  · exact e ▸ h
  · exact eq_otherArm_of_ne e ▸ ho

/-! ### Locations and records -/

@[simp] theorem setActive_sequencer (s : State) (arm : Arm) (r : ActiveProbe) : (setActive s arm r).sequencer = s.sequencer := by
  rw [setActive_eq]

@[simp] theorem modifyEntry_sequencer (s : State) (i : Nat) (f : LibraryEntry → LibraryEntry) :
    (modifyEntry s i f).sequencer = s.sequencer := by
  unfold modifyEntry
  split <;> rfl

@[simp] theorem modifyEntry_service (s : State) (i : Nat) (f : LibraryEntry → LibraryEntry) :
    (modifyEntry s i f).service = s.service := by
  unfold modifyEntry
  split <;> rfl

theorem locationAt_modifyEntry (s : State) (i j : Nat) (f : LibraryEntry → LibraryEntry) :
    locationAt (modifyEntry s i f).library j =
      if j = i then (Table.entry s.library i).map fun e => (f e).location else locationAt s.library j := by
  split
  · rename_i e
    subst e
    cases hj : Table.entry s.library j with
    | none => simp [modifyEntry_of_none f hj, locationAt, hj]
    | some e => simp [locationAt, modifyEntry_entry_same f hj]
  · rename_i hne
    rw [locationAt, modifyEntry_entry_ne s f hne, locationAt]

theorem locationAt_setLocation (s : State) (i j : Nat) (l : Location) :
    locationAt (setLocation s i l).library j = if j = i then (Table.entry s.library i).map fun _ => l else locationAt s.library j :=
  locationAt_modifyEntry s i j _

/-- Matching reads library and record of the arm alone. -/
theorem State.Matched.congr {s t : State} {arm : Arm} (h : s.Matched arm) (ha : t.active.get arm = s.active.get arm)
    (hl : ∀ i, locationAt t.library i = some (.mounted arm) ↔ locationAt s.library i = some (.mounted arm)) : t.Matched arm :=
  fun i => by rw [ha, hl i]; exact h i

/-- An arm without a KNOWN record has no entry mounted, and one without an entry mounted no KNOWN record. -/
theorem State.Matched.bare {s : State} {arm : Arm} (h : s.Matched arm) (hn : ∀ i, s.active.get arm ≠ .known i) : s.Bare arm :=
  fun i hi => hn i ((h i).2 hi)

theorem State.Bare.matched {s : State} {arm : Arm} (h : s.Bare arm) (hn : ∀ i, s.active.get arm ≠ .known i) : s.Matched arm :=
  fun i => ⟨fun e => absurd e (hn i), fun e => absurd e (h i)⟩

/-- An entry that is not MOUNTED on an arm is put at a place that is not on it either. -/
theorem locationAt_setLocation_iff {s : State} {i : Nat} {l : Location} {arm : Arm} (hl : l ≠ .mounted arm)
    (hi : locationAt s.library i ≠ some (.mounted arm)) (j : Nat) :
    locationAt (setLocation s i l).library j = some (.mounted arm) ↔ locationAt s.library j = some (.mounted arm) := by
  rw [locationAt_setLocation]
  split
  · rename_i e
    subst e
    simp [hi, hl]
  · rfl

/-- The entry of a KNOWN record is put elsewhere: the arm is bare, and the other arm matches as before. -/
theorem State.Matched.unseat {s : State} {arm : Arm} (h : s.Matched arm) (ho : s.Matched (otherArm arm)) {i : Nat} {l : Location}
    (hi : s.active.get arm = .known i) (hl : ∀ x, l ≠ .mounted x) :
    (setLocation s i l).Bare arm ∧ (setLocation s i l).Matched (otherArm arm) := by
  refine ⟨fun j hj => ?_, ho.congr (by simp [setLocation]) (locationAt_setLocation_iff (hl _) ?_)⟩
  · rw [locationAt_setLocation] at hj
    split at hj
    · obtain ⟨_, _, e⟩ := Option.map_eq_some_iff.1 hj
      exact hl _ e
    · rename_i hne
      have := (h j).2 hj
      rw [hi] at this
      exact hne (ActiveProbe.known.inj this).symm
  · rw [(h i).1 hi]
    simp [(otherArm_ne arm).symm]

/-- An entry that is not on the other arm is mounted on a bare arm and made its record. -/
theorem State.Bare.seat {s : State} {arm : Arm} (h : s.Bare arm) (ho : s.Matched (otherArm arm)) {i : Nat} {e : LibraryEntry}
    {f : LibraryEntry → LibraryEntry} (he : Table.entry s.library i = some e) (hf : (f e).location = .mounted arm)
    (hi : e.location ≠ .mounted (otherArm arm)) (x : Arm) : (setActive (modifyEntry s i f) arm (.known i)).Matched x := by
  have hloc (j : Nat) : locationAt (modifyEntry s i f).library j = if j = i then some (.mounted arm) else locationAt s.library j := by
    rw [locationAt_modifyEntry]
    simp [he, hf]
  refine Arm.forall_of_other arm (fun j => ?_) (ho.congr (by simp) fun j => ?_) x
  · rw [setActive_library, hloc]
    simp only [setActive_active, modifyEntry_active, PerArm.get_put_same, ActiveProbe.known.injEq]
    split
    · rename_i e
      simp [e]
    · rename_i hne
      simp [Ne.symm hne, h j]
  · rw [setActive_library, hloc]
    split
    · rename_i e
      subst e
      simp [locationAt, he, hi, (otherArm_ne arm).symm]
    · rfl

/-- An arm's record is made anything but KNOWN: matched, when the arm is bare. -/
theorem State.Bare.setActive {s : State} {arm : Arm} (h : s.Bare arm) (ho : s.Matched (otherArm arm)) {r : ActiveProbe}
    (hr : ∀ i, r ≠ .known i) (x : Arm) : (setActive s arm r).Matched x := by
  refine Arm.forall_of_other arm (State.Bare.matched (fun i => ?_) (by simpa using hr)) (ho.congr (by simp) fun i => ?_) x
  · rw [setActive_library]; exact h i
  · rw [setActive_library]

/-- An entry on the other arm is taken away from it (R114). -/
theorem State.Bare.takeFromOther {s : State} {arm : Arm} (h : s.Bare arm) (ho : s.Matched (otherArm arm)) {i identity : Nat}
    (hi : locationAt s.library i = some (.mounted (otherArm arm))) (x : Arm) : (takeFromOther s arm i identity).Matched x := by
  have hbare : (setLocation s i .lost).Bare arm := fun j => by
    rw [Ne, locationAt_setLocation_iff (l := .lost) (by simp) (by simp [hi, (otherArm_ne arm)]) j]
    exact h j
  have hother : (setLocation s i .lost).Bare (otherArm arm) := by
    intro j hj
    rw [locationAt_setLocation] at hj
    split at hj
    · obtain ⟨_, _, e⟩ := Option.map_eq_some_iff.1 hj
      cases e
    · rename_i hne
      have h1 := (ho j).2 hj
      rw [(ho i).2 hi] at h1
      exact hne (ActiveProbe.known.inj h1).symm
  have hm : (Machine.setActive (setLocation s i .lost) (otherArm arm) .none).Matched (otherArm arm) :=
    State.Bare.matched (fun j => by rw [setActive_library]; exact hother j) (by simp)
  refine State.Bare.setActive (s := (Machine.setActive (setLocation s i .lost) (otherArm arm) .none).raise _ _ _) (fun j => ?_) hm
    (by simp) x
  rw [State.raise_library, setActive_library]
  exact hbare j

theorem findIdentity_entry {s : State} (hl : Table.wf 32 s.library = true) {identity i : Nat} {e : LibraryEntry}
    (h : findIdentity s identity = some (i, e)) : Table.entry s.library i = some e :=
  (Table.entry_iff_mem hl).2 (List.mem_of_find?_eq_some h)

/-- The lookup of a manual mount, on a bare arm (R113, R114). -/
theorem State.Bare.mountIdentity {s : State} {arm : Arm} (hl : Table.wf 32 s.library = true) (h : s.Bare arm)
    (ho : s.Matched (otherArm arm)) (identity : Nat) (x : Arm) : (mountIdentity s arm identity).Matched x := by
  unfold Machine.mountIdentity
  split
  · rename_i i e hf
    have he := findIdentity_entry hl hf
    split
    · rename_i hm
      exact h.takeFromOther ho (by simp [locationAt, he, hm]) x
    · rename_i hm
      unfold mountSuspect
      exact h.seat ho he rfl hm x
  · exact h.setActive ho (by simp) x

/-- Step 1 of a manual mount leaves the arm bare (R113). -/
theorem loseOldProbe_bare {s : State} {arm : Arm} (h : ∀ x, s.Matched x) :
    (loseOldProbe s arm).Bare arm ∧ (loseOldProbe s arm).Matched (otherArm arm) := by
  unfold loseOldProbe
  split
  · rename_i i hi
    exact (h arm).unseat (h _) hi (by simp)
  · rename_i hn
    exact ⟨(h arm).bare fun i e => hn i e, h _⟩

/-- A mount change leaves library and records matched (R112 to R114). -/
theorem mountChange_matched {s : State} {arm : Arm} (hl : Table.wf 32 s.library = true) (h : ∀ x, s.Matched x) (r : ProbeReport)
    (x : Arm) : (mountChange s arm r).Matched x := by
  unfold mountChange detachedMount manualMount
  split
  · split
    · rename_i i hi
      obtain ⟨hb, ho⟩ := (h arm).unseat (h _) hi (l := .lost) (by simp)
      exact hb.setActive ho (by simp) x
    · rename_i hi
      exact ((h arm).bare (by simp [hi])).setActive (h _) (by simp) x
    · exact h x
  · obtain ⟨hb, ho⟩ := loseOldProbe_bare (arm := arm) h
    refine State.Bare.mountIdentity ?_ hb ho _ x
    unfold loseOldProbe
    split
    · exact (State.Catalogued.setLocation (keys := s.library.map catalogueKey) ⟨hl, rfl⟩).1
    · exact hl

/-- A mount change on an arm leaves the other arm's record, or makes it NONE (R114). -/
theorem mountIdentity_other (s : State) (arm : Arm) (identity : Nat) :
    (mountIdentity s arm identity).active.get (otherArm arm) = s.active.get (otherArm arm) ∨
      (mountIdentity s arm identity).active.get (otherArm arm) = .none := by
  unfold mountIdentity
  split
  · split
    · exact .inr (by simp [takeFromOther])
    · exact .inl (by simp [mountSuspect])
  · exact .inl (by simp)

theorem mountChange_other (s : State) (arm : Arm) (r : ProbeReport) :
    (mountChange s arm r).active.get (otherArm arm) = s.active.get (otherArm arm) ∨
      (mountChange s arm r).active.get (otherArm arm) = .none := by
  unfold mountChange detachedMount manualMount
  split
  · split
    · exact .inl (by simp [setLocation])
    · exact .inl (by simp)
    · exact .inl rfl
  · simpa using mountIdentity_other (loseOldProbe s arm) arm _

/-- It leaves the sequencers. -/
theorem mountIdentity_sequencer (s : State) (arm : Arm) (identity : Nat) : (mountIdentity s arm identity).sequencer = s.sequencer := by
  unfold mountIdentity takeFromOther mountSuspect
  split
  · split <;> simp [setLocation]
  · simp

theorem mountChange_sequencer (s : State) (arm : Arm) (r : ProbeReport) : (mountChange s arm r).sequencer = s.sequencer := by
  unfold mountChange detachedMount manualMount loseOldProbe
  split
  · split <;> simp [setLocation]
  · split <;> simp [mountIdentity_sequencer, setLocation]

end Sys2Proof.Machine
end

section
/-! What the sequencers' moves do to the agreement of library and records: nothing, but that an arm may leave a state in which its head is
empty (R136). -/

namespace Sys2Proof.Machine

/-- The locations on the arms, the records and the buffer are the same, and no further arm's head is empty. -/
structure State.Eases (s t : State) : Prop where
  located : ∀ i arm, locationAt t.library i = some (.mounted arm) ↔ locationAt s.library i = some (.mounted arm)
  active : t.active = s.active
  deferred : t.service.deferred = s.service.deferred
  headEmpty : ∀ arm, (t.sequencer.get arm).headEmpty = true → (s.sequencer.get arm).headEmpty = true

/-- The same, and the head of an arm is none that its change has emptied. -/
def State.Frees (s : State) (arm : Arm) (t : State) : Prop := s.Eases t ∧ (t.sequencer.get arm).headEmpty = false

namespace State.Eases

theorem refl (s : State) : s.Eases s := ⟨fun _ _ => .rfl, rfl, rfl, fun _ h => h⟩

theorem trans {s t u : State} (h : s.Eases t) (k : t.Eases u) : s.Eases u :=
  ⟨fun i arm => (k.located i arm).trans (h.located i arm), k.active.trans h.active, k.deferred.trans h.deferred,
    fun arm e => h.headEmpty arm (k.headEmpty arm e)⟩

theorem of_sansMoves {s t : State} (e : t.sansMoves = s.sansMoves)
    (h : ∀ arm, (t.sequencer.get arm).headEmpty = true → (s.sequencer.get arm).headEmpty = true) : s.Eases t :=
  have f {α : Type} (g : State → α) : g t.sansMoves = g s.sansMoves := congrArg g e
  have hl : t.library = s.library := f State.library
  ⟨fun _ _ => by rw [hl], f State.active, f fun s => s.service.deferred, h⟩

theorem raise (s : State) (kind : NoticeKind) (j : Subject) (d : Nat) : s.Eases (s.raise kind j d) := of_sansMoves rfl fun _ h => h

theorem setRack (s : State) (r : Rack) : s.Eases (s.setRack r) := of_sansMoves rfl fun _ h => h

theorem offer (s : State) (arm : Arm) (c : PortCommand) (n : Nat) : s.Eases (offer s arm c n) := setRack s _

theorem setSequencer {s : State} {arm : Arm} {q : Sequencer} (h : q.headEmpty = true → (s.sequencer.get arm).headEmpty = true) :
    s.Eases (s.setSequencer arm q) := by
  refine of_sansMoves rfl (Arm.forall_of_other arm ?_ ?_)
  · simpa using h
  · simp

theorem startPhase {s : State} {arm : Arm} {q : Sequencer} {st : SeqState}
    (h : ({ q with state := st } : Sequencer).headEmpty = true → (s.sequencer.get arm).headEmpty = true) :
    s.Eases (startPhase s arm q st) := setSequencer h

theorem enterOpening {s : State} {arm : Arm} {st : SeqState} {n : Nat}
    (h : ({ s.sequencer.get arm with state := st } : Sequencer).headEmpty = true → (s.sequencer.get arm).headEmpty = true) :
    s.Eases (enterOpening s arm st n) := (offer s arm .openPort n).trans (startPhase h)

theorem clearPortMark (s : State) (arm : Arm) : s.Eases (clearPortMark s arm) := setSequencer fun h => h

theorem grantOpening (s : State) (arm : Arm) : s.Eases (grantOpening s arm) := by
  unfold Machine.grantOpening
  dsimp only
  split
  · rename_i hq
    split
    · exact enterOpening (by simp [Sequencer.headEmpty])
    · rename_i hd _
      exact enterOpening (by simp [Sequencer.headEmpty, hq, hd])
    · exact refl s
  · exact refl s

theorem releaseRack (s : State) (arm : Arm) : s.Eases (releaseRack s arm) := by
  unfold Machine.releaseRack
  dsimp only
  split
  · exact (setRack s _).trans (grantOpening _ _)
  · exact setRack s _

end State.Eases

namespace State.Frees

theorem eases {s t u : State} {arm : Arm} (h : s.Frees arm t) (e : t.Eases u) : s.Frees arm u :=
  ⟨h.1.trans e, by simpa [h.2] using e.headEmpty arm⟩

theorem after {s t u : State} {arm : Arm} (e : s.Eases t) (h : t.Frees arm u) : s.Frees arm u := ⟨e.trans h.1, h.2⟩

theorem setSequencer (s : State) {arm : Arm} {q : Sequencer} (h : q.headEmpty = false) : s.Frees arm (s.setSequencer arm q) :=
  ⟨.setSequencer (by simp [h]), by simpa using h⟩

theorem endChange (s : State) (arm : Arm) : s.Frees arm (endChange s arm) := (setSequencer s rfl).eases (.releaseRack _ _)

theorem enterReclosing (s : State) (arm : Arm) : s.Frees arm (enterReclosing s arm) := by
  unfold Machine.enterReclosing
  dsimp only
  split
  · exact after (.offer s arm .closePort _) (setSequencer _ rfl)
  · exact endChange s arm

theorem enterClearing (s : State) (arm : Arm) : s.Frees arm (enterClearing s arm) := by
  have hc : s.Frees arm (s.setSequencer arm { s.sequencer.get arm with state := .clearing }) := setSequencer s rfl
  unfold Machine.enterClearing
  dsimp only
  split
  · exact hc
  · exact hc.eases (enterReclosing _ arm).1

theorem wayBack (s : State) (arm : Arm) : s.Frees arm (wayBack s arm) := by
  unfold Machine.wayBack
  split
  · exact enterClearing s arm
  · exact endChange s arm

theorem failPhase (s : State) (arm : Arm) (c : FailureCause) : s.Frees arm (failPhase s arm c) := by
  have hs : s.Eases ((s.setSequencer arm { s.sequencer.get arm with phaseTimer := none }).raise .changeFailed (.arm arm)
      (failureCode c)) :=
    State.Eases.trans (.setSequencer (q := { s.sequencer.get arm with phaseTimer := none }) fun h => h) (.raise _ _ _ _)
  unfold Machine.failPhase
  dsimp only
  split
  · exact after hs (setSequencer _ rfl)
  · exact after hs (wayBack _ arm)

theorem failChange (s : State) (arm : Arm) (c : FailureCause) : s.Frees arm (failChange s arm c) := by
  have hs (h : (s.sequencer.get arm).headEmpty = false) : s.Frees arm s := ⟨.refl s, h⟩
  unfold Machine.failChange
  split
  · rename_i h; exact hs (by simp [Sequencer.headEmpty, h])
  · rename_i h; exact hs (by simp [Sequencer.headEmpty, h])
  · rename_i h; exact hs (by simp [Sequencer.headEmpty, h])
  · rename_i h; exact hs (by simp [Sequencer.headEmpty, h])
  · exact after ((State.Eases.raise s _ _ _).trans (.setRack _ _)) (setSequencer _ rfl)
  · exact failPhase s arm c

end State.Frees

namespace State.Eases

theorem failChange (s : State) (arm : Arm) (c : FailureCause) : s.Eases (failChange s arm c) := (State.Frees.failChange s arm c).1

theorem endChange (s : State) (arm : Arm) : s.Eases (endChange s arm) := (State.Frees.endChange s arm).1

theorem completeChange (s : State) (arm : Arm) : s.Eases (completeChange s arm) :=
  ((State.Frees.setSequencer s rfl).1.trans (.raise _ _ _ _)).trans (.releaseRack _ _)

theorem leavingTest (s : State) (arm : Arm) : s.Eases (leavingTest s arm) := by
  have hs : s.Eases (s.setSequencer arm { s.sequencer.get arm with corridor := none }) := .setSequencer fun h => h
  unfold Machine.leavingTest leaveCorridor
  dsimp only
  split
  · split
    · rename_i hq _
      exact (hs.trans (.offer _ _ _ _)).trans (.startPhase fun _ => by simp [Machine.offer, Sequencer.headEmpty, hq])
    · exact (hs.trans (.offer _ _ _ _)).trans (.startPhase (by simp [Sequencer.headEmpty]))
    · exact hs.trans (State.Frees.enterReclosing _ arm).1
    · exact hs
  · exact refl s

/-! ### Outcomes of rack messages -/

theorem openCorridor {s : State} {arm : Arm} {st : SeqState} {kind : NoticeKind} {n : Nat}
    (h : ({ s.sequencer.get arm with state := st } : Sequencer).headEmpty = true → (s.sequencer.get arm).headEmpty = true) :
    s.Eases (openCorridor s arm st kind n) := by
  unfold Machine.openCorridor
  split
  · exact failChange s arm _
  · exact State.Eases.trans (startPhase (q := { s.sequencer.get arm with corridor := some n }) h) (raise _ _ _ _)

/-- Judging a drop puts an entry IN_RACK at LOST: none on an arm moves. -/
theorem judgeDrop (s : State) (arm : Arm) (b : Bool) : s.Eases (judgeDrop s arm b) := by
  have hs : s.Eases (s.setSequencer arm { s.sequencer.get arm with dropUnconfirmed := false }) := .setSequencer fun h => h
  unfold Machine.judgeDrop
  dsimp only
  split
  · rename_i d _
    refine hs.trans ⟨fun i x => ?_, by simp, by simp, fun x => by simp⟩
    rw [locationAt_modifyEntry]
    split
    · rename_i e
      subst e
      cases he : Table.entry s.library d.index with
      | none => simp [locationAt, he]
      | some v =>
        by_cases hv : v.location = .inRack <;> simp [locationAt, he, hv]
    · rfl
  · exact hs

theorem judgeAfterFailure (s : State) (arm : Arm) (n : Nat) (o : RackOutcome) : s.Eases (judgeAfterFailure s arm n o) := by
  unfold Machine.judgeAfterFailure
  split
  · dsimp only
    split
    · split
      · exact judgeDrop s arm _
      · exact (judgeDrop s arm _).trans (raise _ _ _ _)
    · exact refl s
  · exact refl s

/-- From a state whose head is empty the sequencer goes on to the pick, whose head is empty too (R135). -/
theorem afterDrop {s : State} {arm : Arm} (h : (s.sequencer.get arm).state = .dropClosing) : s.Eases (afterDrop s arm) := by
  unfold Machine.afterDrop
  split
  · exact enterOpening fun _ => by simp [Sequencer.headEmpty, h]
  · exact completeChange s arm

theorem dropClosingOutcome {s : State} {arm : Arm} (h : (s.sequencer.get arm).state = .dropClosing) (n : Nat) (o : RackOutcome) :
    s.Eases (dropClosingOutcome s arm n o) := by
  have hclear : s.Eases (Machine.clearPortMark s arm) := clearPortMark s arm
  have hstate : ((Machine.clearPortMark s arm).sequencer.get arm).state = .dropClosing := by simp [Machine.clearPortMark, h]
  have hjudged (b : Bool) : ((Machine.judgeDrop (Machine.clearPortMark s arm) arm b).sequencer.get arm).state = .dropClosing := by
    unfold Machine.judgeDrop
    dsimp only
    split <;> simp [hstate]
  unfold Machine.dropClosingOutcome
  dsimp only
  split
  · split
    · split
      · exact (hclear.trans (judgeDrop _ _ _)).trans (afterDrop (hjudged _))
      · exact (hclear.trans (judgeDrop _ _ _)).trans (failChange _ _ _)
    · exact hclear.trans (afterDrop hstate)
  · split
    · split
      · exact (judgeDrop _ _ _).trans (failChange _ _ _)
      · exact ((judgeDrop _ _ _).trans (failChange _ _ _)).trans (raise _ _ _ _)
    · exact failChange _ _ _
  · exact failChange _ _ _
  · exact failChange _ _ _

theorem takeOutcome (s : State) (m : RackMessage) (o : RackOutcome) : s.Eases (takeOutcome s m o) := by
  unfold Machine.takeOutcome
  split
  · unfold dropOpeningOutcome
    split
    · exact (clearPortMark s _).trans (failChange _ _ _)
    · exact failChange _ _ _
    · exact openCorridor (by simp [Sequencer.headEmpty])
    · exact failChange _ _ _
    · exact failChange _ _ _
  · rename_i hq
    unfold pickOpeningOutcome
    split
    · exact (clearPortMark s _).trans (failChange _ _ _)
    · exact openCorridor fun _ => by simp [Sequencer.headEmpty, hq]
    · exact failChange _ _ _
    · exact failChange _ _ _
    · exact failChange _ _ _
  · exact dropClosingOutcome ‹_› _ _
  · unfold pickClosingOutcome
    split
    · exact (clearPortMark s _).trans (completeChange _ _)
    · exact failChange _ _ _
    · exact failChange _ _ _
    · exact failChange _ _ _
  · unfold windingOutcome
    refine State.Eases.trans ?_ (State.Frees.wayBack _ _).1
    refine State.Eases.trans ?_ (judgeAfterFailure _ _ _ _)
    split
    · split
      · exact clearPortMark s _
      · exact refl s
    · exact refl s
  · unfold reclosingOutcome
    dsimp only
    split
    · exact (judgeAfterFailure _ _ _ _).trans (endChange _ _)
    · exact ((judgeAfterFailure _ _ _ _).trans (raise _ _ _ _)).trans (endChange _ _)
  · exact refl s

end State.Eases

end Sys2Proof.Machine
end

section
/-! Reports, changes and writes keep library and records in agreement (R110 to R114, R126, R132, R136, R137). -/

namespace Sys2Proof.Machine

/-! ### Reports -/

/-- Library and records agree, but for what the head of one arm, whose sequencer is about to leave its state, is said to be. -/
structure State.AgreesBut (s : State) (arm : Arm) : Prop where
  unique : libraryUnique s.library = true
  matched : ∀ x, s.Matched x
  headFree : s.HeadFree (otherArm arm)
  deferred : ∀ p ∈ s.service.deferred, p.2.table.heldBack = true

/-- The catalogue of a state's own library. -/
def State.keys (s : State) : List (Nat × Nat × Option Nat) := s.library.map catalogueKey

theorem State.InOrder.catalogued {s : State} (h : s.InOrder) : s.Catalogued s.keys := ⟨h.library, rfl⟩

section
variable {s t : State} (h : s.Agrees)
include h

theorem State.Agrees.unique_of (hk : t.Catalogued s.keys) : libraryUnique t.library = true :=
  (libraryUnique_congr hk.2).trans h.unique

theorem State.Agrees.eased (hk : t.Catalogued s.keys) (e : s.Eases t) : t.Agrees where
  unique := h.unique_of hk
  matched := fun arm => (h.matched arm).congr (by rw [e.active]) fun i => e.located i arm
  headFree := fun arm ha => by rw [e.active]; exact h.headFree arm (e.headEmpty arm ha)
  deferred := by rw [e.deferred]; exact h.deferred

/-- Records matched anew after a report on an arm; the other arm's record stays or becomes NONE. -/
theorem State.Agrees.but {arm : Arm} (hk : t.Catalogued s.keys) (hm : ∀ x, t.Matched x) (hq : t.sequencer = s.sequencer)
    (hs : t.sansReports = s.sansReports)
    (ho : t.active.get (otherArm arm) = s.active.get (otherArm arm) ∨ t.active.get (otherArm arm) = .none) : t.AgreesBut arm where
  unique := h.unique_of hk
  matched := hm
  headFree := fun ha => ho.elim (fun e => e.trans (h.headFree _ (hq ▸ ha))) id
  deferred := by
    have f {α : Type} (g : State → α) : g t.sansReports = g s.sansReports := congrArg g hs
    rw [show t.service = s.service from f State.service]
    exact h.deferred

end

namespace State.AgreesBut

variable {s t : State} {arm : Arm} (h : s.AgreesBut arm)
include h

theorem agrees (hf : (s.sequencer.get arm).headEmpty = false) : s.Agrees where
  unique := h.unique
  matched := h.matched
  headFree := Arm.forall_of_other arm (by simp [State.HeadFree, hf]) h.headFree
  deferred := h.deferred

/-- The sequencer leaves its state for one in which the head is not empty. -/
theorem freed (e : t.sansMoves = s.sansMoves) (f : s.Frees arm t) : t.Agrees :=
  have hf {α : Type} (g : State → α) : g t.sansMoves = g s.sansMoves := congrArg g e
  { unique := by rw [show t.library = s.library from hf State.library]; exact h.unique
    matched := fun x => (h.matched x).congr (by rw [f.1.active]) fun i => f.1.located i x
    headFree := Arm.forall_of_other arm (by simp [State.HeadFree, f.2]) fun ha => by
      rw [f.1.active]; exact h.headFree (f.1.headEmpty _ ha)
    deferred := by rw [f.1.deferred]; exact h.deferred }

theorem failChange (c : FailureCause) : (failChange s arm c).Agrees := h.freed (failChange_sansMoves s arm c) (.failChange s arm c)

theorem raise (kind : NoticeKind) (j : Subject) (d : Nat) : (s.raise kind j d).AgreesBut arm :=
  ⟨h.unique, h.matched, h.headFree, h.deferred⟩

/-- The sequencer enters a phase in which the arm's head is not said to be empty, or is. -/
theorem startPhase {q : Sequencer} {st : SeqState}
    (hn : ({ q with state := st } : Sequencer).headEmpty = true → s.active.get arm = .none) : (startPhase s arm q st).Agrees where
  unique := h.unique
  matched := h.matched
  headFree := Arm.forall_of_other arm (fun ha => hn (by rwa [Machine.startPhase, State.setSequencer_sequencer, PerArm.get_put_same] at ha))
    fun ha => h.headFree (by simpa [Machine.startPhase] using ha)
  deferred := h.deferred

end State.AgreesBut

/-- The target entry after another probe was attached: LOST, unless it is on the other arm (R137). -/
def missedTarget (arm : Arm) (e : LibraryEntry) : LibraryEntry :=
  if e.location = .mounted (otherArm arm) then e else { e with location := .lost }

theorem wrongProbeUpdate_eq (s : State) (arm : Arm) (target x : Nat) :
    wrongProbeUpdate s arm target x = mountIdentity (modifyEntry s target (missedTarget arm)) arm x := rfl

theorem missedTarget_location {arm : Arm} (e : LibraryEntry) {x : Arm} :
    (missedTarget arm e).location = .mounted x ↔ e.location = .mounted x ∧ x = otherArm arm := by
  unfold missedTarget
  split
  · rename_i he
    simp [he, eq_comm]
  · rename_i he
    simp only [reduceCtorEq, false_iff, not_and]
    exact fun e hx => he (hx ▸ e)

theorem missedTarget_bare {s : State} {arm : Arm} (h : s.Bare arm) (target : Nat) :
    (modifyEntry s target (missedTarget arm)).Bare arm := by
  intro j hj
  rw [locationAt_modifyEntry] at hj
  split at hj
  · obtain ⟨e, _, he⟩ := Option.map_eq_some_iff.1 hj
    exact otherArm_ne arm ((missedTarget_location e).1 he).2.symm
  · exact h j hj

theorem missedTarget_matched {s : State} {arm : Arm} (h : s.Matched (otherArm arm)) (target : Nat) :
    (modifyEntry s target (missedTarget arm)).Matched (otherArm arm) := by
  refine h.congr (by simp) fun j => ?_
  rw [locationAt_modifyEntry]
  split
  · rename_i e
    subst e
    cases he : Table.entry s.library j <;> simp [locationAt, he, missedTarget_location]
  · rfl

section
variable {s : State} (h : s.Agrees) (hw : s.InOrder)
include h hw

theorem State.Agrees.mountChange (arm : Arm) (r : ProbeReport) : (mountChange s arm r).AgreesBut arm :=
  h.but hw.catalogued.mountChange (mountChange_matched hw.library h.matched r) (mountChange_sequencer s arm r)
    (mountChange_sansReports s arm r) (mountChange_other s arm r)

/-- A DETACHED report in DROP_CORRIDOR (R132). -/
theorem State.Agrees.dropReleased (arm : Arm) (r : ProbeReport) : (dropReleased s arm r).Agrees := by
  unfold Machine.dropReleased
  dsimp only
  split
  · rename_i hn
    exact (h.but hw.catalogued h.matched rfl rfl (.inl rfl)).startPhase fun _ => hn
  · rename_i i hi
    split
    · obtain ⟨hb, ho⟩ := (h.matched arm).unseat (h.matched _) hi (l := .inRack) (by simp)
      refine (h.but (hw.catalogued.setLocation.setActive) (hb.setActive ho (by simp)) (by simp [setLocation])
        (by simp) (.inl (by simp [setLocation]))).startPhase fun _ => by simp
    · exact (h.mountChange hw arm r).failChange _
  · exact (h.mountChange hw arm r).failChange _

theorem State.Agrees.wrongProbeUpdate {arm : Arm} (hb : s.Bare arm) (target x : Nat) :
    (wrongProbeUpdate s arm target x).AgreesBut arm := by
  have hlib : (modifyEntry s target (missedTarget arm)).Catalogued s.keys :=
    hw.catalogued.modifyEntry fun _ => by unfold missedTarget; split <;> exact ⟨rfl, rfl⟩
  have hm := State.Bare.mountIdentity hlib.1 (missedTarget_bare hb target) (missedTarget_matched (h.matched _) target) x
  exact h.but hw.catalogued.wrongProbeUpdate hm (by simp [wrongProbeUpdate_eq, mountIdentity_sequencer])
    (wrongProbeUpdate_sansReports s arm target x)
    (by simpa [wrongProbeUpdate_eq] using mountIdentity_other (modifyEntry s target (missedTarget arm)) arm x)

/-- An ATTACHED report in PICK_CORRIDOR, the arm's head empty until now (R136, R137). -/
theorem State.Agrees.pickAttached {arm : Arm} (hq : (s.sequencer.get arm).state = .pickCorridor) (x : Nat) :
    (pickAttached s arm x).Agrees := by
  have hn : s.active.get arm = .none := h.headFree arm (by simp [Sequencer.headEmpty, hq])
  have hb : s.Bare arm := (h.matched arm).bare (by simp [hn])
  unfold Machine.pickAttached
  dsimp only
  split
  · exact h
  · rename_i t _
    split
    · exact (h.wrongProbeUpdate hw hb _ _).failChange _
    · rename_i e he
      split
      · split
        · rename_i hl
          exact ((h.but hw.catalogued.takeFromOther (hb.takeFromOther (h.matched _) (by simp [locationAt, he, hl]))
            (by simp [takeFromOther, setLocation]) (by simp [takeFromOther])
            (.inr (by simp [takeFromOther]))).raise _ _ _).failChange _
        · rename_i hl
          have hm : ∀ y, (setActive (setLocation s t.index (.mounted arm)) arm (.known t.index)).Matched y :=
            hb.seat (h.matched _) he rfl hl
          exact (h.but hw.catalogued.setLocation.setActive hm (by simp [setLocation]) (by simp)
            (.inl (by simp [setLocation]))).startPhase (by simp [Sequencer.headEmpty])
      · exact (h.wrongProbeUpdate hw hb _ _).failChange _

theorem State.Agrees.libraryReport (arm : Arm) (r : ProbeReport) : (libraryReport s arm r).Agrees := by
  have hfail : (Machine.failChange (Machine.mountChange s arm r) arm .wrongProbe).Agrees := (h.mountChange hw arm r).failChange _
  unfold Machine.libraryReport takeReport
  dsimp only
  split
  · rename_i hi
    split
    · exact h
    · exact (h.mountChange hw arm r).agrees (by simp [mountChange_sequencer, Sequencer.headEmpty, hi])
  · split
    · exact h
    · exact h.dropReleased hw arm r
    · exact h
    · split
      · exact h
      · exact h.pickAttached hw ‹_› _
    · split
      · exact h
      · exact hfail

end

/-! ### Requests -/

/-- The probe that a change has to drop, with its berth, if it has one: none to drop, or what the record says (R126). -/
def dropBerth (s : State) (arm : Arm) : Option (Option Berth) :=
  match s.active.get arm with
  | .none => some none
  | .unknown _ => none
  | .known i => ((Table.entry s.library i).bind fun e => berthOf i e).map some

theorem judgeStations_accepted {s : State} {arm : Arm} {target : Option (Nat × LibraryEntry)} {p : ChangePlan}
    (h : judgeStations s arm target = .accepted p) : dropBerth s arm = some p.drop ∧ p.target = target.bind fun e => berthOf e.1 e.2 := by
  unfold judgeStations at h
  dsimp only at h
  split at h
  · cases h
  · rename_i d hd
    split_ifs at h
    cases h
    exact ⟨hd, rfl⟩

/-- A change without a drop is accepted of an arm without a probe (R126, R127). -/
theorem dropBerth_none {s : State} {arm : Arm} (h : dropBerth s arm = some none) : s.active.get arm = .none := by
  unfold dropBerth at h
  split at h
  · assumption
  · cases h
  · obtain ⟨_, _, e⟩ := Option.map_eq_some_iff.1 h
    cases e

theorem judgeChange_accepted {s : State} {arm : Arm} {x : Nat} {p : ChangePlan} (h : judgeChange s arm x = .accepted p) :
    ∃ target, judgeStations s arm target = .accepted p := by
  unfold judgeChange at h
  split_ifs at h
  · exact ⟨_, h⟩
  · split at h
    · cases h
    · split_ifs at h
      exact ⟨_, h⟩

theorem State.Agrees.of_core {s t : State} (h : s.Agrees) (e : t.core = s.core) : t.Agrees := by
  have f {α : Type} (g : State → α) : g t.core = g s.core := congrArg g e
  have hl : t.library = s.library := f State.library
  have ha : t.active = s.active := f State.active
  have hq : t.sequencer = s.sequencer := f State.sequencer
  have hd : t.service.deferred = s.service.deferred := f fun s => s.service.deferred
  refine ⟨hl ▸ h.unique, fun arm => (h.matched arm).congr (by rw [ha]) fun i => by rw [hl], fun arm hf => ?_, hd ▸ h.deferred⟩
  rw [ha]
  exact h.headFree arm (hq ▸ hf)

/-- A sequencer is queued for a change that has been accepted. -/
theorem State.Agrees.queued {s : State} (h : s.Agrees) {arm : Arm} {p : ChangePlan} (hp : p.drop = none → s.active.get arm = .none) :
    (s.setSequencer arm { Sequencer.initial with state := .queued, drop := p.drop, target := p.target }).Agrees where
  unique := h.unique
  matched := h.matched
  headFree := Arm.forall_of_other arm (fun ha => hp (by simpa [Sequencer.headEmpty] using ha))
    fun ha => h.headFree (otherArm arm) (by simpa using ha)
  deferred := h.deferred

theorem State.Agrees.changeProbe {s : State} (h : s.Agrees) (hw : s.InOrder) (arm : Arm) (x : Nat) : (changeProbe s arm x).1.Agrees := by
  unfold Machine.changeProbe
  split
  · exact h
  · exact h.eased hw.catalogued (.raise s _ _ _)
  · rename_i p hp
    obtain ⟨target, ht⟩ := judgeChange_accepted hp
    have hq := (h.queued fun hd => dropBerth_none (hd ▸ (judgeStations_accepted ht).1)).of_core (suspendCapture_core _ arm)
    have hw' := State.InOrder.of_core (s := s.setSequencer arm { Sequencer.initial with state := .queued, drop := p.drop, target := p.target })
      hw (suspendCapture_core _ arm)
    unfold acceptChange
    dsimp only
    split
    · exact hq.eased (hw'.catalogued.of_sansMoves ((grantOpening_sansMoves _ _).trans (setRack_sansMoves _ _)))
        ((State.Eases.setRack _ _).trans (.grantOpening _ _))
    · exact hq.eased hw'.catalogued (.setRack _ _)

end Sys2Proof.Machine
end

section
/-! Written LIBRARY entries keep library and records in agreement (R33, R108 to R110), and with them every step does. -/

namespace Sys2Proof.Machine

/-! ### Unique entries -/

/-- Two entries share neither the identity nor a present home station. -/
def LibraryEntry.Differs (e f : LibraryEntry) : Prop := f.identity ≠ e.identity ∧ (e.home.isSome = true → f.home ≠ e.home)

theorem LibraryEntry.Differs.symm {e f : LibraryEntry} (h : e.Differs f) : f.Differs e :=
  ⟨Ne.symm h.1, fun hf he => h.2 (he ▸ hf) he.symm⟩

theorem libraryUnique_iff_pairwise (t : Table LibraryEntry) :
    libraryUnique t = true ↔ t.Pairwise fun p q => p.2.Differs q.2 := by
  induction t with
  | nil => simp [libraryUnique]
  | cons p t ih =>
    obtain ⟨i, e⟩ := p
    simp only [libraryUnique, Bool.and_eq_true, List.all_eq_true, List.pairwise_cons, ih]
    refine and_congr_left fun _ => forall₂_congr fun q _ => ?_
    cases he : e.home <;> simp [LibraryEntry.Differs, he]

theorem Table.nodup {α : Type} {size low : Nat} {t : Table α} (h : Table.risesFrom size low t = true) : t.Nodup := by
  induction t generalizing low with
  | nil => exact List.nodup_nil
  | cons p t ih =>
    obtain ⟨k, w⟩ := p
    simp only [Table.risesFrom, Bool.and_eq_true, decide_eq_true_eq] at h
    refine List.nodup_cons.2 ⟨fun hm => ?_, ih h.2⟩
    have := (Table.entry_of_mem h.2 hm).2.1
    omega

/-- In a library in canonical form: entries at two indices differ. -/
theorem libraryUnique_iff {t : Table LibraryEntry} (ht : Table.wf 32 t = true) :
    libraryUnique t = true ↔ ∀ i j e f, i ≠ j → Table.entry t i = some e → Table.entry t j = some f → e.Differs f := by
  rw [libraryUnique_iff_pairwise]
  constructor
  · intro h i j e f hij he hf
    have : Std.Symm fun p q : Nat × LibraryEntry => p.2.Differs q.2 := ⟨fun _ _ d => d.symm⟩
    exact h.forall (Table.mem_of_entry he) (Table.mem_of_entry hf) fun e => hij (congrArg Prod.fst e)
  · intro h
    refine (Table.nodup ht).pairwise_of_forall_ne fun p hp q hq hpq => h p.1 q.1 p.2 q.2 (fun e => hpq ?_)
      ((Table.entry_iff_mem ht).2 hp) ((Table.entry_iff_mem ht).2 hq)
    have hp' : Table.entry t p.1 = some p.2 := (Table.entry_iff_mem ht).2 hp
    have hq' : Table.entry t q.1 = some q.2 := (Table.entry_iff_mem ht).2 hq
    rw [e, hq'] at hp'
    exact Prod.ext e (Option.some.inj hp').symm

theorem libraryUnique_clear {t : Table LibraryEntry} (ht : Table.wf 32 t = true) (h : libraryUnique t = true) (i : Nat) :
    libraryUnique (Table.clear t i) = true := by
  refine (libraryUnique_iff (Table.wf_clear ht)).2 fun j k e f hjk he hf => ?_
  have old {j : Nat} {e : LibraryEntry} (he : Table.entry (Table.clear t i) j = some e) : Table.entry t j = some e := by
    by_cases hj : j = i
    · simp [hj] at he
    · rwa [Table.entry_clear_ne t hj] at he
  exact (libraryUnique_iff ht).1 h j k e f hjk (old he) (old hf)

theorem libraryUnique_store {t : Table LibraryEntry} (ht : Table.wf 32 t = true) (h : libraryUnique t = true) {i : Nat}
    {v : LibraryEntry} (hi : i < 32) (hv : ∀ j e, j ≠ i → Table.entry t j = some e → v.Differs e) :
    libraryUnique (Table.store t i v) = true := by
  refine (libraryUnique_iff (Table.wf_store v ht hi)).2 fun j k e f hjk he hf => ?_
  by_cases hj : j = i
  · have hk : k ≠ i := fun h => hjk (hj.trans h.symm)
    obtain rfl : v = e := by simpa [hj] using he
    exact hv k f hk (by rwa [Table.entry_store_ne t v hk] at hf)
  · rw [Table.entry_store_ne t v hj] at he
    by_cases hk : k = i
    · obtain rfl : v = f := by simpa [hk] using hf
      exact (hv j e hj he).symm
    · rw [Table.entry_store_ne t v hk] at hf
      exact (libraryUnique_iff ht).1 h j k e f hjk he hf

/-! ### A written entry -/

/-- A LIBRARY entry that passes takes the place of none that is mounted and shares nothing with another (R33). -/
theorem judgeEntry_library {s : State} {i : Nat} {l : Option LibraryEntry} (h : judgeEntry s i (.library l) = none) :
    (∀ arm, locationAt s.library i ≠ some (.mounted arm)) ∧
      ∀ e, l = some e → ∀ j f, j ≠ i → Table.entry s.library j = some f → e.Differs f := by
  simp only [judgeEntry] at h
  split_ifs at h with hp hu
  constructor
  · intro arm hm
    obtain ⟨e, he, hl⟩ := Option.map_eq_some_iff.1 hm
    simp [probeInvolved, he, hl, Location.isMounted] at hp
  · rintro e rfl j f hj hf
    simp only [notUnique, List.any_eq_true, not_exists, not_and] at hu
    have := hu (j, f) (Table.mem_of_entry hf)
    simp only [Bool.and_eq_true, bne_iff_ne, ne_eq, hj, not_false_iff, true_and, Bool.or_eq_true, beq_iff_eq, not_or, not_and] at this
    exact this

/-- A written location is on no arm (R108). -/
theorem writtenLocation_not_mounted {v : Nat} {l : Location} (h : writtenLocation v = some l) (arm : Arm) : l ≠ .mounted arm := by
  unfold writtenLocation at h
  split at h <;> cases h <;> simp

theorem unknownArms_of_one {s : State} {x : Nat} {arm : Arm} (h : unknownArms s x = [arm]) : s.active.get arm = .unknown x := by
  have hm : arm ∈ unknownArms s x := by simp [h]
  simpa using (List.mem_filter.1 hm).2

section
variable {s : State} (h : s.Agrees) (hw : s.InOrder)
include h

/-- What leaves library, records, sequencers and buffer leaves the agreement. -/
theorem State.Agrees.congr {t : State} (hl : t.library = s.library) (ha : t.active = s.active) (hq : t.sequencer = s.sequencer)
    (hd : ∀ p ∈ t.service.deferred, p.2.table.heldBack = true) : t.Agrees :=
  ⟨hl ▸ h.unique, fun arm => (h.matched arm).congr (by rw [ha]) fun i => by rw [hl],
    fun arm hf => by rw [ha]; exact h.headFree arm (hq ▸ hf), hd⟩

/-- The entry at an index on no arm is replaced by nothing or by an entry on no arm: no record is concerned. -/
theorem State.Agrees.replaced {l : Table LibraryEntry} {i : Nat} (hu : libraryUnique l = true)
    (hi : ∀ arm, locationAt s.library i ≠ some (.mounted arm)) (hi' : ∀ arm, locationAt l i ≠ some (.mounted arm))
    (hne : ∀ j, j ≠ i → locationAt l j = locationAt s.library j) : State.Agrees { s with library := l } where
  unique := hu
  matched := fun arm => (h.matched arm).congr rfl fun j => by
    by_cases hj : j = i
    · subst hj
      exact iff_of_false (hi' arm) (hi arm)
    · rw [hne j hj]
  headFree := h.headFree
  deferred := h.deferred

/-- The entry is bound to the arm whose UNKNOWN probe has its identity (R110). -/
theorem State.Agrees.bound {i : Nat} {arm : Arm} {v : LibraryEntry} {x : Nat} (hx : s.active.get arm = .unknown x)
    (hu : libraryUnique (Table.store s.library i v) = true) (hi : ∀ arm, locationAt s.library i ≠ some (.mounted arm))
    (hv : v.location = .mounted arm) : (setActive { s with library := Table.store s.library i v } arm (.known i)).Agrees := by
  have hloc (j : Nat) : locationAt (Table.store s.library i v) j = if j = i then some (.mounted arm) else locationAt s.library j := by
    split
    · rename_i e
      simp [locationAt, e, hv]
    · rename_i hj
      rw [locationAt, Table.entry_store_ne _ _ hj, locationAt]
  have hb : s.Bare arm := (h.matched arm).bare (by simp [hx])
  rw [setActive_eq]
  refine ⟨hu, Arm.forall_of_other arm (fun j => ?_) ((h.matched (otherArm arm)).congr (by simp) fun j => ?_),
    Arm.forall_of_other arm (fun ha => ?_) fun ha => ?_, h.deferred⟩
  · simp only [PerArm.get_put_same, ActiveProbe.known.injEq, hloc]
    split
    · rename_i e
      simp [e]
    · rename_i hj
      simp [Ne.symm hj, hb j]
  · simp only [hloc]
    split
    · rename_i e
      subst e
      simp [hi, (otherArm_ne arm).symm]
    · rfl
  · exact absurd (h.headFree arm ha) (by simp [hx])
  · simpa using h.headFree (otherArm arm) ha

include hw

theorem State.Agrees.writeLibrary {i : Nat} {l : Option LibraryEntry} (hi : i < 32) (hj : judgeEntry s i (.library l) = none)
    (hl : ∀ e, l = some e → ∀ arm, e.location ≠ .mounted arm) : (writeLibrary s i l).Agrees := by
  obtain ⟨hold, hdiffers⟩ := judgeEntry_library hj
  unfold Machine.writeLibrary
  split
  · refine h.replaced (i := i) (libraryUnique_clear hw.library h.unique i) hold (by simp [locationAt]) fun j hj => ?_
    rw [locationAt, Table.entry_clear_ne _ hj, locationAt]
  · rename_i e
    have hu (v : LibraryEntry) (hid : v.identity = e.identity) (hhome : v.home = e.home) :
        libraryUnique (Table.store s.library i v) = true := by
      refine libraryUnique_store hw.library h.unique hi fun j f hj hf => ?_
      rw [LibraryEntry.Differs, hid, hhome]
      exact hdiffers e rfl j f hj hf
    split
    · rename_i arm harm
      exact h.bound (unknownArms_of_one harm) (hu _ rfl rfl) hold rfl
    · refine h.replaced (i := i) (hu e rfl rfl) hold (fun arm => by simpa [locationAt] using hl e rfl arm) fun j hj => ?_
      rw [locationAt, Table.entry_store_ne _ _ hj, locationAt]

/-- An entry that passes its checks keeps the agreement when it is written. -/
theorem State.Agrees.writeEntry {t : TableCode} {i : Nat} {b : List Byte} {e : Entry} (hi : i < tableSize t)
    (hc : checkEntry s t i b = .ok e) : (writeEntry s i e).Agrees := by
  obtain ⟨hr, hj⟩ := checkEntry_ok_iff.1 hc
  have ht := readEntry_table hr
  subst ht
  cases e with
  | library l =>
    refine h.writeLibrary hw hi hj fun e he arm => ?_
    subst he
    have hb : readLibrary b = .ok (some e) := by
      cases hb : readLibrary b with
      | error r => simp [readEntry, Entry.table, hb, Except.map] at hr
      | ok v =>
        obtain rfl : v = some e := by simpa [readEntry, Entry.table, hb, Except.map] using hr
        rfl
    obtain ⟨_, _, _, _, hloc, _⟩ := readLibrary_some_iff.1 hb
    exact writtenLocation_not_mounted hloc arm
  | setup f => exact h.congr rfl rfl rfl h.deferred
  | channel c => exact h.congr rfl rfl rfl h.deferred
  | axis a => exact h.congr rfl rfl rfl h.deferred
  | map v => exact h.congr rfl rfl rfl h.deferred
  | zone z => exact h.congr rfl rfl rfl h.deferred
  | plan p => exact h.congr rfl rfl rfl h.deferred

end

/-! ### TABLE DATA, the end of a return frame, and RESTART RUN -/

/-- Tables in order, and library and records in agreement. -/
def State.Ordered (s : State) : Prop := s.InOrder ∧ s.Agrees

section
variable {s : State} (h : s.Ordered)
include h

theorem State.Ordered.placeEntry {held : Bool} {t : TableCode} {i : Nat} {b : List Byte} {e : Entry}
    (hheld : held = true → t.heldBack = true) (hi : i < tableSize t) (hc : checkEntry s t i b = .ok e) :
    (placeEntry held s i e).Ordered := by
  have ht := checkEntry_table hc
  refine ⟨h.1.placeEntry (ht ▸ hi), ?_⟩
  unfold Machine.placeEntry
  split
  · rename_i hh
    refine h.2.congr rfl rfl rfl fun p hp => ?_
    rcases List.mem_append.1 hp with hp | hp
    · exact h.2.deferred p hp
    · cases List.mem_singleton.1 hp
      exact ht ▸ hheld hh
  · exact h.2.writeEntry h.1 hi hc

theorem State.Ordered.tableDataTaken (p : List Byte) : (tableDataTaken s p).1.Ordered := by
  have hd {held : Bool} {w : WindowValues} (hh : held = true → w.table.heldBack = true) (hw : w.wf = true) :
      (dataInWindow held s w p).1.Ordered :=
    dataInWindow_keeps (R := State.Ordered) (fun h hi hc => h.placeEntry hh hi hc)
      (fun h hv => ⟨h.1.setWindow hv rfl, h.2.congr rfl rfl rfl h.2.deferred⟩) h hw
  unfold Machine.tableDataTaken
  split
  · exact h
  · split
    · rename_i w hw
      have hwf : w.wf = true := by simpa [hw, Window.wf] using h.1.window
      split
      · rename_i hb
        exact hd (fun _ => (Bool.and_eq_true_iff.1 hb).1) hwf
      · exact hd (fun e => absurd e (by simp)) hwf
    · exact h

end

/-- A write that is held back concerns no record. -/
theorem writeEntry_heldBack {s : State} {i : Nat} {e : Entry} (h : e.table.heldBack = true) :
    (writeEntry s i e).library = s.library ∧ (writeEntry s i e).active = s.active ∧ (writeEntry s i e).sequencer = s.sequencer := by
  cases e with
  | zone z => cases h
  | library l => cases h
  | plan p => cases h
  | setup f => exact ⟨rfl, rfl, rfl⟩
  | channel c => exact ⟨rfl, rfl, rfl⟩
  | axis a => exact ⟨rfl, rfl, rfl⟩
  | map v => exact ⟨rfl, rfl, rfl⟩

theorem writeAll_heldBack (l : List (Nat × Entry)) {s : State} (hl : ∀ p ∈ l, p.2.table.heldBack = true) :
    (l.foldl (fun s p => writeEntry s p.1 p.2) s).library = s.library ∧ (l.foldl (fun s p => writeEntry s p.1 p.2) s).active = s.active ∧
      (l.foldl (fun s p => writeEntry s p.1 p.2) s).sequencer = s.sequencer := by
  induction l generalizing s with
  | nil => exact ⟨rfl, rfl, rfl⟩
  | cons p l ih =>
    obtain ⟨h1, h2, h3⟩ := ih (s := writeEntry s p.1 p.2) fun q hq => hl q (List.mem_cons_of_mem _ hq)
    obtain ⟨k1, k2, k3⟩ := writeEntry_heldBack (s := s) (i := p.1) (hl p List.mem_cons_self)
    exact ⟨h1.trans k1, h2.trans k2, h3.trans k3⟩

section
variable {s : State} (h : s.Agrees)
include h

theorem State.Agrees.leaveProcessing : (leaveProcessing s).Agrees := by
  obtain ⟨hl, ha, hq⟩ := writeAll_heldBack s.service.deferred (s := s.setLink { s.link with returnInProcessing := false }) h.deferred
  have hw : (writeDeferred (s.setLink { s.link with returnInProcessing := false })).Agrees :=
    h.congr hl ha hq fun _ hp => absurd hp List.not_mem_nil
  obtain ⟨rest, _, e⟩ := releaseHeldReply_form (writeDeferred (s.setLink { s.link with returnInProcessing := false }))
  rw [Machine.leaveProcessing, e]
  exact hw.congr rfl rfl rfl hw.deferred

theorem State.Agrees.restartRun : (restartRun s).Agrees := by
  have h1 : (restartArm (restartArm (restartNotices s) .a) .b).Agrees := h.of_core ((restartArm_core _ _).trans (restartArm_core _ _))
  exact
    { unique := h1.unique
      matched := h1.matched
      headFree := Arm.forall_iff.2 ⟨fun e => absurd e Bool.false_ne_true, fun e => absurd e Bool.false_ne_true⟩
      deferred := fun _ hp => absurd hp List.not_mem_nil }

end

/-- Tables, library and records are kept. -/
theorem kept_ordered : Kept State.Ordered where
  core := fun h e => ⟨h.1.of_core e, h.2.of_core e⟩
  reset := ⟨kept_inOrder.reset, (State.agrees_iff rfl).1 (by decide)⟩
  channel := fun d he h => ⟨kept_inOrder.channel d he h.1, h.2.congr rfl rfl rfl h.2.deferred⟩
  aged := fun read h => ⟨kept_inOrder.aged read h.1, h.2.congr rfl rfl rfl h.2.deferred⟩
  plan := fun d he h => ⟨kept_inOrder.plan d he h.1, h.2.congr rfl rfl rfl h.2.deferred⟩
  fails := fun arm c h => ⟨kept_inOrder.fails arm c h.1, h.2.eased h.1.catalogued.failChange (.failChange _ arm c)⟩
  leaves := fun arm h =>
    ⟨kept_inOrder.leaves arm h.1, h.2.eased (h.1.catalogued.of_sansMoves (leavingTest_sansMoves _ arm)) (.leavingTest _ arm)⟩
  reported := fun arm r h => ⟨kept_inOrder.reported arm r h.1, h.2.libraryReport h.1 arm r⟩
  outcome := fun m o h => ⟨kept_inOrder.outcome m o h.1, h.2.eased h.1.catalogued.takeOutcome (.takeOutcome _ m o)⟩
  changes := fun arm x h => ⟨kept_inOrder.changes arm x h.1, h.2.changeProbe h.1 arm x⟩
  opens := fun {s} p h => ⟨kept_inOrder.opens p h.1, by
    rcases openWindow_cases s p with e | ⟨w, _, e⟩ <;> rw [e]
    · exact h.2
    · exact h.2.congr rfl rfl rfl h.2.deferred⟩
  breaks := fun h => ⟨kept_inOrder.breaks h.1, h.2.congr rfl rfl rfl h.2.deferred⟩
  continues := fun hw h => ⟨kept_inOrder.continues hw h.1, h.2.congr rfl rfl rfl h.2.deferred⟩
  data := fun {s r} hc h => by
    rw [completeRequest_data hc]
    have ht := h.tableDataTaken r.params
    split
    · exact ⟨ht.1.of_core (placeTx_core _ _ _), ht.2.of_core (placeTx_core _ _ _)⟩
    · exact ⟨ht.1, ht.2.congr rfl rfl rfl ht.2.deferred⟩
  restarts := fun h => ⟨kept_inOrder.restarts h.1, h.2.restartRun⟩

theorem keptByReturn_ordered : KeptByReturn State.Ordered State.Ordered where
  outside := kept_ordered
  inside := kept_ordered
  enters := fun _ h => ⟨h.1, h.2.congr rfl rfl rfl h.2.deferred⟩
  ends := fun h => ⟨h.1.leaveProcessing, h.2.leaveProcessing⟩

/-- Settles O56: three inductions over all that a step can do, each over the operations on tables, library and records alone. -/
theorem stepKeepsTables : Obligations.StepKeepsTables := by
  refine ⟨fun s t h ht => ?_, fun s t h ht => ?_, fun s t h hl ht => ?_⟩
  · exact (t.inOrder_iff).2 (keptByReturn_inOrder.step ((s.inOrder_iff).1 h) ht)
  · exact (t.quiet_iff).2 (keptByReturn_quiet.step ((s.quiet_iff).1 h) ht)
  · have hs := (s.inOrder_iff).1 h
    have hk := keptByReturn_ordered.step (s := s) ⟨hs, (State.agrees_iff hs.library).1 hl⟩ ht
    exact (State.agrees_iff hk.1.library).2 hk.2

/-- Settles O55: the reset state is one state, and each invariant is evaluated on it. -/
theorem resetMeetsInvariants : Obligations.ResetMeetsInvariants := by
  unfold Obligations.ResetMeetsInvariants
  decide

end Sys2Proof.Machine
end

section
/-! What a request row does when the service block takes its request: its form, its rules, its reply (R25 to R27, R41). The rules of each
request stand in the files after this one. -/

namespace Sys2Proof.Machine

/-! ### Parameter bytes -/

@[simp] theorem uField_cons (b : Byte) (bs : List Byte) (o w : Nat) : uField (b :: bs) (o + 1) w = uField bs o w := rfl

@[simp] theorem uField_byte_zero (b : Byte) (bs : List Byte) : uField (b :: bs) 0 1 = b.toNat := by simp [uField, fieldBytes, leNat]

@[simp] theorem uField_word_zero (b c : Byte) (bs : List Byte) : uField (b :: c :: bs) 0 2 = b.toNat + 256 * c.toNat := by
  simp [uField, fieldBytes, leNat]

/-! ### Replies and the window -/

theorem replyTo_eq (s : State) (r : Request) (a : Answer) : replyTo s r a = s.answered r.tag r.code a.outcome a.reason a.data := by
  unfold replyTo State.answered
  rcases s.placeTx_cases .u (.reply { tag := r.tag, code := r.code, answer := a }) with ⟨hf, e⟩ | ⟨hr, e⟩ <;> rw [e]
  · have hn : ¬ s.link.txU.length < 8 := Nat.not_lt.2 hf
    rw [if_neg hn]
  · have hl : s.link.txU.length < 8 := hr
    rw [if_pos hl]
    rfl

theorem breakWindow_eq (s : State) : breakWindow s = s.windowBroken := by
  unfold breakWindow State.windowBroken Window.broke
  cases s.service.window <;> rfl

theorem nothingWritten_eq (s : State) : nothingWritten s = s.nothingWrittenData := by
  unfold nothingWritten State.nothingWrittenData tableDataReply
  cases s.service.window <;> rfl

/-! ### The service block takes a request -/

/-- The form of R26 by the request list of R29. -/
theorem formOk_iff (code : Byte) (p : List Byte) : formOk code p = true ↔ (code, p.length) ∈ listedLengths := by
  rw [formOk, show requestLengths = listedLengths from rfl]
  simp only [List.any_eq_true, Bool.and_eq_true, beq_iff_eq]
  exact ⟨fun ⟨q, hq, hc, hl⟩ => by rwa [← hc, ← hl], fun h => ⟨_, h, rfl, rfl⟩⟩

/-- The rules of a listed request of the right length, on the state with its window broken. -/
theorem carryOut_of_form {s : State} {code : Byte} {p : List Byte} (h : (code, p.length) ∈ listedLengths) :
    carryOut s code p = carryOutListed s.service.window s.windowBroken code p := by
  rw [carryOut, if_pos ((formOk_iff _ _).2 h), breakWindow_eq]

theorem carryOut_bad {s : State} {code : Byte} {p : List Byte} (h : (code, p.length) ∉ listedLengths) :
    carryOut s code p = (s.windowBroken, refusal .badFormat .none) := by
  rw [carryOut, if_neg fun hf => h ((formOk_iff _ _).1 hf), breakWindow_eq]

theorem completeRequest_other {s : State} {r : Request} (h : r.code ≠ codeTableData) :
    completeRequest s r = (carryOut s r.code r.params).1.answered r.tag r.code (carryOut s r.code r.params).2.outcome
      (carryOut s r.code r.params).2.reason (carryOut s r.code r.params).2.data := by
  rw [completeRequest, if_neg h, replyTo_eq]

/-- A request row hands its request to the service block. -/
theorem exec_request {c : Instr} {r : Request} {s : State} (hp : s.resetPin = false) (hc : requestOf c = some r)
    (hl : r.params.length ≤ 1528) : exec c s = .next (requestStep s r) := by
  have ha : arriveRequest s r = requestStep s r := if_pos (by simpa [Config.maxFrameBytes] using hl)
  rw [← ha]
  cases c <;> cases hc <;> exact congrArg Host.Outcome.next (State.unlessReset_runs _ hp)

theorem requestStep_of_empty {s : State} {r : Request} (hq : s.service.requests = []) (hw : mustWait s r = false) :
    requestStep s r = completeRequest s r := by
  rw [requestStep, if_pos ⟨hq, by simp [hw]⟩]

/-- With nothing waiting and nothing held back the request is taken and carried out (R25). -/
theorem exec_ready {c : Instr} {r : Request} {s : State} (hs : s.Ready) (hc : requestOf c = some r) (hl : r.params.length ≤ 1528) :
    exec c s = .next (completeRequest s r) := by
  obtain ⟨hp, hq, hh⟩ := hs
  rw [exec_request hp hc hl, requestStep_of_empty hq (by simp [mustWait, hh])]

/-- A request of the list is carried out by its own rules, which start from the state with its window broken, and is answered (R26 to R28,
R38). -/
theorem exec_listed {c : Instr} {r : Request} {s : State} (hs : s.Ready) (hc : requestOf c = some r)
    (hf : (r.code, r.params.length) ∈ listedLengths) {x : State × Answer}
    (hx : carryOutListed s.service.window s.windowBroken r.code r.params = x) :
    exec c s = .next (x.1.answered r.tag r.code x.2.outcome x.2.reason x.2.data) := by
  have hcases : ∀ q ∈ listedLengths, q.1 ≠ codeTableData ∧ q.2 ≤ 6 := by decide
  obtain ⟨hcode, hlen⟩ := hcases _ hf
  rw [exec_ready hs hc (hlen.trans (by decide)), completeRequest_other hcode, carryOut_of_form hf, hx]

/-- Settles O26: the form decides before the rules of any request. -/
theorem badFormatAnswered : Obligations.BadFormatAnswered := by
  intro c r s hs hc hl hcode hf
  rw [exec_ready hs hc hl, completeRequest_other hcode, carryOut_bad hf]
  rfl

/-! ### The request queue -/

/-- The oldest waiting request is taken, unless it must wait (R25, R41). -/
theorem serveOldest_takes {s : State} {r : Request} {rest : List Request} (hq : s.service.requests = r :: rest)
    (hw : mustWait s r = false) : serveOldest s = completeRequest { s with service := { s.service with requests := rest } } r := by
  simp only [serveOldest, hq, hw]
  rfl

theorem serveOldest_waits {s : State} {r : Request} {rest : List Request} (hq : s.service.requests = r :: rest)
    (hw : mustWait s r = true) : serveOldest s = s := by
  simp only [serveOldest, hq, hw, if_true]

/-- A request must wait when a TABLE DATA is held back and it is none itself (R41). -/
theorem mustWait_iff (s : State) (r : Request) : mustWait s r = true ↔ s.service.heldReply ≠ none ∧ r.code ≠ 0x21 := by
  simp [mustWait, codeTableData, Option.isSome_iff_ne_none]

theorem mustWait_not_iff (s : State) (r : Request) : mustWait s r = false ↔ s.service.heldReply = none ∨ r.code = 0x21 := by
  rw [← Bool.not_eq_true, mustWait_iff, not_and_or, not_not, not_not]

theorem handOver_room {s : State} {r : Request} (h : s.service.requests.length < 4) :
    handOver s r = { s with service := { s.service with requests := s.service.requests ++ [r] } } := by
  have hf : requestsFull s = false := decide_eq_false (Nat.not_le.2 h)
  rw [handOver, hf]
  rfl

theorem handOver_full {s : State} {r : Request} (h : 4 ≤ s.service.requests.length) :
    handOver s r = s.answered r.tag r.code .busy .none
      (if r.code = 0x21 then s.nothingWrittenData else if r.code = 0x50 ∨ r.code = 0x51 then [byteOf s.queue.credits] else []) := by
  have hf : requestsFull s = true := decide_eq_true h
  rw [handOver, hf, if_pos rfl, replyTo_eq]
  simp only [busyData, nothingWritten_eq]
  rfl

theorem exec_handOver {s : State} {tag code : Byte} {params : List Byte} (hp : s.resetPin = false) (hl : params.length ≤ 1528) :
    exec (.serviceReqHandedOver tag code params) s = .next (handOver s { tag := tag, code := code, params := params }) := by
  have ht : takeRequest s { tag := tag, code := code, params := params } = handOver s { tag := tag, code := code, params := params } :=
    if_pos (by simpa [Config.maxFrameBytes] using hl)
  rw [← ht]
  exact congrArg Host.Outcome.next (State.unlessReset_runs _ hp)

/-- Settles O25: the queue with room and the full one; and a request row by what stands at the front. -/
theorem requestsTakenInOrder : Obligations.RequestsTakenInOrder := by
  refine ⟨fun s tag code params hp hl => ⟨fun h => ?_, fun h => ?_⟩, fun c r q rest s hp hc hl hq => ⟨fun hne => ?_, fun he hw => ?_,
    fun he hh hcode => ?_⟩⟩
  · rw [exec_handOver hp hl, handOver_room h]
  · rw [exec_handOver hp hl, handOver_full h]
  · rw [exec_request hp hc hl, exec_handOver hp hl]
    simp [requestStep, hq, hne]
  · subst he
    rw [exec_request hp hc hl, ← serveOldest_takes hq ((mustWait_not_iff s q).2 hw)]
    simp [requestStep, hq]
  · subst he
    rw [exec_request hp hc hl]
    simp [requestStep, hq, serveOldest_waits hq ((mustWait_iff s q).2 ⟨hh, hcode⟩)]

/-! ### Between commands -/

theorem canServe_of_cons {s : State} {r : Request} {rest : List Request} (hq : s.service.requests = r :: rest) :
    canServe s = !mustWait s r := by
  simp [canServe, hq]

theorem timerDue_iff (s : State) : timerDue s = true ↔ ∃ t ∈ runningTimers s, t ≤ s.now := by simp [timerDue]

theorem idleStep_serves {s : State} (hp : s.resetPin = false) (hs : canServe s = true) : idleStep s = serveOldest s := by
  simp [idleStep, hp, hs]

theorem idleStep_due {s : State} (hp : s.resetPin = false) (hs : canServe s = false) (ht : timerDue s = true) : idleStep s = s := by
  simp [idleStep, hp, hs, ht]

theorem idleStep_ticks {s : State} (hp : s.resetPin = false) (hs : canServe s = false) (ht : timerDue s = false) :
    idleStep s = { s with now := s.now + 1 } := by
  simp [idleStep, hp, hs, ht]

/-- Settles O2: held in reset, a request to be served, or the 1 µs while no timer is due. -/
theorem idleStepServesOrTicks : Obligations.IdleStepServesOrTicks := by
  intro s hs
  rw [step_nil hs]
  refine ⟨fun hp => by simp [idleStep, hp], fun hp r rest hq hw => ?_, fun hp hn => ?_⟩
  · have hw' := (mustWait_not_iff s r).2 hw
    rw [idleStep_serves hp (by simp [canServe_of_cons hq, hw']), serveOldest_takes hq hw']
  · have hserve : canServe s = false := by
      rcases hn with hq | ⟨r, rest, h, hq, hh, hcode⟩
      · simp [canServe, hq]
      · simp [canServe_of_cons hq, (mustWait_iff s r).2 ⟨by simp [hh], hcode⟩]
    refine ⟨fun ht => ?_, fun ht => ?_⟩
    · rw [idleStep_ticks hp hserve]
      rw [← Bool.not_eq_true, timerDue_iff]
      rintro ⟨t, hm, hle⟩
      exact absurd (ht t hm) (Nat.not_lt.2 hle)
    · rw [idleStep_due hp hserve ((timerDue_iff s).2 ht)]

end Sys2Proof.Machine
end

section
/-! The table requests but TABLE DATA (R30, R34, R38, R42). -/

namespace Sys2Proof.Machine

theorem carryOutListed_tableOpen (w : Window) (s : State) (p : List Byte) : carryOutListed w s codeTableOpen p = openWindow s p := rfl

/-- TABLE OPEN by its six parameter bytes, on the state with its window broken. -/
theorem openWindow_bytes (s : State) (table s0 s1 e0 e1 method : Byte) :
    openWindow s.windowBroken [table, s0, s1, e0, e1, method] =
      match tableOf table.toNat, methodOf method.toNat with
      | some t, some m =>
        if s0.toNat + 256 * s1.toNat ≤ e0.toNat + 256 * e1.toNat ∧ e0.toNat + 256 * e1.toNat < tableSize t then
          ({ s with
              service := { s.service with
                window := .opened { table := t, start := s0.toNat + 256 * s1.toNat, last := e0.toNat + 256 * e1.toNat, method := m,
                                    pointer := s0.toNat + 256 * s1.toNat } } }, doneWith [])
        else (s.windowBroken, refusal .badValue .range)
      | _, _ => (s.windowBroken, refusal .badValue .parameter) := by
  simp only [openWindow, uField_cons, uField_byte_zero, uField_word_zero, rangeOk, Bool.and_eq_true, decide_eq_true_eq]
  rfl

/-- Settles O27: each outcome of the window's check is the stated one. -/
theorem tableOpen : Obligations.TableOpen := by
  intro s tag table s0 s1 e0 e1 method hs
  rw [exec_listed hs rfl (by simp [listedLengths]) ((carryOutListed_tableOpen _ _ _).trans (openWindow_bytes s table s0 s1 e0 e1 method))]
  cases tableOf table.toNat with
  | none => rfl
  | some t =>
    cases methodOf method.toNat with
    | none => rfl
    | some m => dsimp only; split <;> rfl

theorem carryOutListed_tableContinue (w : Window) (s : State) (p : List Byte) :
    carryOutListed w s codeTableContinue p = continueWindow w s := rfl

/-- Settles O32: by the window as the request found it. -/
theorem tableContinue : Obligations.TableContinue := by
  intro s tag hs
  constructor
  · intro w hw
    rw [exec_listed hs rfl (by simp [listedLengths]) (carryOutListed_tableContinue _ _ _), hw]
    rfl
  · intro hn
    have hc : continueWindow s.service.window s.windowBroken = (s.windowBroken, refusal .state .notBroken) := by
      unfold continueWindow
      split
      · rename_i w hw
        exact absurd hw (hn w)
      · rfl
    rw [exec_listed hs rfl (by simp [listedLengths]) ((carryOutListed_tableContinue _ _ _).trans hc)]
    rfl

/-! ### TABLE READ -/

@[simp] theorem byteOf_self (b : Byte) : byteOf b.toNat = b := by simp [byteOf]

/-- Bytes read as a number and written in their width. -/
theorem leBytes_leNat (bs : List Byte) : leBytes bs.length (leNat bs) = bs := by
  induction bs with
  | nil => rfl
  | cons b bs ih =>
    have hb := b.isLt
    have hhead : BitVec.ofNat 8 (b.toNat + 256 * leNat bs) = b := BitVec.eq_of_toNat_eq (by simp; omega)
    have htail : (b.toNat + 256 * leNat bs) / 256 = leNat bs := by omega
    rw [leNat, List.length_cons, leBytes, hhead, htail, ih]

theorem leBytes_word (b c : Byte) : leBytes 2 (b.toNat + 256 * c.toNat) = [b, c] := by
  simpa [leNat] using leBytes_leNat [b, c]

theorem tableOf_eq_some {b : Byte} {t : TableCode} (h : tableOf b.toNat = some t) : byteOf (tableCode t) = b := by
  have hc : tableCode t = b.toNat := by
    unfold tableOf at h
    split at h <;> cases h <;> simp_all [tableCode]
  rw [hc, byteOf_self]

/-! The bytes of a stored entry fill the entry length of its table (R31, R32). -/

theorem padTo_length {n : Nat} {bs : List Byte} (h : bs.length ≤ n) : (padTo n bs).length = n := by
  simp [padTo, h]

theorem optionalBytes_length (fill : Nat → Byte) (o : Nat) {w : Nat} {v : Option (List Byte)} (h : ∀ bs ∈ v, bs.length = w) :
    (optionalBytes fill o w v).length = w + 1 := by
  cases v with
  | none => simp [optionalBytes, freeBytes]
  | some bs => simp [optionalBytes, h bs rfl]

theorem optionalByte_length (fill : Nat → Byte) (o : Nat) (v : Option Nat) :
    (optionalBytes fill o 1 (v.map fun x => [byteOf x])).length = 2 :=
  optionalBytes_length fill o (by cases v <;> simp)

theorem setupBytes_length (fill : Nat → Byte) (e : Setup) : (setupBytes fill e).length = 128 := by
  refine padTo_length ?_
  simp [hubBytes, optionalByte_length, captureSetupBytes]

theorem channelBytes_length (fill : Nat → Byte) (c : Option Channel) : (channelBytes fill c).length = 32 := by
  cases c with
  | none => rfl
  | some c =>
    have hr : (roleBytes c.entry.role).length = 2 := by cases c.entry.role <;> rfl
    have ha := optionalBytes_length fill 14 (w := 4) (v := c.entry.alarm.map fun a => leIntBytes 3 a.1 ++ [directionByte a.2])
      (by cases c.entry.alarm <;> simp)
    refine padTo_length ?_
    simp [hr, ha]

theorem axisBytes_length (fill : Nat → Byte) (e : Option AxisEntry) : (axisBytes fill e).length = 48 := by
  cases e with
  | none => rfl
  | some e =>
    refine padTo_length ?_
    simp [optionalByte_length]

theorem zoneBytes_length (e : Option ZoneEntry) : (zoneBytes e).length = 32 := by
  cases e with
  | none => rfl
  | some e =>
    refine padTo_length ?_
    simp

theorem libraryBytes_length (fill : Nat → Byte) (e : Option LibraryEntry) : (libraryBytes fill e).length = 40 := by
  cases e with
  | none => rfl
  | some e =>
    refine padTo_length ?_
    simp [optionalByte_length]

theorem planBytes_length (fill : Nat → Byte) (e : Option PlanEntry) : (planBytes fill e).length = 48 := by
  cases e with
  | none => rfl
  | some e =>
    have hs := optionalBytes_length fill 33 (w := 2) (v := e.sequence.map fun n => leBytes 2 n.toNat) (by cases e.sequence <;> simp)
    refine padTo_length ?_
    simp [hs]

theorem entryBytes_length (s : State) (fill : Nat → Byte) (t : TableCode) (i : Nat) : (entryBytes s fill t i).length = entryLength t := by
  cases t with
  | setup => exact setupBytes_length _ _
  | channel => exact channelBytes_length _ _
  | axis => exact axisBytes_length _ _
  | map => exact leIntBytes_length _ _
  | zone => exact zoneBytes_length _
  | library => exact libraryBytes_length _ _
  | plan => exact planBytes_length _ _

/-- The `k`-th entry of the data of a TABLE READ. -/
theorem readEntries_segment (s : State) (t : TableCode) (n k offset start : Nat) (h : k < n) :
    ((readEntries s t offset start n).drop (k * entryLength t)).take (entryLength t) =
      entryBytes s (fun o => replyFill s (offset + k * entryLength t + o)) t (start + k) := by
  induction k generalizing n offset start with
  | zero =>
    obtain ⟨n, rfl⟩ := Nat.exists_eq_succ_of_ne_zero (Nat.ne_of_gt h)
    rw [readEntries, Nat.zero_mul, List.drop_zero, List.take_left' (entryBytes_length _ _ _ _)]
    rfl
  | succ k ih =>
    obtain ⟨n, rfl⟩ := Nat.exists_eq_succ_of_ne_zero (Nat.ne_of_gt (Nat.zero_lt_of_lt h))
    rw [readEntries, Nat.succ_mul, Nat.add_comm (k * _), ← List.drop_drop, List.drop_left' (entryBytes_length _ _ _ _),
      ih n (offset + entryLength t) (start + 1) (Nat.lt_of_succ_lt_succ h)]
    congr 1
    · funext o
      congr 1
      omega
    · omega

theorem readEntries_length (s : State) (t : TableCode) (n offset start : Nat) :
    (readEntries s t offset start n).length = n * entryLength t := by
  induction n generalizing offset start with
  | zero => rw [Nat.zero_mul]; rfl
  | succ n ih => rw [readEntries, List.length_append, entryBytes_length, ih, Nat.succ_mul, Nat.add_comm]

/-- The data of a TABLE READ: the header, then the entries (R42). -/
def readData (s : State) (t : TableCode) (start count : Nat) : List Byte :=
  byteOf (tableCode t) :: (leBytes 2 start ++ byteOf count :: readEntries s t 4 start count)

theorem readData_entry (s : State) (t : TableCode) (start count k : Nat) (h : k < count) :
    ((readData s t start count).drop (4 + k * entryLength t)).take (entryLength t) =
      entryBytes s (fun o => replyFill s (4 + k * entryLength t + o)) t (start + k) := by
  rw [← List.drop_drop]
  exact readEntries_segment s t count k 4 start h

theorem carryOutListed_tableRead (w : Window) (s : State) (p : List Byte) : carryOutListed w s codeTableRead p = readTable s p := rfl

/-- TABLE READ by its four parameter bytes. -/
theorem readTable_bytes (s : State) (table s0 s1 count : Byte) :
    readTable s [table, s0, s1, count] =
      match tableOf table.toNat with
      | none => (s, refusal .badValue .parameter)
      | some t =>
        if !inNat 1 16 count.toNat then (s, refusal .badValue .parameter)
        else if tableSize t < s0.toNat + 256 * s1.toNat + count.toNat then (s, refusal .badValue .range)
        else (s.drawn, doneWith (readData s t (s0.toNat + 256 * s1.toNat) count.toNat)) := by
  simp only [readTable, uField_cons, uField_byte_zero, uField_word_zero]
  rfl

theorem inNat_iff {low high v : Nat} : inNat low high v = true ↔ low ≤ v ∧ v ≤ high := by simp [inNat]

/-- Settles O33: the checks in the model's order, and the data entry by entry. -/
theorem tableRead : Obligations.TableRead := by
  intro s tag table s0 s1 count hs
  have hexec {x : State × Answer} (hx : readTable s.windowBroken [table, s0, s1, count] = x) :
      exec (.tableRead tag [table, s0, s1, count]) s = .next (x.1.answered tag 0x23 x.2.outcome x.2.reason x.2.data) :=
    exec_listed (r := { tag := tag, code := 0x23, params := [table, s0, s1, count] }) hs rfl (by simp [listedLengths])
      ((carryOutListed_tableRead _ _ _).trans hx)
  constructor
  · intro h
    refine hexec (x := (s.windowBroken, refusal .badValue .parameter)) ?_
    rw [readTable_bytes]
    cases ht : tableOf table.toNat with
    | none => rfl
    | some t =>
      have hn : inNat 1 16 count.toNat = false := by
        rw [← Bool.not_eq_true, inNat_iff]
        rintro ⟨h1, h16⟩
        rcases h with h | h | h
        · simp [ht] at h
        · simp [h] at h1
        · omega
      simp [hn]
  · intro t ht h1 h16
    have hn : inNat 1 16 count.toNat = true := inNat_iff.2 ⟨h1, h16⟩
    refine ⟨fun hr => ?_, fun hr => ?_⟩
    · refine hexec (x := (s.windowBroken, refusal .badValue .range)) ?_
      simp only [readTable_bytes, ht, hn, Bool.not_true, Bool.false_eq_true, if_false, if_pos hr]
    · refine ⟨readData s.windowBroken t (s0.toNat + 256 * s1.toNat) count.toNat, ?_, ?_, fun k hk => ?_, ?_⟩
      · simp [readData, readEntries_length]; omega
      · simp [readData, tableOf_eq_some ht, leBytes_word]
      · rw [readData_entry _ _ _ _ _ hk]
        cases t <;> rfl
      · refine hexec (x := (s.windowBroken.drawn, doneWith (readData s.windowBroken t (s0.toNat + 256 * s1.toNat) count.toNat))) ?_
        simp only [readTable_bytes, ht, hn, Bool.not_true, Bool.false_eq_true, if_false, if_neg (Nat.not_lt.2 hr)]

end Sys2Proof.Machine
end

section
/-! RELEASE ARM, PLAN START, PLAN RESUME, READ NOTICES and RESTART RUN (R43, R101, R102, R164, R166, R189). A theorem whose obligation is
named like the operation it is about stands in `Requests`. -/

namespace Sys2Proof.Machine

/-! ### Requests on one arm -/

theorem withArm_some (s : State) {arm : Byte} {which : Arm} (p : List Byte) (f : Arm → State × Answer) (h : armOf arm.toNat = some which) :
    withArm s (arm :: p) f = f which := by
  simp only [withArm, uField_byte_zero, h]

theorem withArm_none (s : State) {arm : Byte} (p : List Byte) (f : Arm → State × Answer) (h : armOf arm.toNat = none) :
    withArm s (arm :: p) f = (s, refusal .badValue .parameter) := by
  simp only [withArm, uField_byte_zero, h]

theorem flagOf_of_le {b : Byte} (h : b.toNat ≤ 1) : flagOf b.toNat = some (b == 1) := by
  rcases Nat.le_one_iff_eq_zero_or_eq_one.1 h with h0 | h1
  · have : b = 0 := BitVec.eq_of_toNat_eq h0
    subst this
    rfl
  · have : b = 1 := BitVec.eq_of_toNat_eq h1
    subst this
    rfl

theorem flagOf_of_gt {v : Nat} (h : 1 < v) : flagOf v = none := by
  unfold flagOf
  split
  · omega
  · omega
  · rfl

/-! ### RELEASE ARM -/

theorem exec_releaseArm {s : State} {tag arm : Byte} (hs : s.Ready) {x : State × Answer}
    (hx : withArm s.windowBroken [arm] (releaseArm s.windowBroken) = x) :
    exec (.releaseArm tag [arm]) s = .next (x.1.answered tag 0x33 x.2.outcome x.2.reason x.2.data) :=
  exec_listed (r := { tag := tag, code := 0x33, params := [arm] }) hs rfl (by simp [listedLengths]) hx

section
variable {s : State} {arm : Arm}

theorem releaseArm_running (h : (s.supervision.get arm).state ≠ .stopped) : releaseArm s arm = (s, refusal .state .notStopped) := by
  simp [releaseArm, h]

theorem releaseArm_link (h : (s.supervision.get arm).state = .stopped) (hw : s.link.watch ≠ .watching) :
    releaseArm s arm = (s, refusal .state .link) := by
  simp [releaseArm, h, hw]

theorem releaseArm_overtravel (h : (s.supervision.get arm).state = .stopped) (hw : s.link.watch = .watching)
    (ho : (s.supervision.get arm).overtravel = some true) : releaseArm s arm = (s, refusal .state .overtravel) := by
  simp [releaseArm, h, hw, ho]

variable (h : (s.supervision.get arm).state = .stopped) (hw : s.link.watch = .watching)
  (ho : (s.supervision.get arm).overtravel ≠ some true)
include h hw ho

theorem releaseArm_noPosition (hp : correctedHead s arm = none) : releaseArm s arm = (s, refusal .state .noPosition) := by
  simp [releaseArm, h, hw, ho, hp]

theorem releaseArm_zone {p : Triple Int} (hp : correctedHead s arm = some p) (hz : zoneCheck s arm p = false) :
    releaseArm s arm = (s, refusal .state .zone) := by
  simp [releaseArm, h, hw, ho, hp, hz]

theorem releaseArm_released {p : Triple Int} (hp : correctedHead s arm = some p) (hz : zoneCheck s arm p = true) :
    releaseArm s arm = (s.setSupervision arm (releasedSupervision (s.supervision.get arm) p), doneWith []) := by
  simp [releaseArm, h, hw, ho, hp, hz]

end

namespace Requests

/-- Settles O38: the conditions one after another. -/
theorem releaseArm : Obligations.ReleaseArm := by
  intro s tag arm hs
  refine ⟨fun ha => exec_releaseArm hs (withArm_none _ _ _ ha), fun which ha => ?_⟩
  have released {x : State × Answer} (hx : Machine.releaseArm s.windowBroken which = x) :
      exec (.releaseArm tag [arm]) s = .next (x.1.answered tag 0x33 x.2.outcome x.2.reason x.2.data) :=
    exec_releaseArm hs ((withArm_some _ _ _ ha).trans hx)
  refine ⟨fun h => released (releaseArm_running h), fun h => ⟨fun hw => released (releaseArm_link h hw), fun hw =>
    ⟨fun ho => released (releaseArm_overtravel h hw ho), fun ho => ⟨fun hp => released (releaseArm_noPosition h hw ho hp), fun p hp =>
      ⟨fun hz => released (releaseArm_zone h hw ho hp hz), fun hz => released (releaseArm_released (s := s.windowBroken) h hw ho hp hz)⟩⟩⟩⟩⟩

end Requests

/-! ### PLAN START and PLAN RESUME -/

theorem exec_planStart {s : State} {tag arm f0 f1 loop : Byte} (hs : s.Ready) {x : State × Answer}
    (hx : planStartRequest s.windowBroken [arm, f0, f1, loop] = x) :
    exec (.planStart tag [arm, f0, f1, loop]) s = .next (x.1.answered tag 0x40 x.2.outcome x.2.reason x.2.data) :=
  exec_listed (r := { tag := tag, code := 0x40, params := [arm, f0, f1, loop] }) hs rfl (by simp [listedLengths]) hx

theorem exec_planResume {s : State} {tag arm : Byte} (hs : s.Ready) {x : State × Answer}
    (hx : withArm s.windowBroken [arm] (planResume s.windowBroken) = x) :
    exec (.planResume tag [arm]) s = .next (x.1.answered tag 0x42 x.2.outcome x.2.reason x.2.data) :=
  exec_listed (r := { tag := tag, code := 0x42, params := [arm] }) hs rfl (by simp [listedLengths]) hx

/-- PLAN START with a loop flag outside 0 and 1 is refused for any arm byte. -/
theorem planStartRequest_flag (s : State) {arm f0 f1 loop : Byte} (h : flagOf loop.toNat = none) :
    planStartRequest s [arm, f0, f1, loop] = (s, refusal .badValue .parameter) := by
  cases ha : armOf arm.toNat with
  | none => exact withArm_none _ _ _ ha
  | some which =>
    rw [planStartRequest, withArm_some _ _ _ ha]
    simp [h]

theorem planStartRequest_bytes (s : State) {arm f0 f1 loop : Byte} {which : Arm} (ha : armOf arm.toNat = some which)
    (hl : loop.toNat ≤ 1) :
    planStartRequest s [arm, f0, f1, loop] =
      if 511 < f0.toNat + 256 * f1.toNat then (s, refusal .badValue .range)
      else planStart s which (f0.toNat + 256 * f1.toNat) (loop == 1) := by
  rw [planStartRequest, withArm_some _ _ _ ha]
  simp only [uField_cons, uField_byte_zero, uField_word_zero, flagOf_of_le hl]

/-- Settles O39: the parameters, the range, and the walk as it stands. -/
theorem planStartAndResume : Obligations.PlanStartAndResume := by
  refine ⟨fun s tag arm f0 f1 loop hs => ⟨fun h => ?_, fun which ha hl => ⟨fun hr => ?_, fun hr => ⟨fun hw => ?_, fun hw => ?_⟩⟩⟩,
    fun s tag arm hs => ⟨fun ha => exec_planResume hs (withArm_none _ _ _ ha), fun which ha => ⟨fun hw hh => ?_, fun hn => ?_⟩⟩⟩
  · refine exec_planStart hs (x := (s.windowBroken, refusal .badValue .parameter)) ?_
    rcases h with ha | hl
    · exact withArm_none _ _ _ ha
    · exact planStartRequest_flag _ (flagOf_of_gt hl)
  · refine exec_planStart hs (x := (s.windowBroken, refusal .badValue .range)) ?_
    rw [planStartRequest_bytes _ ha hl, if_pos hr]
  · refine exec_planStart hs (x := (s.windowBroken, refusal .state .walkRunning)) ?_
    rw [planStartRequest_bytes _ ha hl, if_neg (Nat.not_lt.2 hr)]
    exact if_pos hw
  · refine exec_planStart hs (x := (s.windowBroken.setWalk which _, doneWith [])) ?_
    rw [planStartRequest_bytes _ ha hl, if_neg (Nat.not_lt.2 hr)]
    exact if_neg hw
  · exact exec_planResume hs ((withArm_some _ _ _ ha).trans (if_pos ⟨hw, hh⟩))
  · refine exec_planResume hs ((withArm_some _ _ _ ha).trans (if_neg ?_))
    rintro ⟨hw, hh⟩
    exact hn.elim (fun e => e hw) fun e => hh e

/-! ### READ NOTICES -/

/-- Of a class the oldest entries are taken, and the rest of it and of the other classes stays in order (R189). -/
theorem takeClass_spec (c n : Nat) (es : List Notice) :
    (takeClass c n es).1 = (es.filter fun e => noticeClass e.kind == c).take n ∧
    ((takeClass c n es).2.filter fun e => noticeClass e.kind == c) = (es.filter fun e => noticeClass e.kind == c).drop n ∧
    ((takeClass c n es).2.filter fun e => noticeClass e.kind != c) = es.filter fun e => noticeClass e.kind != c := by
  induction es generalizing n with
  | nil => cases n <;> simp [takeClass]
  | cons e es ih =>
    cases n with
    | zero => simp [takeClass]
    | succ n =>
      by_cases hc : noticeClass e.kind = c
      · obtain ⟨htake, hdrop, hrest⟩ := ih n
        simp [takeClass, hc, htake, hdrop, hrest]
      · obtain ⟨htake, hdrop, hrest⟩ := ih (n + 1)
        simp [takeClass, hc, htake, hdrop, hrest]

theorem readNotices_of_mem (s : State) {count : Byte} (h : 1 ≤ count.toNat ∧ count.toNat ≤ 8) :
    readNotices s [count] =
      (s.setNotices { s.notices with entries := (takeClass (topClass s.notices.entries) count.toNat s.notices.entries).2 },
        doneWith (byteOf (takeClass (topClass s.notices.entries) count.toNat s.notices.entries).1.length ::
          (takeClass (topClass s.notices.entries) count.toNat s.notices.entries).1.flatMap noticeBytes)) := by
  rw [readNotices, uField_byte_zero]
  exact if_pos (inNat_iff.2 h)

theorem readNotices_of_not_mem (s : State) {count : Byte} (h : ¬ (1 ≤ count.toNat ∧ count.toNat ≤ 8)) :
    readNotices s [count] = (s, refusal .badValue .parameter) := by
  rw [readNotices, uField_byte_zero]
  exact if_neg fun hn => h (inNat_iff.1 hn)

theorem exec_readNotices {s : State} {tag count : Byte} (hs : s.Ready) {x : State × Answer}
    (hx : readNotices s.windowBroken [count] = x) :
    exec (.readNotices tag [count]) s = .next (x.1.answered tag 0x60 x.2.outcome x.2.reason x.2.data) :=
  exec_listed (r := { tag := tag, code := 0x60, params := [count] }) hs rfl (by simp [listedLengths]) hx

namespace Requests

/-- Settles O42: the taken entries and the entries left are those of `takeClass`. -/
theorem readNotices : Obligations.ReadNotices := by
  intro s tag count hs
  refine ⟨fun h => ?_, fun h1 h8 => ?_⟩
  · refine exec_readNotices hs (readNotices_of_not_mem _ ?_)
    rintro ⟨h1, h8⟩
    rcases h with rfl | h
    · simp at h1
    · omega
  · obtain ⟨htake, hdrop, hrest⟩ := takeClass_spec (topClass s.notices.entries) count.toNat s.notices.entries
    refine ⟨(takeClass (topClass s.notices.entries) count.toNat s.notices.entries).2, ?_, hdrop, hrest⟩
    rw [← List.length_take, ← htake]
    exact exec_readNotices hs (readNotices_of_mem _ ⟨h1, h8⟩)

end Requests

/-! ### RESTART RUN -/

theorem exec_restartRun {s : State} (tag : Byte) (hs : s.Ready) :
    exec (.restartRun tag []) s = .next ((restartRun s.windowBroken).answered tag 0x70 .done .none []) :=
  exec_listed (r := { tag := tag, code := 0x70, params := [] }) (x := (restartRun s.windowBroken, doneWith [])) hs rfl
    (by simp [listedLengths]) rfl

theorem restartArm_eq (s : State) (arm : Arm) :
    restartArm s arm = { s with
      supervision := s.supervision.put arm (restartSupervision (s.supervision.get arm))
      notices := if (s.supervision.get arm).state = .stopped then s.notices else s.notices.enter .armStopped (.arm arm) 1 } := by
  unfold restartArm
  dsimp only
  split <;> rfl

theorem withheld_eq : TxFrame.withheld = fun t => match t with
    | .out f (some n) => .out { f with slots := f.slots.modify n fun sl => { sl with payload := splice sl.payload 0 [0, 0, 0, 0] } } none
    | t => t := by
  funext t
  cases t with
  | out f carried => cases carried <;> rfl
  | _ => rfl

namespace Requests

/-- Settles O45: the blocks one after another, each as its own restart leaves it. -/
theorem restartRun : Obligations.RestartRun := by
  intro s tag hs
  refine ⟨_, exec_restartRun tag hs, ?_⟩
  simp only [Machine.restartRun, restartArm_eq, withheld_eq]
  rfl

end Requests

end Sys2Proof.Machine
end

section
/-! TABLE DATA: its refusals, its entries one by one, and the reply that is held back (R35 to R37, R39 to R41). -/

namespace Sys2Proof.Machine

/-! ### The request -/

/-- TABLE DATA is taken at once when nothing waits, held-back reply or not (R41). -/
theorem exec_tableData {s : State} {tag : Byte} {params : List Byte} (hp : s.resetPin = false) (hq : s.service.requests = [])
    (hl : params.length ≤ 1528) :
    exec (.tableData tag params) s = .next (completeRequest s { tag := tag, code := 0x21, params := params }) := by
  rw [exec_request hp rfl hl, requestStep_of_empty hq ((mustWait_not_iff _ _).2 (.inr rfl))]

theorem completeRequest_answered {s t : State} {tag : Byte} {params : List Byte} {x : Answer}
    (h : tableDataTaken s params = (t, .answered x)) :
    completeRequest s { tag := tag, code := 0x21, params := params } = t.answered tag 0x21 x.outcome x.reason x.data := by
  rw [completeRequest_data rfl]
  dsimp only
  rw [h]
  exact replyTo_eq _ _ _

theorem completeRequest_held {s t : State} {tag : Byte} {params : List Byte} {x : Answer} (h : tableDataTaken s params = (t, .held x)) :
    completeRequest s { tag := tag, code := 0x21, params := params } =
      { t with service := { t.service with heldReply := some { tag := tag, code := 0x21, answer := x } } } := by
  rw [completeRequest_data rfl]
  dsimp only
  rw [h]
  rfl

theorem tableDataTaken_busy {s : State} (h : s.service.heldReply ≠ none) (p : List Byte) :
    tableDataTaken s p = (s, .answered { outcome := .busy, reason := .none, data := s.nothingWrittenData }) := by
  rw [tableDataTaken, if_pos (Option.isSome_iff_ne_none.2 h), nothingWritten_eq]

theorem tableDataTaken_noWindow {s : State} (h : s.service.heldReply = none) (hw : ∀ w, s.service.window ≠ .opened w) (p : List Byte) :
    tableDataTaken s p = (s, .answered { outcome := .state, reason := .noWindow, data := s.nothingWrittenData }) := by
  rw [tableDataTaken, if_neg (by simp [h]), nothingWritten_eq]
  split
  · rename_i w e
    exact absurd e (hw w)
  · rfl

section
variable {s : State} {w : WindowValues} (h : s.service.heldReply = none) (hw : s.service.window = .opened w) (p : List Byte)
include h hw

theorem tableDataTaken_now (hb : (w.table.heldBack && s.link.returnInProcessing) = false) :
    tableDataTaken s p = ((dataInWindow false s w p).1, .answered (dataInWindow false s w p).2) := by
  rw [tableDataTaken, if_neg (by simp [h]), hw]
  dsimp only
  rw [if_neg (by simp [hb])]

theorem tableDataTaken_held (hb : (w.table.heldBack && s.link.returnInProcessing) = true) :
    tableDataTaken s p = ((dataInWindow true s w p).1, .held (dataInWindow true s w p).2) := by
  rw [tableDataTaken, if_neg (by simp [h]), hw]
  dsimp only
  rw [if_pos hb]

end

/-! ### The form of a TABLE DATA in an OPEN window -/

theorem dataInWindow_badFormat (held : Bool) (s : State) (w : WindowValues) {p : List Byte}
    (h : p = [] ∨ p.length ≠ 1 + (p.headD 0).toNat * entryLength w.table) : dataInWindow held s w p = (s, refusal .badFormat .none) := by
  cases p with
  | nil => rfl
  | cons count rest =>
    refine if_pos fun e => ?_
    rcases h with h | h
    · cases h
    · rw [List.length_cons, e, List.headD_cons] at h
      omega

theorem dataInWindow_badCount (held : Bool) (s : State) (w : WindowValues) {count : Byte} {rest : List Byte}
    (hl : rest.length = count.toNat * entryLength w.table) (hc : count.toNat = 0 ∨ 16 < count.toNat) :
    dataInWindow held s w (count :: rest) = (s, { outcome := .badValue, reason := .parameter, data := s.nothingWrittenData }) := by
  have hn : inNat 1 16 count.toNat = false := by
    rw [← Bool.not_eq_true, inNat_iff]
    omega
  unfold dataInWindow
  dsimp only
  rw [if_neg (not_not.2 hl), hn, nothingWritten_eq]
  rfl

/-- The state and the answer that a TABLE DATA leaves when its entries have been handled (R36, R37). -/
def DataRun.finished (d : DataRun) : State × Answer :=
  (d.state.setService { d.state.service with window := .opened d.window },
    { outcome := d.outcome, reason := d.reason, data := tableDataReply (.opened d.window) d.written d.past d.position })

theorem dataInWindow_entries (held : Bool) (s : State) (w : WindowValues) {count : Byte} {rest : List Byte}
    (hl : rest.length = count.toNat * entryLength w.table) (hc : 1 ≤ count.toNat ∧ count.toNat ≤ 16) :
    dataInWindow held s w (count :: rest) =
      (handleEntries held 1 (cutEntries (entryLength w.table) count.toNat rest) (DataRun.start s w)).finished := by
  unfold dataInWindow
  dsimp only
  rw [if_neg (not_not.2 hl), inNat_iff.2 hc]
  rfl

/-- Settles O28: each check under the failure of those before it. -/
theorem tableDataWritesNothing : Obligations.TableDataWritesNothing := by
  intro s tag params hp hq hl
  refine ⟨fun hh => ?_, fun hh hw => ?_, fun w hh hw hb => ⟨fun hform => ?_, fun hne hlen hcount => ?_⟩⟩
  · rw [exec_tableData hp hq hl, completeRequest_answered (tableDataTaken_busy hh params)]
  · rw [exec_tableData hp hq hl, completeRequest_answered (tableDataTaken_noWindow hh hw params)]
  · rw [exec_tableData hp hq hl, completeRequest_answered (tableDataTaken_now hh hw params hb), dataInWindow_badFormat false s w hform]
    rfl
  · obtain ⟨count, rest, rfl⟩ := List.exists_cons_of_ne_nil hne
    rw [exec_tableData hp hq hl, completeRequest_answered (tableDataTaken_now hh hw _ hb),
      dataInWindow_badCount false s w (by simpa [Nat.add_comm] using hlen)]
    refine hcount.imp_left fun e => ?_
    rw [List.headD_cons] at e
    rw [e]
    rfl

/-! ### Cutting and counting -/

theorem cutEntries_length (length n : Nat) (b : List Byte) : (cutEntries length n b).length = n := by
  induction n generalizing b with
  | zero => rfl
  | succ n ih => rw [cutEntries, List.length_cons, ih]

/-- Entries of one length, written one after another, are cut into these entries. -/
theorem cutEntries_flatten {length : Nat} {entries : List (List Byte)} (h : ∀ b ∈ entries, b.length = length) :
    cutEntries length entries.length entries.flatten = entries := by
  induction entries with
  | nil => rfl
  | cons b bs ih =>
    obtain ⟨hb, hbs⟩ := List.forall_mem_cons.1 h
    rw [List.length_cons, List.flatten_cons, cutEntries, List.take_left' hb, List.drop_left' hb, ih hbs]

theorem flatten_length {length : Nat} {entries : List (List Byte)} (h : ∀ b ∈ entries, b.length = length) :
    entries.flatten.length = entries.length * length := by
  rw [List.length_flatten, List.map_congr_left h]
  simp

/-! ### One entry -/

theorem WindowValues.atEnd_stop {w : WindowValues} (hm : w.method = .stop) (hl : w.last < w.pointer) : w.atEnd = true := by
  simp [WindowValues.atEnd, hm, hl]

theorem WindowValues.not_atEnd {w : WindowValues} (h : w.method = .wrap ∨ w.pointer ≤ w.last) : w.atEnd = false := by
  rcases h with h | h
  · simp [WindowValues.atEnd, h]
  · simp [WindowValues.atEnd, Nat.not_lt.2 h]

/-- The pointer after an entry was written (R36). -/
theorem WindowValues.advanced_eq (w : WindowValues) : ∃ next, (w.method = .stop → next = w.pointer + 1) ∧
    (w.method = .wrap → next = if w.last < w.pointer + 1 then w.start else w.pointer + 1) ∧ w.advanced = { w with pointer := next } := by
  cases hm : w.method with
  | stop => exact ⟨w.pointer + 1, fun _ => rfl, nofun, by simp [WindowValues.advanced, hm]⟩
  | wrap => exact ⟨_, nofun, fun _ => rfl, by simp [WindowValues.advanced, hm]⟩

theorem refusalOutcome_eq (r : Reason) : refusalOutcome r = if r = .field ∨ r = .entry then .badValue else .state := by
  cases r <;> rfl

theorem refusalOutcome_ne_done (r : Reason) : refusalOutcome r ≠ .done := by cases r <;> decide

@[simp] theorem DataRun.start_state (s : State) (w : WindowValues) : (DataRun.start s w).state = s := rfl
@[simp] theorem DataRun.start_window (s : State) (w : WindowValues) : (DataRun.start s w).window = w := rfl
@[simp] theorem DataRun.start_written (s : State) (w : WindowValues) : (DataRun.start s w).written = 0 := rfl
@[simp] theorem DataRun.start_past (s : State) (w : WindowValues) : (DataRun.start s w).past = 0 := rfl

section
variable (held : Bool) (k : Nat) (b : List Byte) (bs : List (List Byte)) (d : DataRun)

theorem handleEntries_past (h : d.window.atEnd = true) :
    handleEntries held k (b :: bs) d = handleEntries held (k + 1) bs { d with past := d.past + 1 } := by
  rw [handleEntries, if_pos h]

theorem handleEntries_refused (h : d.window.atEnd = false) {r : Reason}
    (hc : checkEntry d.state d.window.table d.window.pointer b = .error r) :
    handleEntries held k (b :: bs) d = { d with position := k, outcome := refusalOutcome r, reason := r } := by
  rw [handleEntries, if_neg (by simp [h]), hc]

theorem handleEntries_passed (h : d.window.atEnd = false) {e : Entry}
    (hc : checkEntry d.state d.window.table d.window.pointer b = .ok e) :
    handleEntries held k (b :: bs) d = handleEntries held (k + 1) bs
      { d with state := placeEntry held d.state d.window.pointer e, window := d.window.advanced, written := d.written + 1 } := by
  rw [handleEntries, if_neg (by simp [h]), hc]

end

/-- What the counts of a TABLE DATA add up to, from any entry on. -/
structure DataRun.Counts (d t : DataRun) (k n : Nat) : Prop where
  done : t.outcome = .done → t.position = 0 ∧ t.written + t.past = d.written + d.past + n
  failed : t.outcome ≠ .done → t.position + (d.written + d.past) = k + (t.written + t.past) ∧ t.position < k + n
  pointer : d.window.method = .stop → t.window.pointer + d.written = d.window.pointer + t.written
  window : t.window = { d.window with pointer := t.window.pointer }

theorem handleEntries_counts (held : Bool) (k : Nat) (l : List (List Byte)) (d : DataRun) (ho : d.outcome = .done)
    (hp : d.position = 0) : d.Counts (handleEntries held k l d) k l.length := by
  induction l generalizing k d with
  | nil => exact ⟨fun _ => ⟨hp, rfl⟩, fun h => absurd ho h, fun _ => rfl, rfl⟩
  | cons b bs ih =>
    rw [List.length_cons]
    cases he : d.window.atEnd with
    | true =>
      rw [handleEntries_past held k b bs d he]
      obtain ⟨hd, hf, hw, hv⟩ := ih (k + 1) { d with past := d.past + 1 } ho hp
      refine ⟨fun h => ⟨(hd h).1, (hd h).2.trans ?_⟩, fun h => ?_, hw, hv⟩
      · dsimp only; omega
      · have := hf h
        dsimp only at this
        omega
    | false =>
      cases hc : checkEntry d.state d.window.table d.window.pointer b with
      | error r =>
        rw [handleEntries_refused held k b bs d he hc]
        exact ⟨fun h => absurd h (refusalOutcome_ne_done r), fun _ => ⟨rfl, by dsimp only; omega⟩, fun _ => rfl, rfl⟩
      | ok e =>
        rw [handleEntries_passed held k b bs d he hc]
        obtain ⟨next, hstop, _, hadv⟩ := d.window.advanced_eq
        obtain ⟨hd, hf, hw, hv⟩ := ih (k + 1) { d with
          state := placeEntry held d.state d.window.pointer e, window := d.window.advanced, written := d.written + 1 } ho hp
        rw [hadv] at hd hf hw hv ⊢
        refine ⟨fun h => ⟨(hd h).1, (hd h).2.trans ?_⟩, fun h => ?_, fun h => ?_, hv⟩
        · dsimp only; omega
        · have := hf h
          dsimp only at this
          omega
        · have := hw h
          have := hstop h
          dsimp only at *
          omega

end Sys2Proof.Machine
end

section
/-! A TABLE DATA written at once, with one entry and with many (R36, R37, R39); and what a held-back one does to the part until the return
frame has left (R40). -/

namespace Sys2Proof.Machine

/-! ### Writing while link and service block change -/

/-- A written entry depends on neither link block nor service block. -/
theorem writeEntry_blocks (s : State) (l : Link) (v : Service) (i : Nat) (e : Entry) :
    writeEntry { s with link := l, service := v } i e = { writeEntry s i e with link := l, service := v } := by
  cases e with
  | library e =>
    cases e with
    | none => rfl
    | some e =>
      simp only [writeEntry, writeLibrary, show unknownArms { s with link := l, service := v } = unknownArms s from rfl]
      split
      · unfold setActive suspendCapture
        dsimp only
        split_ifs <;> rfl
      · rfl
  | _ => rfl

theorem writeEntry_window (s : State) (v : Service) (i : Nat) (e : Entry) :
    writeEntry { s with service := v } i e = { writeEntry s i e with service := v } := by
  have h := writeEntry_blocks s s.link v i e
  rw [h]
  obtain ⟨hl, _, _⟩ := writeEntry_frame s i e
  rw [← hl]

/-! ### At once -/

/-- A TABLE DATA of as many entries as it says, in an OPEN window, written at once. -/
theorem exec_tableData_now {s : State} {tag : Byte} {entries : List (List Byte)} {w : WindowValues} (hs : s.Ready)
    (hw : s.service.window = .opened w) (hb : (w.table.heldBack && s.link.returnInProcessing) = false)
    (hl : ∀ b ∈ entries, b.length = entryLength w.table) (h1 : 1 ≤ entries.length) (h16 : entries.length ≤ 16)
    (hlen : 1 + entries.length * entryLength w.table ≤ 1528) {x : State × Answer}
    (hx : (handleEntries false 1 entries (DataRun.start s w)).finished = x) :
    exec (.tableData tag (byteOf entries.length :: entries.flatten)) s = .next (x.1.answered tag 0x21 x.2.outcome x.2.reason x.2.data) := by
  obtain ⟨hp, hq, hh⟩ := hs
  have hflat := flatten_length hl
  have hn : (byteOf entries.length).toNat = entries.length := byteOf_toNat (by omega)
  have hd : dataInWindow false s w (byteOf entries.length :: entries.flatten) = x := by
    rw [dataInWindow_entries false s w (by rw [hflat, hn]) (by rw [hn]; exact ⟨h1, h16⟩), hn, cutEntries_flatten hl, hx]
  rw [exec_tableData hp hq (by rw [List.length_cons, hflat]; omega),
    completeRequest_answered (tableDataTaken_now hh hw _ hb), hd]

theorem exec_tableData_one {s : State} {tag : Byte} {entry : List Byte} {w : WindowValues} (hs : s.Ready)
    (hw : s.service.window = .opened w) (hb : (w.table.heldBack && s.link.returnInProcessing) = false)
    (hl : entry.length = entryLength w.table) {x : State × Answer}
    (hx : (handleEntries false 1 [entry] (DataRun.start s w)).finished = x) :
    exec (.tableData tag (1 :: entry)) s = .next (x.1.answered tag 0x21 x.2.outcome x.2.reason x.2.data) := by
  have hlen : entryLength w.table ≤ 128 := by cases w.table <;> decide
  have h := exec_tableData_now (tag := tag) (entries := [entry]) hs hw hb (by simpa using hl) (Nat.le_refl 1) (by simp)
    (by simp only [List.length_singleton]; omega) hx
  simpa [byteOf] using h

/-- Settles O29: the one entry past the end, refused, or written. -/
theorem tableDataOneEntry : Obligations.TableDataOneEntry := by
  intro s tag entry w hs hw hb hl
  have hsame : s.setService { s.service with window := .opened w } = s := by rw [← hw]; rfl
  refine ⟨fun hm hlt => ?_, fun hin => ⟨fun r hc => ?_, fun e hc => ?_⟩⟩
  · rw [exec_tableData_one hs hw hb hl (congrArg DataRun.finished (handleEntries_past false 1 entry [] _ (w.atEnd_stop hm hlt)))]
    exact congrArg (fun t : State => Host.Outcome.next (t.answered _ _ _ _ _)) hsame
  · rw [exec_tableData_one hs hw hb hl (congrArg DataRun.finished (handleEntries_refused false 1 entry [] _ (w.not_atEnd hin) hc)),
      ← refusalOutcome_eq]
    exact congrArg (fun t : State => Host.Outcome.next (t.answered _ _ _ _ _)) hsame
  · obtain ⟨next, hstop, hwrap, hadv⟩ := w.advanced_eq
    obtain rfl : w.advanced.pointer = next := by rw [hadv]
    refine ⟨_, hstop, hwrap, ?_⟩
    rw [exec_tableData_one hs hw hb hl (congrArg DataRun.finished (handleEntries_passed false 1 entry [] _ (w.not_atEnd hin) hc)),
      writeEntry_window, ← hadv]
    obtain ⟨_, hv, _⟩ := writeEntry_frame s w.pointer e
    rw [← hv]
    rfl

/-- Settles O30: the counts by induction over the entries, each entry by its own rule, and the whole request. -/
theorem tableDataCounts : Obligations.TableDataCounts := by
  refine ⟨fun held s w entries => ?_, fun held k b bs d => ⟨fun hm hlt => handleEntries_past held k b bs d (d.window.atEnd_stop hm hlt),
    fun hin => ⟨fun r hc => ?_, fun e hc => ?_⟩⟩, fun s tag entries w hs hw hb hl h1 h16 hlen =>
    exec_tableData_now hs hw hb hl h1 h16 hlen rfl⟩
  · obtain ⟨hd, hf, hp, hv⟩ := handleEntries_counts held 1 entries (DataRun.start s w) rfl rfl
    simp only [DataRun.start_written, DataRun.start_past, DataRun.start_window] at hd hf hp hv
    refine ⟨fun h => ⟨(hd h).1, by have := (hd h).2; omega⟩, fun h => ?_, fun h => ?_, ?_, ?_, ?_, ?_⟩
    · have := hf h
      omega
    · have := hp h
      omega
    · exact (congrArg WindowValues.table hv).trans rfl
    · exact (congrArg WindowValues.start hv).trans rfl
    · exact (congrArg WindowValues.last hv).trans rfl
    · exact (congrArg WindowValues.method hv).trans rfl
  · rw [handleEntries_refused held k b bs d (d.window.not_atEnd hin) hc, refusalOutcome_eq]
  · obtain ⟨next, hstop, hwrap, hadv⟩ := d.window.advanced_eq
    refine ⟨next, hstop, hwrap, ?_⟩
    rw [handleEntries_passed held k b bs d (d.window.not_atEnd hin) hc, hadv]
    rfl

/-! ### Held back -/

/-- Entries that are held back are buffered, as many as are counted, and nothing else is done to the part (R40). -/
theorem handleEntries_held (k : Nat) (l : List (List Byte)) (d : DataRun) :
    ∃ placed, (handleEntries true k l d).state =
        d.state.setService { d.state.service with deferred := d.state.service.deferred ++ placed } ∧
      d.written + placed.length = (handleEntries true k l d).written := by
  induction l generalizing k d with
  | nil => exact ⟨[], by rw [List.append_nil]; rfl, rfl⟩
  | cons b bs ih =>
    cases he : d.window.atEnd with
    | true =>
      rw [handleEntries_past true k b bs d he]
      exact ih (k + 1) { d with past := d.past + 1 }
    | false =>
      cases hc : checkEntry d.state d.window.table d.window.pointer b with
      | error r =>
        rw [handleEntries_refused true k b bs d he hc]
        exact ⟨[], by rw [List.append_nil]; rfl, rfl⟩
      | ok e =>
        rw [handleEntries_passed true k b bs d he hc]
        obtain ⟨placed, hstate, hcount⟩ := ih (k + 1) { d with
          state := placeEntry true d.state d.window.pointer e, window := d.window.advanced, written := d.written + 1 }
        refine ⟨(d.window.pointer, e) :: placed, hstate.trans ?_, ?_⟩
        · rw [List.append_cons]
          rfl
        · rw [← hcount, List.length_cons]
          dsimp only
          omega

theorem finished_held {d t : DataRun} {placed : List (Nat × Entry)}
    (h : t.state = d.state.setService { d.state.service with deferred := d.state.service.deferred ++ placed }) :
    t.finished.1 = d.state.setService
      { d.state.service with window := .opened t.window, deferred := d.state.service.deferred ++ placed } := by
  rw [DataRun.finished, h]
  rfl

theorem handleEntries_written_le (held : Bool) (l : List (List Byte)) (s : State) (w : WindowValues) :
    (handleEntries held 1 l (DataRun.start s w)).written ≤ l.length := by
  obtain ⟨hd, hf, _, _⟩ := handleEntries_counts held 1 l (DataRun.start s w) rfl rfl
  simp only [DataRun.start_written, DataRun.start_past] at hd hf
  by_cases h : (handleEntries held 1 l (DataRun.start s w)).outcome = .done
  · have := (hd h).2
    omega
  · have := hf h
    omega

/-- A held-back TABLE DATA, whatever its form: window and buffer of the service block, no more. -/
theorem dataInWindow_held (s : State) (w : WindowValues) (p : List Byte) :
    ∃ v placed, (dataInWindow true s w p).1 =
        s.setService { s.service with window := v, deferred := s.service.deferred ++ placed } ∧
      placed.length = ((dataInWindow true s w p).2.data.headD 0).toNat := by
  have unchanged : s = s.setService { s.service with window := s.service.window, deferred := s.service.deferred ++ [] } := by
    rw [List.append_nil]
    rfl
  by_cases hform : p = [] ∨ p.length ≠ 1 + (p.headD 0).toNat * entryLength w.table
  · rw [dataInWindow_badFormat true s w hform]
    exact ⟨_, [], unchanged, rfl⟩
  · obtain ⟨hne, hlen⟩ := not_or.1 hform
    obtain ⟨count, rest, rfl⟩ := List.exists_cons_of_ne_nil hne
    have hl : rest.length = count.toNat * entryLength w.table := by simpa [Nat.add_comm] using hlen
    by_cases hc : 1 ≤ count.toNat ∧ count.toNat ≤ 16
    · rw [dataInWindow_entries true s w hl hc]
      obtain ⟨placed, hstate, hcount⟩ := handleEntries_held 1 (cutEntries (entryLength w.table) count.toNat rest) (DataRun.start s w)
      have hle := handleEntries_written_le true (cutEntries (entryLength w.table) count.toNat rest) s w
      rw [cutEntries_length] at hle
      refine ⟨_, placed, finished_held hstate, ?_⟩
      · have hw : placed.length = (handleEntries true 1 (cutEntries (entryLength w.table) count.toNat rest) (DataRun.start s w)).written := by
          simpa using hcount
        rw [hw]
        exact (byteOf_toNat (by omega)).symm
    · rw [dataInWindow_badCount true s w hl (by omega)]
      refine ⟨_, [], unchanged, ?_⟩
      unfold State.nothingWrittenData
      cases s.service.window <;> rfl

/-- The buffered entries are written to the tables, whatever link block and service block hold meanwhile. -/
theorem writeAll_blocks (l : List (Nat × Entry)) (s : State) (k : Link) (v : Service) :
    l.foldl (fun s p => writeEntry s p.1 p.2) { s with link := k, service := v } =
      { l.foldl (fun s p => writeEntry s p.1 p.2) s with link := k, service := v } := by
  induction l generalizing s with
  | nil => rfl
  | cons p l ih => rw [List.foldl_cons, List.foldl_cons, writeEntry_blocks, ih]

/-- The end of return-frame processing with a reply held back and room for it (R40). -/
theorem leaveProcessing_held {s : State} {r : Reply} (h : s.service.heldReply = some r) (hr : s.Room .u) :
    leaveProcessing s = { s.service.deferred.foldl (fun s p => writeEntry s p.1 p.2) s with
      service := { s.service with deferred := [], heldReply := none }
      link := { s.link with returnInProcessing := false, txU := s.link.txU ++ [.reply r] } } := by
  have hw : writeDeferred (s.setLink { s.link with returnInProcessing := false }) =
      { s.service.deferred.foldl (fun s p => writeEntry s p.1 p.2) s with
        service := { s.service with deferred := [] }, link := { s.link with returnInProcessing := false } } := by
    have := writeAll_blocks s.service.deferred s { s.link with returnInProcessing := false } s.service
    exact congrArg (fun t : State => t.setService { s.service with deferred := [] }) this
  rw [leaveProcessing, hw, releaseHeldReply]
  simp only [h]
  rcases State.placeTx_cases (State.setService { s.service.deferred.foldl (fun s p => writeEntry s p.1 p.2) s with
      service := { s.service with deferred := [] }, link := { s.link with returnInProcessing := false } }
    { s.service with deferred := [], heldReply := none }) .u (.reply r) with ⟨hf, _⟩ | ⟨_, e⟩
  · exact absurd hr (Nat.not_lt.2 hf)
  · exact e

end Sys2Proof.Machine
end

section
/-! A TABLE DATA taken between two pieces of a return frame: buffered there, written and answered when the frame has left
(TableDataHeldBack). -/

namespace Sys2Proof.Machine

/-! ### The pieces of a frame before and after an event -/

theorem framePieces_add (p : Port) (during : List Interleaved) (a k l : Nat) (m : Mid) :
    framePieces p during a (k + l) m = framePieces p during (a + k) l (framePieces p during a k m) := by
  induction l with
  | zero => rfl
  | succ l ih => rw [← Nat.add_assoc, framePieces_succ, ih, framePieces_succ, Nat.add_assoc]

/-- Where no event falls, none happens. -/
theorem eventsWhere_of_none {during : List Interleaved} {here : Nat → Bool} (h : ∀ e ∈ during, here e.slot = false) (m : Mid) :
    eventsWhere during here m = m := by
  have hn : during.filter (fun e => here e.slot) = [] := List.filter_eq_nil_iff.2 fun e he => by simp [h e he]
  simp [eventsWhere, hn]

theorem framePieces_of_none (p : Port) {during : List Interleaved} {a k : Nat} (h : ∀ e ∈ during, e.slot < a ∨ a + k ≤ e.slot) (m : Mid) :
    framePieces p during a k m = framePieces p [] a k m := by
  induction k generalizing a m with
  | zero => rfl
  | succ k ih =>
    have hne : ∀ e ∈ during, e.slot ≠ a := fun e he => by have := h e he; omega
    have hnone : eventsWhere during (fun i => i == a) m = m :=
      eventsWhere_of_none (here := fun i => i == a) (fun e he => beq_eq_false_iff_ne.2 (hne e he)) m
    have hrest : ∀ e ∈ during, e.slot < a + 1 ∨ a + 1 + k ≤ e.slot := fun e he => by have := h e he; omega
    rw [framePieces, framePieces, hnone, eventsWhere_nil, ih hrest]

/-- A piece of a return frame that is not its end leaves link block and service block. -/
theorem BackAt.handle_keeps {f : CycleFrame} {originated : Bool} {n : Nat} {m : Mid} (h : BackAt f originated n m)
    (hn : n < f.slots.length + 3) : ReturnKeeps m.state (m.handle .d).state := by
  obtain ⟨run, hback, _, _⟩ := h
  by_cases hslot : n < f.slots.length
  · rw [List.drop_eq_getElem_cons hslot] at hback
    rw [Mid.handle_backSlot hback]
    exact (backSlot_slotKeeps m.state run _).toReturnKeeps
  · have hlt : n - f.slots.length < endStages.length := by simp only [endStages, List.length_cons, List.length_nil]; omega
    rw [List.drop_of_length_le (Nat.le_of_not_lt hslot), List.drop_eq_getElem_cons hlt] at hback
    rw [Mid.handle_endStage hback]
    exact endStage_returnKeeps run f.cycle m.state _

/-- A return frame of which a number of pieces have been handled, with nothing between them. -/
structure Handled (s : State) (f : CycleFrame) (n : Nat) (m : Mid) : Prop where
  back : BackAt f (decide (f.cycle ∈ s.link.outstanding)) n m
  keeps : ReturnKeeps (startBack s f).1 m.state
  out : m.out = none

theorem handled_pieces {s : State} {f : CycleFrame} (hf : cycleFits f = true) {n : Nat} (hn : n ≤ f.slots.length + 3) :
    Handled s f n (framePieces .d [] 0 n ((Mid.idle s).takes .d f)) := by
  have hstart : Handled s f 0 ((Mid.idle s).takes .d f) := by
    refine ⟨⟨BackRun.start, by simp [Mid.takes, hf, startBack], BackRun.Follows.start, ?_⟩, ?_, by simp [Mid.takes, hf, Mid.idle]⟩
    · have : (startBack s f).1.InProcessing := rfl
      simpa [Mid.takes, hf] using this
    · have := ReturnKeeps.refl (startBack s f).1
      simpa [Mid.takes, hf] using this
  have hpieces := framePieces_counts (P := Handled s f) (p := .d) (during := []) (last := f.slots.length + 3)
    (fun _ _ _ hmem => absurd hmem List.not_mem_nil)
    (fun n m hlt h => ⟨h.back.handle hlt, h.keeps.trans (h.back.handle_keeps hlt), (Mid.handle_d_out m).trans h.out⟩) 0 n (by omega) hstart
  rwa [Nat.zero_add] at hpieces

/-! ### A request between two pieces -/

/-- A request that is handed over to an empty queue and served next is carried out. -/
theorem serveOldest_takeRequest {s : State} {r : Request} (hq : s.service.requests = []) (hw : mustWait s r = false)
    (hl : r.params.length ≤ 1528) : serveOldest (takeRequest s r) = completeRequest s r := by
  have ht : takeRequest s r = { s with service := { s.service with requests := [r] } } := by
    rw [takeRequest, if_pos (by simpa [Config.maxFrameBytes] using hl), handOver_room (by simp [hq]), hq]
    rfl
  have hs : ({ s with service := { s.service with requests := [] } } : State) = s := by rw [← hq]
  rw [ht, serveOldest_takes (s := { s with service := { s.service with requests := [r] } }) (rest := []) rfl hw]
  exact congrArg (completeRequest · r) hs

/-- The two events, on a part whose U port has no frame in processing. -/
theorem eventsWhere_request {m : Mid} (n : Nat) {tag code : Byte} {params : List Byte} (ho : m.out = none)
    (hq : m.state.service.requests = []) (hw : mustWait m.state { tag := tag, code := code, params := params } = false)
    (hl : params.length ≤ 1528) :
    eventsWhere [⟨n, .handOver tag code params⟩, ⟨n, .serve⟩] (fun i => i == n) m =
      { m with state := completeRequest m.state { tag := tag, code := code, params := params } } := by
  have hf : m.finish .u = m := by simp [Mid.finish, ho]
  rw [← serveOldest_takeRequest hq hw hl]
  simp [eventsWhere, midEvent, hf, Mid.on, ho]

/-- The command is the pieces before the events, the events, and the rest of the frame. -/
theorem cycleFrameWith_request {s t : State} {f : CycleFrame} {n : Nat} {e₁ e₂ : MidEvent} {b : BackFrame}
    (hn : n ≤ f.slots.length + 3)
    (hback : (framePieces .d [] 0 n ((Mid.idle s).takes .d f)).back = some b) (hout : (framePieces .d [] 0 n ((Mid.idle s).takes .d f)).out = none)
    (hb : b.todo.length + b.stages.length = f.slots.length + 3 - n)
    (ht : eventsWhere [⟨n, e₁⟩, ⟨n, e₂⟩] (fun i => i == n) (framePieces .d [] 0 n ((Mid.idle s).takes .d f)) =
      { framePieces .d [] 0 n ((Mid.idle s).takes .d f) with state := t }) :
    cycleFrameWith .d s f [⟨n, e₁⟩, ⟨n, e₂⟩] = finishReturn t b := by
  have hcount : pieceCount .d f = n + (b.todo.length + b.stages.length + 1) := by
    have : pieceCount .d f = f.slots.length + 3 + 1 := rfl
    omega
  have hevents : ∀ e ∈ ([⟨n, e₁⟩, ⟨n, e₂⟩] : List Interleaved), e.slot = n := by simp
  have hbefore : framePieces .d [⟨n, e₁⟩, ⟨n, e₂⟩] 0 n ((Mid.idle s).takes .d f) = framePieces .d [] 0 n ((Mid.idle s).takes .d f) :=
    framePieces_of_none .d (fun e he => by rw [hevents e he]; omega) _
  have hafter (k : Nat) (m : Mid) : framePieces .d [⟨n, e₁⟩, ⟨n, e₂⟩] (n + 1) k m = framePieces .d [] (n + 1) k m :=
    framePieces_of_none .d (fun e he => by rw [hevents e he]; omega) _
  have hlate (m : Mid) : eventsWhere [⟨n, e₁⟩, ⟨n, e₂⟩] (fun i => decide (pieceCount .d f ≤ i)) m = m :=
    eventsWhere_of_none (fun e he => decide_eq_false (by rw [hevents e he, hcount]; omega)) m
  have hrest : framePieces .d [⟨n, e₁⟩, ⟨n, e₂⟩] n (b.todo.length + b.stages.length + 1) (framePieces .d [] 0 n ((Mid.idle s).takes .d f)) =
      { framePieces .d [] 0 n ((Mid.idle s).takes .d f) with state := finishReturn t b, back := none } := by
    rw [framePieces, ht, hafter]
    exact framePieces_back n { framePieces .d [] 0 n ((Mid.idle s).takes .d f) with state := t } b.cycle b.originated b.todo b.stages b.run
      hback
  rw [cycleFrameWith]
  rw [hlate, hcount, framePieces_add, hbefore, Nat.zero_add, hrest]
  simp [Mid.finish, hout]

/-! ### The end of the frame -/

/-- The frame end before the buffer is written: what it leaves, and the frame that it forwards. -/
theorem frameEnd_keeps {s : State} (hr : s.Room .u) (b : BackFrame) :
    let w := if b.originated then finishOriginated s else finishForwarded s b.cycle b.run.done
    w.setup = s.setup ∧ w.axes = s.axes ∧ w.map = s.map ∧ w.service = s.service ∧
      ∃ frames, w.link = { s.link with txU := s.link.txU ++ frames } ∧ (b.originated = true → frames = []) ∧
        (b.originated = false → ∃ slots, frames = [.back { cycle := b.cycle, slots := slots }]) := by
  cases hb : b.originated with
  | true =>
    obtain ⟨q, n, _, e⟩ := judgeStall_queueOnly s 0
    have hw : finishOriginated s = (s.setQueue q).setNotices n := e
    simp only [if_true, hw]
    exact ⟨rfl, rfl, rfl, rfl, [], by rw [List.append_nil]; rfl, fun _ => rfl, nofun⟩
  | false =>
    obtain ⟨q, n, _, e⟩ := reported_queueOnly s b.run.done
    obtain ⟨l, n', _, e'⟩ := forward_d_form (reported s b.run.done) (.back { cycle := b.cycle, slots := (writeReport s b.run.done).2.1 })
    have hlink := (finishForwarded_link s b.cycle b.run.done).1 hr
    have hw : finishForwarded s b.cycle b.run.done = (((s.setQueue q).setNotices n).setLink l).setNotices n' := by
      rw [finishForwarded_eq, e', e]
    simp only [Bool.false_eq_true, if_false]
    refine ⟨by rw [hw]; rfl, by rw [hw]; rfl, by rw [hw]; rfl, finishForwarded_service s _ _, _, hlink, nofun, fun _ => ⟨_, rfl⟩⟩

/-- The rest of a return frame with a TABLE DATA held back: its one entry is written last, and its reply follows the frame (R40). -/
theorem finishReturn_held {s : State} {b : BackFrame} {r : Reply} {i : Nat} {e : Entry} (hd : s.service.deferred = [(i, e)])
    (hr : s.service.heldReply = some r) (hroom : s.link.txU.length ≤ 6) :
    ∃ u frames, u.setup = s.setup ∧ u.axes = s.axes ∧ u.map = s.map ∧ (writeEntry u i e).SameTables (finishReturn s b) ∧
      (finishReturn s b).service = { s.service with deferred := [], heldReply := none } ∧
      (finishReturn s b).link.txU = s.link.txU ++ frames ++ [.reply r] ∧ (b.originated = true → frames = []) ∧
      (b.originated = false → ∃ slots, frames = [.back { cycle := b.cycle, slots := slots }]) := by
  have hkeeps := (backSlots_slotKeeps s b.run b.todo).toReturnKeeps.trans
    (foldl_endStage_returnKeeps (backSlots s b.run b.todo).2 b.cycle b.stages (backSlots s b.run b.todo).1)
  unfold finishReturn endBack
  dsimp only
  generalize b.stages.foldl (endStage (backSlots s b.run b.todo).2 b.cycle) (backSlots s b.run b.todo).1 = v at hkeeps
  have hvroom : v.Room .u := by
    rw [State.room_iff, hkeeps.link]
    exact Nat.lt_of_le_of_lt hroom (by decide)
  obtain ⟨hsetup, haxes, hmap, hservice, frames, hlink, horiginated, hforwarded⟩ := frameEnd_keeps hvroom
    { cycle := b.cycle, originated := b.originated, todo := [], stages := [], run := (backSlots s b.run b.todo).2 }
  dsimp only at hsetup haxes hmap hservice hlink horiginated hforwarded
  generalize (if b.originated = true then finishOriginated v else finishForwarded v b.cycle (backSlots s b.run b.todo).2.done) = w at *
  have hlen : frames.length ≤ 1 := by
    cases hb : b.originated with
    | true => rw [horiginated hb]; exact Nat.zero_le 1
    | false =>
      obtain ⟨slots, e⟩ := hforwarded hb
      rw [e]
      exact Nat.le_refl 1
  have hwroom : w.Room .u := by
    rw [State.room_iff, hlink, hkeeps.link]
    change (s.link.txU ++ frames).length < 8
    rw [List.length_append]
    omega
  have hwservice : w.service = s.service := hservice.trans hkeeps.service
  have hend := leaveProcessing_held (s := w) (hwservice ▸ hr) hwroom
  rw [hwservice, hd, hlink, hkeeps.link] at hend
  rw [hend]
  exact ⟨w, frames, hsetup.trans hkeeps.setup, haxes.trans hkeeps.axes, hmap.trans hkeeps.map, ⟨rfl, rfl, rfl, rfl, rfl, rfl, rfl⟩, rfl, rfl,
    horiginated, hforwarded⟩

/-! ### The TABLE DATA -/

/-- A TABLE DATA of one entry that passes, taken while its table is held back (R40). -/
theorem completeRequest_one_held {s : State} {tag : Byte} {entry : List Byte} {w : WindowValues} {e : Entry}
    (hh : s.service.heldReply = none) (hw : s.service.window = .opened w) (hb : w.table.heldBack = true) (hp : s.InProcessing)
    (hl : entry.length = entryLength w.table) (hin : w.method = .wrap ∨ w.pointer ≤ w.last)
    (hc : checkEntry s w.table w.pointer entry = .ok e) :
    completeRequest s { tag := tag, code := 0x21, params := 1 :: entry } =
      s.setService { s.service with
        window := .opened w.advanced
        deferred := s.service.deferred ++ [(w.pointer, e)]
        heldReply := some {
          tag := tag, code := 0x21
          answer := { outcome := .done, reason := .none, data := [1, 0, 0] ++ leBytes 2 w.advanced.pointer ++ [1] } } } := by
  have hcut : cutEntries (entryLength w.table) 1 entry = [entry] := by rw [cutEntries, cutEntries, List.take_of_length_le hl.le]
  have hd : dataInWindow true s w (1 :: entry) = _ :=
    (dataInWindow_entries true s w (by simpa using hl) (by decide)).trans
      (congrArg (fun l => (handleEntries true 1 l (DataRun.start s w)).finished) hcut |>.trans
        (congrArg DataRun.finished (handleEntries_passed true 1 entry [] (DataRun.start s w) (w.not_atEnd hin) hc)))
  have hheld : (w.table.heldBack && s.link.returnInProcessing) = true := Bool.and_eq_true_iff.2 ⟨hb, hp⟩
  rw [completeRequest_held (tableDataTaken_held hh hw _ hheld), hd]
  rfl

theorem heldBack_between {s : State} {f : CycleFrame} {n : Nat} {tag : Byte} {w : WindowValues} {entry : List Byte} {e : Entry}
    (hs : s.Ready) (hf : cycleFits f = true) (hn : n ≤ f.slots.length + 3) (hd : s.service.deferred = []) (hroom : s.link.txU.length ≤ 6)
    (hw : s.service.window = .opened w) (hb : w.table.heldBack = true) (hl : entry.length = entryLength w.table)
    (hin : w.method = .wrap ∨ w.pointer ≤ w.last)
    (hc : checkEntry (framePieces .d [] 0 n ((Mid.idle s).takes .d f)).state w.table w.pointer entry = .ok e) :
    ∃ t u, exec (.returnCycleFrame f [⟨n, .handOver tag 0x21 (1 :: entry)⟩, ⟨n, .serve⟩]) s = .next t ∧
      u.setup = s.setup ∧ u.axes = s.axes ∧ u.map = s.map ∧ (writeEntry u w.pointer e).SameTables t ∧
      t.service = { s.service with window := .opened w.advanced } ∧
      (∃ frames, t.link.txU = s.link.txU ++ frames ++ [.reply {
          tag := tag, code := 0x21
          answer := { outcome := .done, reason := .none, data := [1, 0, 0] ++ leBytes 2 w.advanced.pointer ++ [1] } }] ∧
        (f.cycle ∈ s.link.outstanding → frames = []) ∧
        (f.cycle ∉ s.link.outstanding → ∃ slots, frames = [.back { cycle := f.cycle, slots := slots }])) := by
  obtain ⟨hp, hq, hh⟩ := hs
  obtain ⟨⟨run, hback, _, hprocessing⟩, hkeeps, hout⟩ := handled_pieces (s := s) hf hn
  have hlen : entryLength w.table ≤ 128 := by cases w.table <;> decide
  have hservice : (framePieces .d [] 0 n ((Mid.idle s).takes .d f)).state.service = s.service := hkeeps.service
  have hlink : (framePieces .d [] 0 n ((Mid.idle s).takes .d f)).state.link.txU = s.link.txU :=
    (congrArg Link.txU hkeeps.link).trans rfl
  have hsetup : (framePieces .d [] 0 n ((Mid.idle s).takes .d f)).state.setup = s.setup := hkeeps.setup
  have haxes : (framePieces .d [] 0 n ((Mid.idle s).takes .d f)).state.axes = s.axes := hkeeps.axes
  have hmap : (framePieces .d [] 0 n ((Mid.idle s).takes .d f)).state.map = s.map := hkeeps.map
  have hev := eventsWhere_request n (tag := tag) (code := 0x21) (params := 1 :: entry) hout (by rw [hservice, hq])
    ((mustWait_not_iff _ _).2 (.inr rfl)) (by rw [List.length_cons, hl]; omega)
  have hheld := completeRequest_one_held (tag := tag) (by rw [hservice, hh]) (by rw [hservice, hw]) hb hprocessing hl hin hc
  generalize completeRequest (framePieces .d [] 0 n ((Mid.idle s).takes .d f)).state { tag := tag, code := 0x21, params := 1 :: entry } = t
    at hev hheld
  have hstages : endStages.length = 3 := rfl
  have hcycle := cycleFrameWith_request hn hback hout (by simp only [List.length_drop, hstages]; omega) hev
  have htx : t.link.txU = s.link.txU := by rw [hheld, State.setService_link, hlink]
  obtain ⟨u, frames, h1, h2, h3, htables, hserv, hframes, ho, hfw⟩ := finishReturn_held (s := t)
    (b := ⟨f.cycle, decide (f.cycle ∈ s.link.outstanding), f.slots.drop n, endStages.drop (n - f.slots.length), run⟩) (i := w.pointer) (e := e)
    (by rw [hheld, State.setService_service, hservice, hd]; rfl) (by rw [hheld, State.setService_service]) (by rw [htx]; exact hroom)
  rw [exec_return hp, hcycle]
  refine ⟨_, u, rfl, ?_, ?_, ?_, htables, hserv.trans ?_, frames, by rw [hframes, htx], fun h => ho (decide_eq_true h),
    fun h => hfw (decide_eq_false h)⟩
  · rw [h1, hheld]; exact hsetup
  · rw [h2, hheld]; exact haxes
  · rw [h3, hheld]; exact hmap
  · rw [hheld, State.setService_service, hservice, ← hd, ← hh]

/-- Settles O31: the request between two pieces, any held-back request, and the end of the frame. -/
theorem tableDataHeldBack : Obligations.TableDataHeldBack := by
  refine ⟨fun s f n tag w entry e hs hf hn hd hroom hw hb hl hin => ?_, fun s tag params w hs hl hw hb hp => ?_, fun s r hr hroom => ?_⟩
  · intro during m hc
    have hm : m = framePieces .d [] 0 n ((Mid.idle s).takes .d f) :=
      framePieces_of_none .d (fun x hx => .inr (by simp only [during, List.mem_cons, List.not_mem_nil, or_false] at hx; rcases hx with rfl | rfl <;> simp)) _
    obtain ⟨next, hstop, hwrap, hadv⟩ := w.advanced_eq
    obtain rfl : w.advanced.pointer = next := by rw [hadv]
    obtain ⟨t, u, hexec, h1, h2, h3, htables, hservice, hlink⟩ := heldBack_between (tag := tag) hs hf hn hd hroom hw hb hl hin (hm ▸ hc)
    exact ⟨t, u, _, hexec, hstop, hwrap, h1, h2, h3, htables, hservice.trans (by rw [← hadv]), hlink⟩
  · obtain ⟨hpin, hq, hh⟩ := hs
    obtain ⟨v, placed, hstate, hcount⟩ := dataInWindow_held s w params
    refine ⟨?_, ?_, ?_, placed, ?_, hcount⟩
    · rw [exec_tableData hpin hq hl, completeRequest_held (tableDataTaken_held hh hw params (Bool.and_eq_true_iff.2 ⟨hb, hp⟩))]
    · rw [hstate]; exact ⟨rfl, rfl, rfl, rfl, rfl, rfl, rfl⟩
    · rw [hstate]; rfl
    · rw [hstate]; rfl
  · rw [leaveProcessing_held hr hroom]
    exact ⟨rfl, rfl, rfl, ⟨rfl, rfl, rfl, rfl, rfl, rfl, rfl⟩⟩

end Sys2Proof.Machine
end

section
/-! A failing change: WINDING, or the way back (R118, R141, R142); and ABORT CHANGE (R143). -/

namespace Sys2Proof.Machine

/-! ### Moves with their outcome spelled out -/

/-- A grant touches the sequencer of a QUEUED arm alone (R128). -/
theorem grantOpening_get {s : State} {arm other : Arm} (h : (s.sequencer.get arm).state ≠ .queued) :
    ((grantOpening s other).sequencer.get arm) = s.sequencer.get arm := by
  unfold grantOpening
  dsimp only
  split
  · rename_i hq
    have hne : arm ≠ other := fun e => h (e ▸ hq)
    split
    · simp [enterOpening, startPhase, offer, PerArm.get_put_ne _ _ hne]
    · simp [enterOpening, startPhase, offer, PerArm.get_put_ne _ _ hne]
    · rfl
  · rfl

theorem releaseRack_get {s : State} {arm other : Arm} (h : (s.sequencer.get arm).state ≠ .queued) :
    ((releaseRack s other).sequencer.get arm) = s.sequencer.get arm := by
  unfold releaseRack
  dsimp only
  split
  · exact grantOpening_get h
  · rfl

/-- The rack channel offers a message while none is outstanding, to its holder (R119). -/
theorem offer_eq {s : State} {arm : Arm} (hh : s.rack.holder = some arm) (hm : s.rack.message = none) (c : PortCommand) (station : Nat) :
    offer s arm c station = s.setRack (s.offered arm c station) := by
  rw [offer, offerMessage, if_pos ⟨hh, hm⟩]
  rfl

theorem releaseHolder_eq {r : Rack} {arm : Arm} (h : r.holder = some arm) :
    releaseHolder r arm = ({ r with holder := r.waiting, waiting := none }, r.waiting) := if_pos h

/-- A change ends: IDLE with its record clear, the rack released, and a waiting arm granted in the same step (R118, R142). -/
theorem endChange_endsChange (s : State) (arm : Arm) : s.EndsChange (endChange s arm) arm := by
  intro hh
  refine ⟨fun hw => ?_, fun next b hw hne hm => ?_⟩
  · rw [endChange, releaseRack, State.setSequencer_rack, releaseHolder_eq hh, hw]
    dsimp only
    rw [← hw]
    rfl
  · intro q hq hb
    have hget : ((s.setSequencer arm Sequencer.initial).sequencer.get next) = q := PerArm.get_put_ne _ _ hne
    rw [endChange, releaseRack, State.setSequencer_rack, releaseHolder_eq hh, hw]
    dsimp only
    generalize hu : (s.setSequencer arm Sequencer.initial).setRack { s.rack with holder := some next, waiting := none } = u
    have huget : u.sequencer.get next = q := by rw [← hu]; exact hget
    have hopen (st : SeqState) : enterOpening u next st b.station = { s with
        sequencer := (s.sequencer.put arm Sequencer.initial).put next { q with
          state := st, portMark := some b.station, phaseTimer := s.phaseExpiry }
        rack := { s.offered next .openPort b.station with holder := some next, waiting := none } } := by
      rw [enterOpening, huget, offer_eq (by rw [← hu]; rfl) (by rw [← hu]; exact hm), ← hu]
      rfl
    unfold grantOpening
    simp only [huget, hq, if_true]
    cases hd : q.drop with
    | some d =>
      obtain rfl : d = b := by simpa [hd] using hb
      simpa [hd] using hopen .dropOpening
    | none =>
      have ht : q.target = some b := by simpa [hd] using hb
      simpa [hd, ht] using hopen .pickOpening

/-- The way back of a change that has failed (R141, R142). -/
theorem wayBack_goesBack (s : State) (arm : Arm) : s.GoesBack (wayBack s arm) arm := by
  refine ⟨fun mark hm => ⟨fun hc => ?_, fun hc hr hh => ?_⟩, fun hm => ?_⟩
  · rw [wayBack, if_pos (by simp [hm]), enterClearing, if_pos (Option.isSome_iff_ne_none.2 hc)]
    rfl
  · rw [wayBack, if_pos (by simp [hm]), enterClearing, if_neg (by simp [hc]), enterReclosing]
    simp only [State.setSequencer_sequencer, PerArm.get_put_same, hm]
    rw [offer_eq (s := s.setSequencer arm _) hh hr]
    simp [State.setSequencer, State.setRack, State.offered]
  · rw [wayBack, hm, if_neg (by simp)]
    exact endChange_endsChange s arm

theorem outstandingFor_iff (r : Rack) (arm : Arm) : r.outstandingFor arm = true ↔ ∃ m, r.message = some m ∧ m.sender = arm := by
  unfold Rack.outstandingFor
  cases r.message <;> simp

/-- A change fails in a phase state (R141). -/
theorem failPhase_changeFails (s : State) (arm : Arm) (c : FailureCause) : s.ChangeFails (failPhase s arm c) arm (failureCode c) := by
  have hrack : ((s.setSequencer arm { s.sequencer.get arm with phaseTimer := none }).raise .changeFailed (.arm arm) (failureCode c)).rack =
      s.rack := rfl
  refine ⟨fun m hm ha => ?_, fun hn => ?_⟩
  · have ho : s.rack.outstandingFor arm = true := (outstandingFor_iff _ _).2 ⟨m, hm, ha⟩
    rw [failPhase]
    dsimp only
    rw [hrack, if_pos ho]
    simp [State.setSequencer, State.raise, State.setNotices]
  · have ho : ¬ s.rack.outstandingFor arm = true := by
      rw [outstandingFor_iff]
      rintro ⟨m, hm, ha⟩
      exact hn m hm ha
    rw [failPhase]
    dsimp only
    rw [hrack, if_neg ho]
    exact wayBack_goesBack _ arm

/-! ### The sequencer after a failure -/

/-- A sequencer on the way back or IDLE, its phase timer stopped. -/
structure Sequencer.Failed (q : Sequencer) : Prop where
  state : q.state.failed = true
  timer : q.phaseTimer = none

theorem endChange_failed (s : State) (arm : Arm) : ((endChange s arm).sequencer.get arm).Failed := by
  rw [endChange, releaseRack_get (by simp [Sequencer.initial]), State.setSequencer_sequencer, PerArm.get_put_same]
  exact ⟨rfl, rfl⟩

theorem enterReclosing_failed {s : State} {arm : Arm} (h : (s.sequencer.get arm).phaseTimer = none) :
    ((enterReclosing s arm).sequencer.get arm).Failed := by
  unfold enterReclosing
  dsimp only
  split
  · rw [State.setSequencer_sequencer, PerArm.get_put_same]
    exact ⟨rfl, h⟩
  · exact endChange_failed s arm

theorem wayBack_failed {s : State} {arm : Arm} (h : (s.sequencer.get arm).phaseTimer = none) :
    ((wayBack s arm).sequencer.get arm).Failed := by
  have hc : ((s.setSequencer arm { s.sequencer.get arm with state := .clearing }).sequencer.get arm).phaseTimer = none := by simpa using h
  unfold wayBack enterClearing
  dsimp only
  split
  · split
    · exact ⟨by simp [SeqState.failed], hc⟩
    · exact enterReclosing_failed hc
  · exact endChange_failed s arm

theorem failPhase_failed (s : State) (arm : Arm) (c : FailureCause) : ((failPhase s arm c).sequencer.get arm).Failed := by
  unfold failPhase
  dsimp only
  split
  · exact ⟨by simp [SeqState.failed], by simp⟩
  · exact wayBack_failed (by simp)

theorem failPhase_notices (s : State) (arm : Arm) (c : FailureCause) :
    (failPhase s arm c).notices = s.notices.enter .changeFailed (.arm arm) (failureCode c) := by
  unfold failPhase
  dsimp only
  split
  · rfl
  · rw [wayBack_notices]
    rfl

/-- In a phase state a failure is one of a phase (R141). -/
theorem failChange_of_phase {s : State} {arm : Arm} (h : (s.sequencer.get arm).state.isPhase = true) (c : FailureCause) :
    failChange s arm c = failPhase s arm c := by
  unfold failChange
  split
  any_goals
    rename_i hs
    simp [hs, SeqState.isPhase] at h
  rfl

/-- A failure after the failure causes none (R141). -/
theorem failChange_of_back {s : State} {arm : Arm} (h : (s.sequencer.get arm).state ∈ [SeqState.winding, .clearing, .reclosing])
    (c : FailureCause) : failChange s arm c = s := by
  simp only [List.mem_cons, List.not_mem_nil, or_false] at h
  rcases h with h | h | h <;> simp [failChange, h]

/-! ### ABORT CHANGE -/

theorem exec_abortChange {s : State} {tag arm : Byte} (hs : s.Ready) {x : State × Answer}
    (hx : withArm s.windowBroken [arm] (abortChange s.windowBroken) = x) :
    exec (.abortChange tag [arm]) s = .next (x.1.answered tag 0x31 x.2.outcome x.2.reason x.2.data) :=
  exec_listed (r := { tag := tag, code := 0x31, params := [arm] }) hs rfl (by simp [listedLengths]) hx

theorem abortChange_idle {s : State} {arm : Arm} (h : (s.sequencer.get arm).state = .idle) :
    abortChange s arm = (s, refusal .state .notActive) := if_pos h

theorem abortChange_active {s : State} {arm : Arm} (h : (s.sequencer.get arm).state ≠ .idle) :
    abortChange s arm = (failChange s arm .aborted, doneWith []) := if_neg h

namespace Requests

/-- Settles O36: the sequencer's states in four groups; in a phase state the failure of a phase. -/
theorem abortChange : Obligations.AbortChange := by
  intro s tag arm hs
  refine ⟨fun ha => exec_abortChange hs (withArm_none _ _ _ ha), fun which ha => ?_⟩
  have aborted {x : State × Answer} (hx : Machine.abortChange s.windowBroken which = x) :
      exec (.abortChange tag [arm]) s = .next (x.1.answered tag 0x31 x.2.outcome x.2.reason x.2.data) :=
    exec_abortChange hs ((withArm_some _ _ _ ha).trans hx)
  refine ⟨fun h => aborted (abortChange_idle h), fun h => ?_, fun h => ?_, fun h => ?_⟩
  · have hne : (s.sequencer.get which).state ≠ .idle := fun e => by simp [e] at h
    rw [aborted (abortChange_active (s := s.windowBroken) hne), failChange_of_back (s := s.windowBroken) h]
    rfl
  · have hne : (s.sequencer.get which).state ≠ .idle := fun e => by simp [e] at h
    rw [aborted (abortChange_active (s := s.windowBroken) hne), failChange]
    have hq : (s.windowBroken.sequencer.get which).state = .queued := h
    simp only [hq, failQueued]
    have hw : withdrawRack s.rack which = { s.rack with waiting := if s.rack.waiting = some which then none else s.rack.waiting } := by
      unfold withdrawRack
      split <;> rfl
    exact congrArg (fun r : Rack => Host.Outcome.next (State.answered (((s.windowBroken.raise _ _ _).setRack r).setSequencer _ _) _ _ _ _ _)) hw
  · have hne : (s.sequencer.get which).state ≠ .idle := fun e => by simp [e, SeqState.isPhase] at h
    have hfail : failChange s.windowBroken which .aborted = failPhase s.windowBroken which .aborted :=
      failChange_of_phase (s := s.windowBroken) h _
    obtain ⟨hstate, htimer⟩ := failPhase_failed s.windowBroken which .aborted
    have hmoves := failChange_sansMoves s.windowBroken which .aborted
    rw [hfail] at hmoves
    have f {α : Type} (g : State → α) : g (failPhase s.windowBroken which .aborted).sansMoves = g s.windowBroken.sansMoves :=
      congrArg g hmoves
    have hlink : (failPhase s.windowBroken which .aborted).link = s.link := f State.link
    refine ⟨_, failPhase s.windowBroken which .aborted, ?_, rfl, failPhase_changeFails _ _ _, hstate, htimer, failPhase_notices _ _ _,
      ?_, f State.supervision, ⟨f State.setup, f State.channels, f State.axes, f State.map, f State.zones, f State.library, f State.plan⟩,
      f State.active⟩
    · rw [aborted (abortChange_active (s := s.windowBroken) hne), hfail]
      rfl
    · simp only [State.answered, hlink]

end Requests

end Sys2Proof.Machine
end

section
/-! The checks of CHANGE PROBE, one under the failure of those before it (R126). -/

namespace Sys2Proof.Machine

@[simp] theorem uField_three_zero (b c d : Byte) (bs : List Byte) :
    uField (b :: c :: d :: bs) 0 3 = b.toNat + 256 * (c.toNat + 256 * d.toNat) := by
  simp [uField, fieldBytes, leNat]

/-! ### Stations and corridors -/

section
variable {s : State} {arm : Arm}

theorem judgeStations_noDropStation (h : dropBerth s arm = none) (target : Option (Nat × LibraryEntry)) :
    judgeStations s arm target = .refused (refusal .state .noDropStation) := by
  unfold judgeStations
  dsimp only
  split
  · rfl
  · rename_i d hd
    have hd : dropBerth s arm = some d := hd
    rw [h] at hd
    cases hd

/-- A berth without a corridor for the arm (R126). -/
def NoCorridor (s : State) (arm : Arm) (b : Berth) : Prop := corridorOf s arm b.station = none

theorem judgeStations_noCorridor {d : Option Berth} (h : dropBerth s arm = some d) {target : Option (Nat × LibraryEntry)}
    (hc : (∃ b, d = some b ∧ NoCorridor s arm b) ∨ ∃ p b, target = some p ∧ berthOf p.1 p.2 = some b ∧ NoCorridor s arm b) :
    judgeStations s arm target = .refused (refusal .state .noCorridor) := by
  unfold judgeStations
  dsimp only
  split
  · rename_i hn
    have hn : dropBerth s arm = none := hn
    rw [h] at hn
    cases hn
  · rename_i d' hd
    have hd : dropBerth s arm = some d' := hd
    obtain rfl : d = d' := Option.some.inj (h.symm.trans hd)
    refine if_neg ?_
    rw [Bool.and_eq_true, not_and_or]
    rcases hc with ⟨b, rfl, hb⟩ | ⟨p, b, rfl, hp, hb⟩
    · have hb : corridorOf s arm b.station = none := hb
      exact .inl (by simp [hb])
    · have hb : corridorOf s arm b.station = none := hb
      exact .inr (by simp [hp, hb])

theorem dropBerth_of_none (h : s.active.get arm = .none) : dropBerth s arm = some none := by rw [dropBerth, h]

theorem dropBerth_of_unknown {x : Nat} (h : s.active.get arm = .unknown x) : dropBerth s arm = none := by rw [dropBerth, h]

theorem dropBerth_of_known {j : Nat} {d : LibraryEntry} (h : s.active.get arm = .known j) (hd : Table.entry s.library j = some d) :
    dropBerth s arm = (berthOf j d).map some := by
  simp [dropBerth, h, hd]

/-! ### The checks in order -/

variable (s arm)

theorem judgeStations_refused_data {target : Option (Nat × LibraryEntry)} {a : Answer} (h : judgeStations s arm target = .refused a) :
    a.data = [] := by
  unfold judgeStations at h
  dsimp only at h
  split at h
  · cases h; rfl
  · split_ifs at h
    cases h; rfl

/-- A refused change is answered without data (R30). -/
theorem judgeChange_refused_data {x : Nat} {a : Answer} (h : judgeChange s arm x = .refused a) : a.data = [] := by
  unfold judgeChange at h
  split_ifs at h
  · cases h; rfl
  · cases h; rfl
  · exact judgeStations_refused_data s arm h
  · split at h
    · cases h; rfl
    · split_ifs at h
      · cases h; rfl
      · cases h; rfl
      · exact judgeStations_refused_data s arm h

variable {s arm} {x : Nat}

theorem judgeChange_busy (h : (s.sequencer.get arm).state ≠ .idle) : judgeChange s arm x = .refused (refusal .busy .none) := if_pos h

variable (h : (s.sequencer.get arm).state = .idle)
include h

theorem judgeChange_stopped (hs : (s.supervision.get arm).state = .stopped) :
    judgeChange s arm x = .refused (refusal .state .armStopped) := by
  rw [judgeChange, if_neg (not_not.2 h), if_pos hs]

variable (hs : (s.supervision.get arm).state ≠ .stopped)
include hs

theorem judgeChange_drop_nothing (hx : x = 0) (ha : s.active.get arm = .none) : judgeChange s arm x = .nothing := by
  rw [judgeChange, if_neg (not_not.2 h), if_neg hs, if_pos hx, if_pos ha]

theorem judgeChange_drop (hx : x = 0) (ha : s.active.get arm ≠ .none) : judgeChange s arm x = judgeStations s arm none := by
  rw [judgeChange, if_neg (not_not.2 h), if_neg hs, if_pos hx, if_neg ha]

variable (hx : x ≠ 0)
include hx

theorem judgeChange_unknown (hf : findIdentity s x = none) : judgeChange s arm x = .refused (refusal .badValue .probeUnknown) := by
  rw [judgeChange, if_neg (not_not.2 h), if_neg hs, if_neg hx, hf]

variable {i : Nat} {e : LibraryEntry} (hf : findIdentity s x = some (i, e))
include hf

theorem judgeChange_notAllowed (ha : e.allowed.covers arm = false) :
    judgeChange s arm x = .refused (refusal .badValue .probeNotAllowed) := by
  rw [judgeChange, if_neg (not_not.2 h), if_neg hs, if_neg hx, hf]
  exact if_pos (by simp [ha])

variable (ha : e.allowed.covers arm = true)
include ha

theorem judgeChange_target_nothing (hk : s.active.get arm = .known i) : judgeChange s arm x = .nothing := by
  rw [judgeChange, if_neg (not_not.2 h), if_neg hs, if_neg hx, hf]
  dsimp only
  rw [if_neg (by simp [ha]), if_pos hk]

variable (hk : s.active.get arm ≠ .known i)
include hk

theorem judgeChange_targetLocation (ht : targetTaken s arm i e = true) :
    judgeChange s arm x = .refused (refusal .state .targetLocation) := by
  rw [judgeChange, if_neg (not_not.2 h), if_neg hs, if_neg hx, hf]
  dsimp only
  rw [if_neg (by simp [ha]), if_neg hk, if_pos ht]

theorem judgeChange_target (ht : targetTaken s arm i e = false) : judgeChange s arm x = judgeStations s arm (some (i, e)) := by
  rw [judgeChange, if_neg (not_not.2 h), if_neg hs, if_neg hx, hf]
  dsimp only
  rw [if_neg (by simp [ha]), if_neg hk, if_neg (by simp [ht])]

end

theorem targetTaken_iff (s : State) (arm : Arm) (i : Nat) (e : LibraryEntry) : targetTaken s arm i e = true ↔
    e.location ≠ .inRack ∨ ((s.sequencer.get (otherArm arm)).state ≠ .idle ∧
      ∃ b, (s.sequencer.get (otherArm arm)).target = some b ∧ b.index = i) := by
  simp [targetTaken]

theorem berthOf_of_home {i station : Nat} {e : LibraryEntry} (h : e.home = some station) :
    berthOf i e = some { index := i, station := station } := by
  simp [berthOf, h]

/-! ### The request -/

theorem exec_changeProbe {s : State} {tag arm i0 i1 i2 : Byte} (hs : s.Ready) {x : State × Answer}
    (hx : withArm s.windowBroken [arm, i0, i1, i2] (fun which => changeProbe s.windowBroken which
      (i0.toNat + 256 * (i1.toNat + 256 * i2.toNat))) = x) :
    exec (.changeProbe tag [arm, i0, i1, i2]) s = .next (x.1.answered tag 0x30 x.2.outcome x.2.reason x.2.data) := by
  refine exec_listed (r := { tag := tag, code := 0x30, params := [arm, i0, i1, i2] }) hs rfl (by simp [listedLengths]) (Eq.trans ?_ hx)
  rw [← uField_three_zero, ← uField_cons arm]
  rfl

theorem changeProbe_refused {s : State} {arm : Arm} {x : Nat} {a : Answer} (h : judgeChange s arm x = .refused a) :
    changeProbe s arm x = (s, a) := by
  simp only [changeProbe, h]

theorem changeProbe_nothing {s : State} {arm : Arm} {x : Nat} (h : judgeChange s arm x = .nothing) :
    changeProbe s arm x = (s.raise .changeDone (.arm arm) 0, doneWith []) := by
  simp only [changeProbe, h]

/-- Settles O34: the verdict of each check, and what each verdict answers. -/
theorem changeProbeRefused : Obligations.ChangeProbeRefused := by
  intro s tag arm i0 i1 i2 hs answers
  refine ⟨fun ha => exec_changeProbe hs (withArm_none _ _ _ ha), ?_⟩
  intro which ha identity nothing noCorridor
  have hrefused {a : Answer} (h : judgeChange s which identity = .refused a) : answers a.outcome a.reason ∧ a.data = [] := by
    have hd := judgeChange_refused_data s which h
    have hexec := exec_changeProbe (tag := tag) hs ((withArm_some s.windowBroken [i0, i1, i2] _ ha).trans
      (changeProbe_refused (s := s.windowBroken) h))
    dsimp only at hexec
    rw [hd] at hexec
    exact ⟨hexec, hd⟩
  have hnothing (h : judgeChange s which identity = .nothing) : nothing :=
    exec_changeProbe hs ((withArm_some s.windowBroken [i0, i1, i2] _ ha).trans (changeProbe_nothing (s := s.windowBroken) h))
  have refuses {o : ReplyOutcome} {r : Reason} (h : judgeChange s which identity = .refused (refusal o r)) : answers o r := (hrefused h).1
  have berthless {j : Nat} {d : LibraryEntry} (hj : s.active.get which = .known j) (hd : Table.entry s.library j = some d)
      (hh : d.home = none) : dropBerth s which = none := by
    rw [dropBerth_of_known hj hd, berthOf, hh]
    rfl
  have berth {j station : Nat} {d : LibraryEntry} (hj : s.active.get which = .known j) (hd : Table.entry s.library j = some d)
      (hh : d.home = some station) : dropBerth s which = some (some { index := j, station := station }) := by
    rw [dropBerth_of_known hj hd, berthOf_of_home hh]
    rfl
  refine ⟨fun a h => hrefused h, fun h => refuses (judgeChange_busy h), fun h hst => refuses (judgeChange_stopped h hst), fun h hst =>
    ⟨fun hx hf => refuses (judgeChange_unknown h hst hx hf), fun i e hx hf => ⟨fun hc => refuses (judgeChange_notAllowed h hst hx hf hc),
      fun hc hk => hnothing (judgeChange_target_nothing h hst hx hf hc hk), fun hc hk => ⟨fun hl => ?_, fun b hq ht hb => ?_, fun hl hn => ?_⟩⟩,
    fun hx hn => hnothing (judgeChange_drop_nothing h hst hx hn), fun hx x hu => ?_, fun j d hx hj hd => ⟨fun hh => ?_, ?_⟩⟩⟩
  · exact refuses (judgeChange_targetLocation h hst hx hf hc hk ((targetTaken_iff _ _ _ _).2 (.inl hl)))
  · exact refuses (judgeChange_targetLocation h hst hx hf hc hk ((targetTaken_iff _ _ _ _).2 (.inr ⟨hq, b, ht, hb⟩)))
  · have hfree : targetTaken s which i e = false := by
      rw [← Bool.not_eq_true, targetTaken_iff]
      rintro (hne | ⟨hq, b, ht, hb⟩)
      · exact hne hl
      · exact hn.elim (fun e => hq e) fun hother => hother b ht hb
    have hjudge := judgeChange_target h hst hx hf hc hk hfree
    refine ⟨fun x hu => ?_, fun j d hj hd => ⟨fun hh => ?_, fun hh hnc => ?_⟩, fun hnone => ?_⟩
    · exact refuses (hjudge.trans (judgeStations_noDropStation (dropBerth_of_unknown hu) _))
    · exact refuses (hjudge.trans (judgeStations_noDropStation (berthless hj hd hh) _))
    · obtain ⟨home, hhome⟩ := Option.ne_none_iff_exists'.1 hh
      refine refuses (hjudge.trans (judgeStations_noCorridor (berth hj hd hhome) ?_))
      rcases hnc with ⟨station, hst', hcor⟩ | ⟨station, hst', hcor⟩
      · obtain rfl : home = station := Option.some.inj (hhome.symm.trans hst')
        exact .inl ⟨_, rfl, hcor⟩
      · exact .inr ⟨_, _, rfl, berthOf_of_home hst', hcor⟩
    · rintro ⟨station, hst', hcor⟩
      exact refuses (hjudge.trans (judgeStations_noCorridor (dropBerth_of_none hnone) (.inr ⟨_, _, rfl, berthOf_of_home hst', hcor⟩)))
  · exact refuses ((judgeChange_drop h hst hx (by simp [hu])).trans (judgeStations_noDropStation (dropBerth_of_unknown hu) _))
  · exact refuses ((judgeChange_drop h hst hx (by simp [hj])).trans (judgeStations_noDropStation (berthless hj hd hh) _))
  · rintro ⟨station, hst', hcor⟩
    exact refuses ((judgeChange_drop h hst hx (by simp [hj])).trans (judgeStations_noCorridor (berth hj hd hst') (.inl ⟨_, rfl, hcor⟩)))

end Sys2Proof.Machine
end

section
/-! READ STATUS: the record cut into its fields, each where R191 has it. -/

namespace Sys2Proof.Machine

/-! ### A record cut into segments -/

/-- Segments written one after another: the ones before an offset are passed over. -/
theorem drop_segments {segments : List (List Byte)} {widths : List Nat} (hs : segments.map List.length = widths) (k o : Nat)
    (ho : (widths.take k).sum = o) : segments.flatten.drop o = (segments.drop k).flatten := by
  subst hs ho
  induction segments generalizing k with
  | nil => simp
  | cons seg rest ih =>
    cases k with
    | zero => simp
    | succ k =>
      simp only [List.map_cons, List.take_succ_cons, List.sum_cons, List.flatten_cons, List.drop_succ_cons]
      rw [List.drop_length_add_append, ih]

/-- Segments written one after another: the ones up to an offset are taken. -/
theorem take_segments {segments : List (List Byte)} {widths : List Nat} (hs : segments.map List.length = widths) (k o : Nat)
    (ho : (widths.take k).sum = o) : segments.flatten.take o = (segments.take k).flatten := by
  subst hs ho
  induction segments generalizing k with
  | nil => simp
  | cons seg rest ih =>
    cases k with
    | zero => simp
    | succ k =>
      simp only [List.map_cons, List.take_succ_cons, List.sum_cons, List.flatten_cons]
      rw [List.take_length_add_append, ih]

/-- A run of segments. -/
theorem slice_segments {segments : List (List Byte)} {widths : List Nat} (hs : segments.map List.length = widths) (k n o w : Nat)
    (ho : (widths.take k).sum = o) (hw : ((widths.drop k).take n).sum = w) :
    (segments.flatten.drop o).take w = ((segments.drop k).take n).flatten := by
  rw [drop_segments hs k o ho]
  exact take_segments (by rw [List.map_drop, hs]) n w hw

/-- A byte that is a segment of its own. -/
theorem getD_segments {segments : List (List Byte)} {widths : List Nat} (hs : segments.map List.length = widths) (k o : Nat) {x : Byte}
    {xs : List Byte} (ho : (widths.take k).sum = o) (hk : segments[k]? = some (x :: xs)) : segments.flatten.getD o 0 = x := by
  have hd := drop_segments hs k o ho
  obtain ⟨hlt, hget⟩ := List.getElem?_eq_some_iff.1 hk
  rw [List.drop_eq_getElem_cons hlt, hget] at hd
  rw [List.getD_eq_getElem?_getD, ← Nat.add_zero o, ← List.getElem?_drop, hd]
  rfl

/-! ### The record of an arm -/

/-- The record of an arm field by field: state, cause, hold position, the axes with their flags, the counts, sequencer, phase timer, walk,
head and active probe record. -/
def armStatusSegments (s : State) (arm : Arm) (o : Nat) : List (List Byte) :=
  let v := s.supervision.get arm
  let h := (s.head.get arm).record
  let c := s.capture.get arm
  let q := s.sequencer.get arm
  let w := s.walk.get arm
  let fill := replyFill s
  [[byteOf (armStateCode v.state)], [byteOf (stopCauseCode v.cause)], optionalBytes fill (o + 2) 15 (v.setpoint.map tripleBytes),
    optionalBytes fill (o + 18) 5 (h.x.last.map (leIntBytes 5)), [byteOf (axisFlagCode h.x.flags)],
    optionalBytes fill (o + 25) 5 (h.y.last.map (leIntBytes 5)), [byteOf (axisFlagCode h.y.flags)],
    optionalBytes fill (o + 32) 5 (h.z.last.map (leIntBytes 5)), [byteOf (axisFlagCode h.z.flags)],
    leBytes 2 v.holdRun ++ leBytes 2 v.clampCount ++ leBytes 2 v.holdCount ++ leBytes 2 c.bounces ++ leBytes 2 c.stucks,
    [byteOf (seqStateCode q.state)], optionalBytes fill (o + 50) 4 (q.phaseTimer.map fun t => leBytes 4 (remainingMs s t)),
    [byteOf (walkCode w)], optionalBytes fill (o + 56) 2 (w.head.map (leBytes 2)), activeBytes (s.active.get arm)]

/-- The widths of these fields (R191). -/
def armStatusWidths : List Nat := [1, 1, 16, 6, 1, 6, 1, 6, 1, 10, 1, 5, 1, 3, 5]

theorem armStatusBytes_eq (s : State) (arm : Arm) (o : Nat) : armStatusBytes s arm o = (armStatusSegments s arm o).flatten := by
  simp [armStatusBytes, armStatusSegments, headAxisBytes]

theorem activeBytes_length (r : ActiveProbe) : (activeBytes r).length = 5 := by cases r <;> simp [activeBytes]

theorem armStatusSegments_widths (s : State) (arm : Arm) (o : Nat) :
    (armStatusSegments s arm o).map List.length = armStatusWidths := by
  have opt (o w : Nat) {α : Type} (f : α → List Byte) (v : Option α) (hf : ∀ x, (f x).length = w) :
      (optionalBytes (replyFill s) o w (v.map f)).length = w + 1 :=
    optionalBytes_length _ _ (by cases v <;> simp [hf])
  simp only [armStatusSegments, armStatusWidths, List.map_cons, List.map_nil, List.length_singleton, List.length_append, leBytes_length,
    activeBytes_length, opt _ _ tripleBytes _ tripleBytes_length, opt _ _ (leIntBytes 5) _ (leIntBytes_length 5),
    opt _ _ (fun t => leBytes 4 (remainingMs s t)) _ fun _ => leBytes_length _ _, opt _ _ (leBytes 2) _ (leBytes_length 2)]

theorem armStatusBytes_length (s : State) (arm : Arm) (o : Nat) : (armStatusBytes s arm o).length = 64 := by
  rw [armStatusBytes_eq, List.length_flatten, armStatusSegments_widths]
  rfl

/-- One field of the record that is a segment. -/
theorem slice_one {segments : List (List Byte)} {widths : List Nat} (hs : segments.map List.length = widths) (k o w : Nat)
    {seg : List Byte} (ho : (widths.take k).sum = o) (hw : ((widths.drop k).take 1).sum = w) (hk : segments[k]? = some seg) :
    (segments.flatten.drop o).take w = seg := by
  obtain ⟨hlt, hget⟩ := List.getElem?_eq_some_iff.1 hk
  rw [slice_segments hs k 1 o w ho hw, List.drop_eq_getElem_cons hlt, hget]
  simp

/-- An axis of the record: the optional corrected value and the flags. -/
theorem armStatus_axis (s : State) (arm : Arm) (o : Nat) (ax : Axis) :
    ((armStatusBytes s arm o).drop (18 + 7 * axisCode ax)).take 7 =
      headAxisBytes (replyFill s) (o + 18 + 7 * axisCode ax) ((s.head.get arm).record.get ax) := by
  have hs := armStatusSegments_widths s arm o
  rw [armStatusBytes_eq]
  cases ax with
  | x => exact (slice_segments hs 3 2 18 7 rfl rfl).trans (by simp [armStatusSegments, headAxisBytes, axisCode, Triple.get])
  | y => exact (slice_segments hs 5 2 25 7 rfl rfl).trans (by simp [armStatusSegments, headAxisBytes, axisCode, Triple.get])
  | z => exact (slice_segments hs 7 2 32 7 rfl rfl).trans (by simp [armStatusSegments, headAxisBytes, axisCode, Triple.get])

theorem headAxisBytes_drop (fill : Nat → Byte) (o : Nat) (h : HeadAxis) :
    (headAxisBytes fill o h).drop 6 = [byteOf (axisFlagCode h.flags)] := by
  have hl : (optionalBytes fill o 5 (h.last.map (leIntBytes 5))).length = 6 := optionalBytes_length _ _ (by cases h.last <;> simp)
  rw [headAxisBytes, List.drop_left' hl]

theorem headAxisBytes_none (fill : Nat → Byte) (o : Nat) {h : HeadAxis} (hn : h.last = none) : (headAxisBytes fill o h).getD 0 0 = 0 := by
  rw [headAxisBytes, hn]
  rfl

theorem headAxisBytes_some (fill : Nat → Byte) (o : Nat) {h : HeadAxis} {x : Int} (hx : h.last = some x) :
    (headAxisBytes fill o h).take 6 = 1 :: leIntBytes 5 x := by
  rw [headAxisBytes, hx]
  exact List.take_left' (by simp [optionalBytes])

/-! ### The whole record -/

theorem statusRecord_part (s : State) (arm : Arm) :
    ((statusRecord s).drop (64 * armCode arm)).take 64 = armStatusBytes s arm (64 * armCode arm) := by
  have ha := armStatusBytes_length s .a 0
  have hb := armStatusBytes_length s .b 64
  simp only [statusRecord, List.append_assoc]
  cases arm with
  | a => exact List.take_left' ha
  | b =>
    change ((armStatusBytes s .a 0 ++ _).drop 64).take 64 = armStatusBytes s .b 64
    rw [List.drop_left' ha]
    exact List.take_left' hb

theorem statusRecord_drop (s : State) : (statusRecord s).drop 128 = byteOf (watchCode s.link.watch) :: (leBytes 2 s.link.badU ++
    leBytes 2 s.link.badD ++ leBytes 2 s.rack.lateReplies ++ leBytes 2 s.queue.overruns ++ leBytes 2 s.notices.lost) := by
  have hl : (armStatusBytes s .a 0 ++ armStatusBytes s .b 64).length = 128 := by
    rw [List.length_append, armStatusBytes_length, armStatusBytes_length]
  have h := List.drop_left' (l₂ := byteOf (watchCode s.link.watch) :: (leBytes 2 s.link.badU ++ leBytes 2 s.link.badD ++
    leBytes 2 s.rack.lateReplies ++ leBytes 2 s.queue.overruns ++ leBytes 2 s.notices.lost)) hl
  simpa [statusRecord] using h

theorem statusRecord_length (s : State) : (statusRecord s).length = 139 := by
  simp [statusRecord, armStatusBytes_length]

/-! ### The request -/

theorem exec_readStatus {s : State} {tag flag : Byte} (hs : s.Ready) {x : State × Answer} (hx : readStatus s.windowBroken [flag] = x) :
    exec (.readStatus tag [flag]) s = .next (x.1.answered tag 0x62 x.2.outcome x.2.reason x.2.data) :=
  exec_listed (r := { tag := tag, code := 0x62, params := [flag] }) hs rfl (by simp [listedLengths]) hx

theorem readStatus_refused (s : State) {flag : Byte} (h : 1 < flag.toNat) : readStatus s [flag] = (s, refusal .badValue .parameter) := by
  simp only [readStatus, uField_byte_zero, flagOf_of_gt h]

theorem readStatus_read (s : State) {flag : Byte} (h : flag.toNat ≤ 1) :
    readStatus s [flag] = (if flag == 1 then clearCounters s.drawn else s.drawn, doneWith (statusRecord s)) := by
  simp only [readStatus, uField_byte_zero, flagOf_of_le h]

namespace Requests

/-- Settles O44: each field of the record by its segment, and the counters by the flag. -/
theorem readStatus : Obligations.ReadStatus := by
  intro s tag flag hs
  refine ⟨fun h => exec_readStatus hs (readStatus_refused _ h), fun h => ⟨statusRecord s, statusRecord_length s, fun arm => ?_,
    statusRecord_drop s, fun h0 => ?_, fun h1 => ?_⟩⟩
  · have hs := armStatusSegments_widths s arm (64 * armCode arm)
    intro part v c q w
    have hpart : part = (armStatusSegments s arm (64 * armCode arm)).flatten := (statusRecord_part s arm).trans (armStatusBytes_eq _ _ _)
    rw [hpart]
    refine ⟨getD_segments hs 0 0 rfl rfl, getD_segments hs 1 1 rfl rfl, fun hv => ?_, fun p hv => ?_, fun ax => ?_,
      slice_one hs 9 39 10 rfl rfl rfl, getD_segments hs 10 49 rfl rfl, fun hq => ?_, fun t hq => ?_, getD_segments hs 12 55 rfl rfl,
      fun hw => ?_, fun i hw => ?_, ?_⟩
    · refine getD_segments hs 2 2 (xs := freeBytes (replyFill s) (64 * armCode arm + 2 + 1) 15) rfl ?_
      simp [armStatusSegments, hv, v, optionalBytes]
    · refine slice_one hs 2 2 16 rfl rfl ?_
      simp [armStatusSegments, hv, v, optionalBytes, tripleBytes]
    · rw [← armStatusBytes_eq, armStatus_axis]
      exact ⟨headAxisBytes_none _ _, fun x => headAxisBytes_some _ _, headAxisBytes_drop _ _ _⟩
    · refine getD_segments hs 11 50 (xs := freeBytes (replyFill s) (64 * armCode arm + 50 + 1) 4) rfl ?_
      simp [armStatusSegments, hq, q, optionalBytes]
    · refine slice_one hs 11 50 5 rfl rfl ?_
      simp [armStatusSegments, hq, q, optionalBytes, remainingMs]
    · refine getD_segments hs 13 56 (xs := freeBytes (replyFill s) (64 * armCode arm + 56 + 1) 2) rfl ?_
      simp [armStatusSegments, hw, w, optionalBytes]
    · refine slice_one hs 13 56 3 rfl rfl ?_
      simp [armStatusSegments, hw, w, optionalBytes]
    · have hseg : ((armStatusSegments s arm (64 * armCode arm)).drop 14).flatten = activeBytes (s.active.get arm) := by
        simp [armStatusSegments]
      rw [drop_segments hs 14 59 rfl, hseg]
      cases s.active.get arm <;> rfl
  · subst h0
    exact exec_readStatus hs (readStatus_read s.windowBroken (flag := 0) (by decide))
  · subst h1
    exact exec_readStatus hs (readStatus_read s.windowBroken (flag := 1) (by decide))

end Requests

end Sys2Proof.Machine
end

section
/-! The temperature channels: what a reading makes of a run state, and the ageing stage as one update of the state (R45, R48 to R55). -/

namespace Sys2Proof.Machine

/-! ### Filter and alarm -/

theorem filterValue_of_filtered {e : ChannelEntry} {run : ChannelRun} {f : Int} (r : Int) (hs : run.seed = false)
    (hf : run.filtered = some f) : filterValue e run r = f + roundDiv (r - f) (2 ^ e.shift) := by
  simp [filterValue, hs, hf]

theorem filterValue_of_seed {e : ChannelEntry} {run : ChannelRun} (r : Int) (hs : run.seed = true) : filterValue e run r = r := by
  simp [filterValue, hs]

theorem alarmTest_of_none {e : ChannelEntry} (f : Int) (h : e.alarm = none) : alarmTest e f = false := by
  simp [alarmTest, h]

theorem alarmTest_of_above {e : ChannelEntry} {threshold : Int} (f : Int) (h : e.alarm = some (threshold, .above)) :
    alarmTest e f = true ↔ threshold ≤ f := by
  simp [alarmTest, h]

theorem alarmTest_of_below {e : ChannelEntry} {threshold : Int} (f : Int) (h : e.alarm = some (threshold, .below)) :
    alarmTest e f = true ↔ f < threshold := by
  simp [alarmTest, h]

/-! ### The run state after a reading -/

section
variable (e : ChannelEntry) {run : ChannelRun}

theorem readyRun_of_fault (h : run.state = .fault) :
    readyRun run = { run with state := .settling, progress := 0, seed := true, outRun := 0 } := by
  simp [readyRun, h]

theorem readyRun_of_ne_fault (h : run.state ≠ .fault) : readyRun run = { run with outRun := 0 } := by
  cases hs : run.state
  case fault => exact absurd hs h
  all_goals simp [readyRun, hs]

theorem readyRun_held (run : ChannelRun) : (readyRun run).held = run.held := by
  unfold readyRun
  split <;> rfl

/-- In a state other than FAULT and without the seed mark the filter takes the reading (R49). -/
theorem filterValue_ready_of_filtered (r : Int) {f : Int} (hne : run.state ≠ .fault) (hs : run.seed = false)
    (hf : run.filtered = some f) : filterValue e (readyRun run) r = f + roundDiv (r - f) (2 ^ e.shift) := by
  rw [readyRun_of_ne_fault hne]
  exact filterValue_of_filtered r hs hf

/-- The seed mark, or a FAULT before, makes the reading itself the filtered value (R49, R52). -/
theorem filterValue_ready_of_seed (r : Int) (h : run.seed = true ∨ run.state = .fault) : filterValue e (readyRun run) r = r := by
  by_cases hf : run.state = .fault
  · rw [readyRun_of_fault hf]
    exact filterValue_of_seed r rfl
  · rw [readyRun_of_ne_fault hf]
    exact filterValue_of_seed r (h.resolve_right hf)

/-- The run state with which an in-range reading leaves the filter and the alarm test, its channel state not yet judged. -/
def filteredRun (run : ChannelRun) (r : Int) : ChannelRun :=
  let f := filterValue e (readyRun run) r
  { readyRun run with filtered := some f, seed := false, alarmOn := alarmTest e f }

theorem filteredRun_held (run : ChannelRun) (r : Int) : (filteredRun e run r).held = run.held := readyRun_held run

/-- A run state VALID with its filtered value held. -/
def ChannelRun.validated (run : ChannelRun) : ChannelRun := { run with state := .valid, held := run.filtered }

/-- A VALID or STALE channel is VALID after an in-range reading (R51). -/
theorem inRangeRun_of_steady (r : Int) (h : run.state = .valid ∨ run.state = .stale) :
    inRangeRun e run r = (filteredRun e run r).validated := by
  rcases h with h | h <;> simp [inRangeRun, filteredRun, ChannelRun.validated, readyRun, h]

/-- The settling progress with an in-range reading counted, which starts again at 1 out of FAULT (R50, R52). -/
def settlingProgress (run : ChannelRun) : Nat := if run.state = .fault then 1 else min 15 (run.progress + 1)

/-- A SETTLING channel, or one in FAULT, counts the in-range reading, and is VALID once the count is reached (R50, R52). -/
theorem inRangeRun_of_settling (r : Int) (h : run.state = .fault ∨ run.state = .settling) :
    inRangeRun e run r =
      if e.settle ≤ settlingProgress run then { filteredRun e run r with progress := settlingProgress run }.validated
      else { filteredRun e run r with progress := settlingProgress run, state := .settling } := by
  rcases h with h | h <;> simp [inRangeRun, filteredRun, ChannelRun.validated, settlingProgress, readyRun, addUpTo, h]

/-- The progress, the state and the held value after an in-range reading of a SETTLING channel or one in FAULT (R50, R52). -/
theorem inRangeRun_progress (r : Int) (h : run.state = .fault ∨ run.state = .settling) :
    let after := inRangeRun e run r
    after.progress = settlingProgress run ∧
    (e.settle ≤ after.progress → after.state = .valid ∧ after.held = after.filtered) ∧
    (after.progress < e.settle → after.state = .settling ∧ after.held = run.held) := by
  rw [inRangeRun_of_settling e r h]
  by_cases hp : e.settle ≤ settlingProgress run
  · rw [if_pos hp]
    exact ⟨rfl, fun _ => ⟨rfl, rfl⟩, fun hlt => absurd hp (not_le.2 hlt)⟩
  · rw [if_neg hp]
    exact ⟨rfl, fun hle => absurd hle hp, fun _ => ⟨rfl, filteredRun_held e run r⟩⟩

/-- The judging of the channel state changes none of the values that the filter and the alarm test gave. -/
theorem inRangeRun_values (run : ChannelRun) (r : Int) :
    (inRangeRun e run r).filtered = some (filterValue e (readyRun run) r) ∧ (inRangeRun e run r).seed = false ∧
    (inRangeRun e run r).outRun = 0 ∧ (inRangeRun e run r).age = run.age ∧
    (inRangeRun e run r).alarmOn = alarmTest e (filterValue e (readyRun run) r) := by
  have hready : (readyRun run).outRun = 0 ∧ (readyRun run).age = run.age := by
    unfold readyRun
    split <;> exact ⟨rfl, rfl⟩
  have hfiltered : (filteredRun e run r).outRun = 0 ∧ (filteredRun e run r).age = run.age := hready
  obtain ⟨hout, hage⟩ := hfiltered
  cases h : run.state
  case valid | stale =>
    rw [inRangeRun_of_steady e r (by simp [h])]
    exact ⟨rfl, rfl, hout, hage, rfl⟩
  case settling | fault =>
    rw [inRangeRun_of_settling e r (by simp [h])]
    split <;> exact ⟨rfl, rfl, hout, hage, rfl⟩

theorem outOfRangeRun_of_fault (h : run.state = .fault) : outOfRangeRun e run = run := by
  simp [outOfRangeRun, h]

/-- In a state other than FAULT an out-of-range reading lengthens the run, and at the debounce count the channel enters FAULT (R53). -/
theorem outOfRangeRun_of_ne_fault (h : run.state ≠ .fault) :
    outOfRangeRun e run =
      { run with
        outRun := min 8 (run.outRun + 1)
        state := if e.debounce ≤ min 8 (run.outRun + 1) then .fault else run.state } := by
  cases hs : run.state
  case fault => exact absurd hs h
  all_goals
    simp only [outOfRangeRun, hs, addUpTo]
    split <;> simp

/-- An out-of-range reading moves a channel into FAULT exactly at the debounce count, and into no other state (R53). -/
theorem outOfRangeRun_enters_fault (h : run.state ≠ .fault) :
    ((outOfRangeRun e run).state = .fault ↔ e.debounce ≤ min 8 (run.outRun + 1)) ∧
    ((outOfRangeRun e run).state ≠ .fault → (outOfRangeRun e run).state = run.state) := by
  rw [outOfRangeRun_of_ne_fault e h]
  by_cases hd : e.debounce ≤ min 8 (run.outRun + 1)
  · rw [if_pos hd]
    exact ⟨iff_of_true rfl hd, fun hne => absurd rfl hne⟩
  · rw [if_neg hd]
    exact ⟨iff_of_false h hd, fun _ => rfl⟩

/-- An out-of-range reading leaves the filter, the held value, the age and the alarm condition (R53, R55). -/
theorem outOfRangeRun_values (run : ChannelRun) :
    (outOfRangeRun e run).filtered = run.filtered ∧ (outOfRangeRun e run).held = run.held ∧ (outOfRangeRun e run).age = run.age ∧
    (outOfRangeRun e run).alarmOn = run.alarmOn := by
  by_cases h : run.state = .fault
  · rw [outOfRangeRun_of_fault e h]
    exact ⟨rfl, rfl, rfl, rfl⟩
  · rw [outOfRangeRun_of_ne_fault e h]
    exact ⟨rfl, rfl, rfl, rfl⟩

end

/-! ### A reading as one update of the state -/

/-- The run state of a channel that got a present reading: its age is 0 (R48). -/
def restedRun (run : ChannelRun) : ChannelRun := { run with age := 0 }

/-- The state with a channel's run state and the notices replaced: all that a reading writes. -/
def State.withRun (s : State) (i : Nat) (c : Channel) (run : ChannelRun) (n : Notices) : State :=
  { s with channels := Table.store s.channels i { c with run := run }, notices := n }

section
variable (s : State) (i : Nat) (c : Channel) (run : ChannelRun) (n : Notices)

theorem State.withRun_entry_same : Table.entry (s.withRun i c run n).channels i = some { c with run := run } :=
  Table.entry_store_same _ _ _

theorem State.withRun_entry_ne (j : Nat) (h : j ≠ i) :
    Table.entry (s.withRun i c run n).channels j = Table.entry s.channels j :=
  Table.entry_store_ne _ _ h

theorem State.withRun_raise_if (p : Prop) [Decidable p] (k : NoticeKind) (j : Subject) (d : Nat) :
    (if p then (s.withRun i c run s.notices).raise k j d else s.withRun i c run s.notices) =
      s.withRun i c run (if p then s.notices.enter k j d else s.notices) := by
  split <;> rfl

end

section
variable {s : State} {i : Nat} {c : Channel} {t : Int}

theorem takeReading_of_unused (h : Table.entry s.channels i = none) : takeReading s i t = s := by
  simp [takeReading, h]

theorem takeReading_of_inRange (h : Table.entry s.channels i = some c) (hr : inRange c.entry (trimmed c.entry t) = true) :
    let run := inRangeRun c.entry (restedRun c.run) (trimmed c.entry t)
    takeReading s i t =
      s.withRun i c run
        (if run.alarmOn = true ∧ c.run.alarmOn = false then s.notices.enter .thermalAlarm (.channel i) 0 else s.notices) := by
  intro run
  rw [← State.withRun_raise_if]
  simp only [takeReading, h, hr, if_true, Bool.and_eq_true, Bool.not_eq_true']
  rfl

theorem takeReading_of_outOfRange (h : Table.entry s.channels i = some c) (hr : ¬ inRange c.entry (trimmed c.entry t) = true) :
    let run := outOfRangeRun c.entry (restedRun c.run)
    takeReading s i t =
      s.withRun i c run
        (if run.state = .fault ∧ c.run.state ≠ .fault then s.notices.enter .channelFault (.channel i) 0 else s.notices) := by
  intro run
  rw [← State.withRun_raise_if]
  simp only [takeReading, h, hr, Bool.false_eq_true, if_false, Bool.and_eq_true, beq_iff_eq, bne_iff_ne]
  rfl

end

theorem inRange_trimmed_iff (e : ChannelEntry) (t : Int) :
    inRange e (trimmed e t) = true ↔ e.low ≤ t + e.trim ∧ t + e.trim ≤ e.high := by
  simp only [inRange, Bool.and_eq_true, decide_eq_true_eq]
  rfl

/-! ### The ageing stage as one update of the state -/

/-- An update of the values alone is read at an index as that update of the entry there. -/
theorem Table.entry_map {α β : Type} {f : Nat × α → Nat × β} (hf : ∀ p, (f p).1 = p.1) (t : Table α) (i : Nat) :
    Table.entry (t.map f) i = (Table.entry t i).map fun v => (f (i, v)).2 := by
  induction t with
  | nil => rfl
  | cons p t ih =>
    obtain ⟨k, v⟩ := p
    have hk : (f (k, v)).1 = k := hf (k, v)
    by_cases h : k = i
    · subst h; simp [Table.entry, hk]
    · simpa [Table.entry, hk, h] using ih

/-- The indices of a table in canonical form rise strictly. -/
theorem Table.pairwise_lt {α : Type} {size low : Nat} {t : Table α} (h : Table.risesFrom size low t = true) :
    t.Pairwise fun p q => p.1 < q.1 := by
  induction t generalizing low with
  | nil => exact .nil
  | cons p t ih =>
    simp only [Table.risesFrom, Bool.and_eq_true] at h
    exact .cons (fun q hq => (Table.entry_of_mem h.2 hq).2.1) (ih h.2)

/-- A channel that the ageing stage turns STALE: VALID, without a reading in the frame, and at its stale limit (R54). -/
def GoesStale (read : List Nat) (p : Nat × Channel) : Prop :=
  p.1 ∉ read ∧ p.2.run.state = .valid ∧ p.2.entry.staleLimit ≤ min 255 (p.2.run.age + 1)

theorem agedRun_eq (e : ChannelEntry) (run : ChannelRun) :
    agedRun e run =
      { run with
        age := min 255 (run.age + 1)
        state := if run.state = .valid ∧ e.staleLimit ≤ min 255 (run.age + 1) then .stale else run.state } := by
  have hage : min 255 (run.age + 1) = bump8 run.age := rfl
  simp only [agedRun, hage, Bool.and_eq_true, beq_iff_eq, decide_eq_true_eq]
  split <;> rfl

theorem agedChannel_fst (read : List Nat) (p : Nat × Channel) : (agedChannel read p).1 = p.1 := by
  unfold agedChannel
  split <;> rfl

theorem agedChannel_of_mem {read : List Nat} {p : Nat × Channel} (h : p.1 ∈ read) : agedChannel read p = p := by
  simp [agedChannel, h]

theorem agedChannel_of_not_mem {read : List Nat} {p : Nat × Channel} (h : p.1 ∉ read) :
    agedChannel read p = (p.1, { p.2 with run := agedRun p.2.entry p.2.run }) := by
  simp [agedChannel, h]

/-- The test by which the ageing stage picks the channels it raises for. -/
def staleTest (read : List Nat) (p : Nat × Channel) : Bool :=
  p.2.run.state == .valid && (agedChannel read p).2.run.state == .stale

theorem staleTest_iff (read : List Nat) (p : Nat × Channel) : staleTest read p = true ↔ GoesStale read p := by
  simp only [staleTest, GoesStale, Bool.and_eq_true, beq_iff_eq]
  by_cases hm : p.1 ∈ read
  · rw [agedChannel_of_mem hm]
    exact ⟨fun ⟨hv, hst⟩ => absurd (hv.symm.trans hst) (by decide), fun ⟨hn, _⟩ => absurd hm hn⟩
  · rw [agedChannel_of_not_mem hm, agedRun_eq]
    by_cases hv : p.2.run.state = .valid
    · simp [hm, hv]
    · simp [hv]

/-- The channels that the ageing stage turns STALE, in the order of the table. -/
def turnedStale (s : State) (read : List Nat) : List Nat := (s.channels.filter (staleTest read)).map Prod.fst

/-- CHANNEL_STALE entered for each of some channels in turn (R54). -/
def Notices.enterStale (n : Notices) (l : List Nat) : Notices := l.foldl (fun n i => n.enter .channelStale (.channel i) 0) n

theorem foldl_raise_stale (l : List (Nat × Channel)) (s : State) :
    l.foldl (fun s p => s.raise .channelStale (.channel p.1) 0) s = s.setNotices (s.notices.enterStale (l.map Prod.fst)) := by
  induction l generalizing s with
  | nil => rfl
  | cons p l ih => exact ih _

/-- All that the ageing stage does. -/
theorem ageChannels_eq (s : State) (read : List Nat) :
    ageChannels s read =
      { s with channels := s.channels.map (agedChannel read), notices := s.notices.enterStale (turnedStale s read) } :=
  foldl_raise_stale _ _

theorem ageChannels_channels (s : State) (read : List Nat) : (ageChannels s read).channels = s.channels.map (agedChannel read) := by
  rw [ageChannels_eq]

theorem ageChannels_notices (s : State) (read : List Nat) :
    (ageChannels s read).notices = s.notices.enterStale (turnedStale s read) := by
  rw [ageChannels_eq]

theorem ageChannels_queue (s : State) (read : List Nat) : (ageChannels s read).queue = s.queue := by
  rw [ageChannels_eq]

theorem ageChannels_entry (s : State) (read : List Nat) (i : Nat) :
    Table.entry (ageChannels s read).channels i = (Table.entry s.channels i).map fun c => (agedChannel read (i, c)).2 := by
  rw [ageChannels_channels, Table.entry_map (agedChannel_fst read)]

/-! ### Which channels the ageing stage raises for -/

theorem filter_staleTest_of_none {read : List Nat} {l : Table Channel} (h : ∀ p ∈ l, ¬ GoesStale read p) :
    l.filter (staleTest read) = [] :=
  List.filter_eq_nil_iff.2 fun p hp ht => h p hp ((staleTest_iff read p).1 ht)

theorem turnedStale_of_none {s : State} {read : List Nat} (h : ∀ p ∈ s.channels, ¬ GoesStale read p) : turnedStale s read = [] := by
  rw [turnedStale, filter_staleTest_of_none h, List.map_nil]

theorem turnedStale_of_one {s : State} {read : List Nat} {before after : Table Channel} {i : Nat} {c : Channel}
    (hs : s.channels = before ++ (i, c) :: after) (hi : GoesStale read (i, c))
    (h : ∀ p ∈ before ++ after, ¬ GoesStale read p) : turnedStale s read = [i] := by
  have hb := filter_staleTest_of_none fun p hp => h p (List.mem_append_left _ hp)
  have ha := filter_staleTest_of_none fun p hp => h p (List.mem_append_right _ hp)
  rw [turnedStale, hs, List.filter_append, List.filter_cons_of_pos ((staleTest_iff read _).2 hi), hb, ha]
  rfl

theorem mem_turnedStale {s : State} {read : List Nat} (hw : Table.wf 32 s.channels = true) {i : Nat} :
    i ∈ turnedStale s read ↔ ∃ c, Table.entry s.channels i = some c ∧ GoesStale read (i, c) := by
  simp only [turnedStale, List.mem_map, List.mem_filter, staleTest_iff, Table.entry_iff_mem hw]
  constructor
  · rintro ⟨⟨k, c⟩, h, rfl⟩
    exact ⟨c, h⟩
  · rintro ⟨c, h⟩
    exact ⟨(i, c), h, rfl⟩

theorem turnedStale_pairwise {s : State} {read : List Nat} (hw : Table.wf 32 s.channels = true) :
    (turnedStale s read).Pairwise (· < ·) :=
  List.pairwise_map.2 ((Table.pairwise_lt hw).filter _)

/-- In a table in canonical form the channels that turn STALE are determined by which they are and that they rise (log 20). -/
theorem turnedStale_eq {s : State} {read turned : List Nat} (hw : Table.wf 32 s.channels = true) (ht : turned.Pairwise (· < ·))
    (h : ∀ i, i ∈ turned ↔ ∃ c, Table.entry s.channels i = some c ∧ GoesStale read (i, c)) : turnedStale s read = turned :=
  (turnedStale_pairwise hw).eq_of_mem_iff ht fun i => (mem_turnedStale hw).trans (h i).symm

/-! ### The obligation -/

/-- Settles O47: a reading by its branch, then the ageing stage by what it does to each entry and by which channels turn STALE. -/
theorem channelTakesReading : Obligations.ChannelTakesReading := by
  refine ⟨fun s i t => ⟨takeReading_of_unused, fun c hc => ?_⟩, fun s read => ⟨fun i c hc => ?_, fun i hn => ?_,
    fun before after i c hs hi hv hl hrest => ?_, fun hnone => ?_, fun turned hw hp hm => ?_, ageChannels_queue s read,
    ageChannels_head s read⟩⟩
  · by_cases hr : inRange c.entry (trimmed c.entry t) = true
    · have hrange := (inRange_trimmed_iff c.entry t).1 hr
      obtain ⟨hfilt, hseed, hout, hage, halarm⟩ := inRangeRun_values c.entry (restedRun c.run) (trimmed c.entry t)
      rw [takeReading_of_inRange hc hr]
      refine ⟨_, s.withRun_entry_same .., rfl, hage, s.withRun_entry_ne i c _ _,
        fun _ _ => ⟨fun f hf hs hne => ?_, fun h => ?_, hseed, hout, fun hno => ?_, fun threshold f hf => ⟨fun ha => ?_, fun hb => ?_⟩,
          fun h => ?_, fun h => ?_, rfl⟩, fun h => absurd hrange h⟩
      · exact hfilt.trans (congrArg some (filterValue_ready_of_filtered (run := restedRun c.run) c.entry _ hne hs hf))
      · exact hfilt.trans (congrArg some (filterValue_ready_of_seed (run := restedRun c.run) c.entry _ h))
      · exact halarm.trans (alarmTest_of_none _ hno)
      · exact halarm ▸ Option.some.inj (hfilt.symm.trans hf) ▸ alarmTest_of_above _ ha
      · exact halarm ▸ Option.some.inj (hfilt.symm.trans hf) ▸ alarmTest_of_below _ hb
      · rw [inRangeRun_of_steady (run := restedRun c.run) c.entry _ h]
        exact ⟨rfl, rfl⟩
      · exact inRangeRun_progress (run := restedRun c.run) c.entry (trimmed c.entry t) h
    · obtain ⟨hfilt, hheld, hage, halarm⟩ := outOfRangeRun_values c.entry (restedRun c.run)
      rw [takeReading_of_outOfRange hc hr]
      refine ⟨_, s.withRun_entry_same .., rfl, hage, s.withRun_entry_ne i c _ _,
        fun hlow hhigh => absurd ((inRange_trimmed_iff c.entry t).2 ⟨hlow, hhigh⟩) hr,
        fun _ => ⟨hfilt, hheld, halarm, fun hf => ?_, fun hf => ?_, rfl⟩⟩
      · rw [outOfRangeRun_of_fault (run := restedRun c.run) c.entry hf]
        exact hf
      · exact outOfRangeRun_enters_fault (run := restedRun c.run) c.entry hf
  · rw [ageChannels_entry, hc]
    by_cases hm : i ∈ read
    · rw [if_pos hm, Option.map_some, agedChannel_of_mem hm]
    · rw [if_neg hm, Option.map_some, agedChannel_of_not_mem hm, agedRun_eq]
  · rw [ageChannels_entry, hn]
    rfl
  · rw [ageChannels_notices, turnedStale_of_one hs ⟨hi, hv, hl⟩ hrest]
    rfl
  · rw [ageChannels_notices, turnedStale_of_none hnone]
    rfl
  · rw [ageChannels_notices, turnedStale_eq hw hp hm]
    rfl

end Sys2Proof.Machine
end

section
/-! The map term of an axis (R69): a rounded quotient lies between the whole quotients that enclose it, so the term lies between the two
neighbouring map values. -/

namespace Sys2Proof.Machine

/-! ### Rounded quotients (00_scope 4.2) -/

theorem roundDiv_neg (n : Int) (d : Nat) : roundDiv (-n) d = -roundDiv n d := by
  rcases lt_trichotomy n 0 with h | rfl | h
  · simp [roundDiv, h.le, h.not_ge]
  · have hz : d / (2 * d) = 0 := Nat.div_eq_zero_iff.2 (by omega)
    simp [roundDiv, hz]
  · simp [roundDiv, h.le, h.not_ge]

theorem le_roundDiv_of_mul_le {n a : Int} {d : Nat} (hd : 0 < d) (h : a * d ≤ n) : a ≤ roundDiv n d := by
  have hd' : (0 : Int) < 2 * d := by omega
  unfold roundDiv
  split
  · push_cast
    rw [abs_of_nonneg ‹_›, Int.le_ediv_iff_mul_le hd', mul_left_comm]
    omega
  · push_cast
    refine Int.le_neg_of_le_neg (Int.le_of_lt_add_one ?_)
    rw [abs_of_neg (not_le.1 ‹_›), Int.ediv_lt_iff_lt_mul hd', add_mul, neg_mul, mul_left_comm]
    omega

theorem roundDiv_le_of_le_mul {n a : Int} {d : Nat} (hd : 0 < d) (h : n ≤ a * d) : roundDiv n d ≤ a := by
  have := le_roundDiv_of_mul_le (n := -n) (a := -a) hd (by rw [neg_mul]; omega)
  rw [roundDiv_neg] at this
  omega

/-- A rounded share of the step from v to w stays between them. -/
theorem roundDiv_share_between (v w : Int) {r : Int} {p : Nat} (hp : 0 < p) (h0 : 0 ≤ r) (hr : r ≤ p) :
    min v w ≤ v + roundDiv ((w - v) * r) p ∧ v + roundDiv ((w - v) * r) p ≤ max v w := by
  rcases le_total v w with h | h
  · have hlow : 0 ≤ roundDiv ((w - v) * r) p := le_roundDiv_of_mul_le hp (by rw [zero_mul]; exact mul_nonneg (by omega) h0)
    have hhigh : roundDiv ((w - v) * r) p ≤ w - v := roundDiv_le_of_le_mul hp (mul_le_mul_of_nonneg_left hr (by omega))
    omega
  · have hlow : w - v ≤ roundDiv ((w - v) * r) p := le_roundDiv_of_mul_le hp (mul_le_mul_of_nonpos_left hr (by omega))
    have hhigh : roundDiv ((w - v) * r) p ≤ 0 :=
      roundDiv_le_of_le_mul hp (by rw [zero_mul]; exact mul_nonpos_of_nonpos_of_nonneg (by omega) h0)
    omega

/-! ### The branches of the map term -/

section
variable {s : State} {index : Nat} {e : AxisEntry} {pt : Int}

theorem mapTerm_of_disabled (h : e.mapEnabled = false) : mapTerm s index e pt = (0, false) := by
  simp [mapTerm, h]

theorem mapTerm_of_below (he : e.mapEnabled = true) (h : pt < e.mapStart) : mapTerm s index e pt = (mapValue s index 0, true) := by
  simp [mapTerm, he, h]

/-- The map interval that a thermal position at or past the map's start lies in (R69). -/
def mapInterval (e : AxisEntry) (pt : Int) : Nat := ((pt - e.mapStart) / (e.mapPitch * 1000 : Nat)).toNat

theorem mapInterval_eq (h : e.mapStart ≤ pt) : mapInterval e pt = (pt - e.mapStart).toNat / (e.mapPitch * 1000) := by
  obtain ⟨n, hn⟩ := Int.eq_ofNat_of_zero_le (Int.sub_nonneg_of_le h)
  rw [mapInterval, hn]
  rfl

/-- What a thermal position has beyond the start of its interval. -/
theorem sub_mapInterval_mul (h : e.mapStart ≤ pt) :
    pt - e.mapStart - mapInterval e pt * (e.mapPitch * 1000 : Nat) = (pt - e.mapStart) % (e.mapPitch * 1000 : Nat) := by
  rw [mapInterval, Int.toNat_of_nonneg (Int.ediv_nonneg (Int.sub_nonneg_of_le h) (Int.natCast_nonneg _)), Int.emod_def, mul_comm]

theorem mapTerm_of_past (he : e.mapEnabled = true) (h : e.mapStart ≤ pt) (hi : e.mapCount ≤ mapInterval e pt + 1) :
    mapTerm s index e pt = (mapValue s index (e.mapCount - 1), true) := by
  have hlast : e.mapCount - 1 ≤ (pt - e.mapStart).toNat / (e.mapPitch * 1000) := mapInterval_eq h ▸ Nat.sub_le_of_le_add hi
  simp [mapTerm, he, not_lt.2 h, hlast]

theorem mapTerm_of_inside (he : e.mapEnabled = true) (h : e.mapStart ≤ pt) (hi : mapInterval e pt + 1 < e.mapCount) :
    mapTerm s index e pt =
      (mapValue s index (mapInterval e pt) +
        roundDiv ((mapValue s index (mapInterval e pt + 1) - mapValue s index (mapInterval e pt)) *
          ((pt - e.mapStart) % (e.mapPitch * 1000 : Nat))) (e.mapPitch * 1000), false) := by
  have hinside : ¬ e.mapCount - 1 ≤ mapInterval e pt := by omega
  rw [← sub_mapInterval_mul h]
  rw [mapInterval_eq h] at hinside ⊢
  simp only [mapTerm, he, Bool.not_true, Bool.false_eq_true, if_false, not_lt.2 h, hinside]

/-- Between its first and its last point a map's term lies between the values of the two neighbouring points (R69). -/
theorem mapTerm_between (he : e.mapEnabled = true) (hp : 1 ≤ e.mapPitch) (h : e.mapStart ≤ pt)
    (hi : mapInterval e pt + 1 < e.mapCount) :
    min (mapValue s index (mapInterval e pt)) (mapValue s index (mapInterval e pt + 1)) ≤ (mapTerm s index e pt).1 ∧
    (mapTerm s index e pt).1 ≤ max (mapValue s index (mapInterval e pt)) (mapValue s index (mapInterval e pt + 1)) := by
  have hpitch : 0 < e.mapPitch * 1000 := by omega
  have hpitch' : (0 : Int) < (e.mapPitch * 1000 : Nat) := Int.natCast_pos.2 hpitch
  rw [mapTerm_of_inside he h hi]
  exact roundDiv_share_between _ _ hpitch (Int.emod_nonneg _ hpitch'.ne') (Int.emod_lt_of_pos _ hpitch').le

/-- The map term lies between two of the axis's map values (R69). -/
theorem mapTerm_enclosed (he : e.mapEnabled = true) (hc : 2 ≤ e.mapCount) (hp : 1 ≤ e.mapPitch) :
    ∃ k, k < e.mapCount ∧ ∃ j, j < e.mapCount ∧
      mapValue s index k ≤ (mapTerm s index e pt).1 ∧ (mapTerm s index e pt).1 ≤ mapValue s index j := by
  rcases lt_or_ge pt e.mapStart with hbelow | hstart
  · rw [mapTerm_of_below he hbelow]
    exact ⟨0, by omega, 0, by omega, le_rfl, le_rfl⟩
  · rcases le_or_gt e.mapCount (mapInterval e pt + 1) with hpast | hinside
    · rw [mapTerm_of_past he hstart hpast]
      exact ⟨e.mapCount - 1, by omega, e.mapCount - 1, by omega, le_rfl, le_rfl⟩
    · obtain ⟨hlow, hhigh⟩ := mapTerm_between (s := s) (index := index) he hp hstart hinside
      obtain ⟨k, hk, hlow⟩ : ∃ k < e.mapCount, mapValue s index k ≤ (mapTerm s index e pt).1 :=
        (min_le_iff.1 hlow).elim (fun h => ⟨_, by omega, h⟩) fun h => ⟨_, hinside, h⟩
      obtain ⟨j, hj, hhigh⟩ : ∃ j < e.mapCount, (mapTerm s index e pt).1 ≤ mapValue s index j :=
        (le_max_iff.1 hhigh).elim (fun h => ⟨_, by omega, h⟩) fun h => ⟨_, hinside, h⟩
      exact ⟨k, hk, j, hj, hlow, hhigh⟩

end

/-- Settles O48: the map term by its branches. -/
theorem mapTermBetweenNeighbours : Obligations.MapTermBetweenNeighbours := fun _ _ _ _ hc hp =>
  ⟨mapTerm_of_disabled, fun he => ⟨mapTerm_of_below he, mapTerm_of_past he,
    fun h hi => ⟨mapTerm_of_inside he h hi, mapTerm_between he hp h hi⟩, mapTerm_enclosed he hc hp⟩⟩

end Sys2Proof.Machine
end

section
/-! A POSITION slot at the correction engine: which axes are computed, and what each axis gets (R66 to R73). -/

namespace Sys2Proof.Machine

/-! ### Axes -/

theorem Triple.all_iff {α : Type} {f : α → Bool} {t : Triple α} : t.all f = true ↔ ∀ ax, f (t.get ax) = true :=
  ⟨Triple.all_get, fun h => by simp only [Triple.all, Bool.and_eq_true]; exact ⟨⟨h .x, h .y⟩, h .z⟩⟩

@[simp] theorem Triple.map_get {α β : Type} (f : α → β) (t : Triple α) (ax : Axis) : (t.map f).get ax = f (t.get ax) := by
  cases ax <;> rfl

/-! ### Fields of a POSITION payload -/

/-- The head status code of an axis (1.9). -/
def statusCode (p : List Byte) (ax : Axis) : Nat := (p.getD 15 0).toNat / 4 ^ axisCode ax % 4

theorem headStatusOf_fail_iff (n : Nat) : headStatusOf n = .fail ↔ 2 ≤ n % 4 := by
  unfold headStatusOf
  match n % 4 with
  | 0 | 1 | _ + 2 => simp

theorem headStatusOf_weak_iff (n : Nat) : headStatusOf n = .weak ↔ n % 4 = 1 := by
  unfold headStatusOf
  match n % 4 with
  | 0 | 1 | _ + 2 => simp

theorem uField_one (p : List Byte) (o : Nat) : uField p o 1 = (p.getD o 0).toNat := by
  induction p generalizing o with
  | nil => simp [uField, fieldBytes, leNat]
  | cons b p ih =>
    cases o with
    | zero => exact uField_byte_zero b p
    | succ o => simpa using ih o

theorem positionStatus_get (p : List Byte) (ax : Axis) :
    (positionStatus p).get ax = headStatusOf ((p.getD 15 0).toNat / 4 ^ axisCode ax) := by
  rw [← uField_one]
  cases ax
  · exact congrArg headStatusOf (Nat.div_one _).symm
  · rfl
  · rfl

/-- A head is FAIL by a status code of 2 or 3 (R66). -/
theorem positionStatus_fail_iff (p : List Byte) (ax : Axis) : (positionStatus p).get ax = .fail ↔ 2 ≤ statusCode p ax := by
  rw [positionStatus_get]
  exact headStatusOf_fail_iff _

theorem positionStatus_weak_iff (p : List Byte) (ax : Axis) : (positionStatus p).get ax = .weak ↔ statusCode p ax = 1 := by
  rw [positionStatus_get]
  exact headStatusOf_weak_iff _

theorem positionCounts_get (p : List Byte) (ax : Axis) : (positionCounts p).get ax = sField p (5 * axisCode ax) 5 := by
  cases ax <;> rfl

/-! ### Stages 1, 2 and 4 -/

section
variable {s : State} {arm : Arm} {payload : List Byte} {ax : Axis} {e : AxisEntry} {pt : Int}

theorem thermalPosition_of_empty (h : Table.entry s.axes (axisIndex arm ax) = none) : s.thermalPosition arm payload ax = none := by
  simp [State.thermalPosition, h]

theorem thermalPosition_of_fail (h : 2 ≤ statusCode payload ax) : s.thermalPosition arm payload ax = none := by
  unfold State.thermalPosition
  split
  · rfl
  · exact if_pos h

theorem thermalStages_get (s : State) (arm : Arm) (payload : List Byte) (ax : Axis) :
    (thermalStages s arm payload).get ax =
      thermalStage s arm ax ((positionStatus payload).get ax) ((positionCounts payload).get ax) := by
  cases ax <;> rfl

theorem thermalStage_of_empty (status : HeadStatus) (count : Int) (h : Table.entry s.axes (axisIndex arm ax) = none) :
    thermalStage s arm ax status count = none := by
  simp [thermalStage, h]

theorem thermalStage_fail (s : State) (arm : Arm) (ax : Axis) (count : Int) : thermalStage s arm ax .fail count = none := by
  unfold thermalStage
  cases Table.entry s.axes (axisIndex arm ax) <;> rfl

theorem thermalStage_of_entry {status : HeadStatus} (count : Int) (he : Table.entry s.axes (axisIndex arm ax) = some e)
    (h : status ≠ .fail) :
    thermalStage s arm ax status count =
      some { scale := scalePosition e count, term := thermalTerm e (scalePosition e count) (axisTemp s (axisIndex arm ax) e).1
             held := (axisTemp s (axisIndex arm ax) e).2 } := by
  cases status with
  | ok => simp [thermalStage, he]
  | weak => simp [thermalStage, he]
  | fail => exact absurd rfl h

/-- An axis with an entry in use whose head is not FAIL has its scale position and thermal term (R66 to R68). -/
theorem thermalStages_of_computed (he : Table.entry s.axes (axisIndex arm ax) = some e) (hst : statusCode payload ax < 2) :
    let ps := scalePosition e (sField payload (5 * axisCode ax) 5)
    let t := axisTemp s (axisIndex arm ax) e
    (thermalStages s arm payload).get ax = some { scale := ps, term := thermalTerm e ps t.1, held := t.2 } := by
  intro ps t
  rw [thermalStages_get, positionCounts_get]
  exact thermalStage_of_entry _ he fun h => absurd ((positionStatus_fail_iff payload ax).1 h) (by omega)

theorem thermalPosition_of_computed (he : Table.entry s.axes (axisIndex arm ax) = some e) (hst : statusCode payload ax < 2) :
    let ps := scalePosition e (sField payload (5 * axisCode ax) 5)
    s.thermalPosition arm payload ax = some (ps + thermalTerm e ps (axisTemp s (axisIndex arm ax) e).1) := by
  rw [State.thermalPosition, he]
  exact if_neg (not_le.2 hst)

theorem thermalStages_of_failed (h : Table.entry s.axes (axisIndex arm ax) = none ∨ 2 ≤ statusCode payload ax) :
    (thermalStages s arm payload).get ax = none := by
  rw [thermalStages_get]
  rcases h with h | h
  · exact thermalStage_of_empty _ _ h
  · rw [(positionStatus_fail_iff payload ax).2 h, thermalStage_fail]

/-- An axis is failed in a slot, or computed (R66). -/
theorem axis_failed_or_computed (s : State) (arm : Arm) (payload : List Byte) (ax : Axis) :
    (Table.entry s.axes (axisIndex arm ax) = none ∨ 2 ≤ statusCode payload ax) ∨
      ∃ e, Table.entry s.axes (axisIndex arm ax) = some e ∧ statusCode payload ax < 2 := by
  cases h : Table.entry s.axes (axisIndex arm ax) with
  | none => exact .inl (.inl rfl)
  | some e => exact (le_or_gt 2 (statusCode payload ax)).imp .inr fun hst => ⟨e, rfl, hst⟩

/-- The thermal positions of a slot's axes are those of its stages (R68). -/
theorem thermalPosition_eq (s : State) (arm : Arm) (payload : List Byte) (ax : Axis) :
    s.thermalPosition arm payload ax = ((thermalStages s arm payload).get ax).map ThermalStage.position := by
  rcases axis_failed_or_computed s arm payload ax with h | ⟨e, he, hst⟩
  · rw [thermalStages_of_failed h]
    exact h.elim thermalPosition_of_empty thermalPosition_of_fail
  · rw [thermalPosition_of_computed he hst, thermalStages_of_computed he hst]
    rfl

theorem allComputed_iff (s : State) (arm : Arm) (payload : List Byte) :
    allComputed s arm payload = true ↔ ∀ ax, (s.thermalPosition arm payload ax).isSome = true := by
  simp only [allComputed, Triple.all_iff, thermalPosition_eq, Option.isSome_map]

theorem couplingTerm_eq (s : State) (arm : Arm) (payload : List Byte) (e : AxisEntry) :
    couplingTerm (s.head.get arm).record (thermalStages s arm payload) e = s.couplingOf arm payload e := by
  unfold couplingTerm State.couplingOf
  cases e.coupled with
  | none => rfl
  | some c =>
    simp only [thermalPosition_eq]
    cases (thermalStages s arm payload).get (axisOf c) with
    | some t => rfl
    | none => cases ((s.head.get arm).record.get (axisOf c)).thermal <;> rfl

/-! ### What an axis gets -/

theorem correctAxes_get (s : State) (arm : Arm) (payload : List Byte) (ax : Axis) :
    (correctAxes s arm payload).get ax =
      correctAxis s arm ax ((positionStatus payload).get ax) (thermalStages s arm payload) := by
  cases ax <;> rfl

theorem updateRecord_get (s : State) (arm : Arm) (payload : List Byte) (ax : Axis) :
    ((updateRecord s arm payload).head.get arm).record.get ax = ((correctAxes s arm payload).get ax).after := by
  rw [updateRecord, State.setHead_head, PerArm.get_put_same, Triple.map_get]

/-- A failed axis repeats its last value (R73). -/
theorem correctAxes_of_failed (h : Table.entry s.axes (axisIndex arm ax) = none ∨ 2 ≤ statusCode payload ax) :
    (correctAxes s arm payload).get ax = failedAxis ((s.head.get arm).record.get ax) := by
  rw [correctAxes_get, correctAxis, thermalStages_of_failed h]

theorem failedAxis_flags_of_some {h : HeadAxis} (hl : h.last ≠ none) :
    (failedAxis h).after.flags = { h.flags with stale := true } := by
  obtain ⟨v, hv⟩ := Option.ne_none_iff_exists'.1 hl
  simp [failedAxis, hv]

theorem failedAxis_flags_of_none {h : HeadAxis} (hl : h.last = none) :
    (failedAxis h).after.flags = { thermalHeld := false, mapEdge := false, clamped := false, stale := true } := by
  simp [failedAxis, hl, AxisFlags.none]

/-- A computed axis gets the sum of its terms, clamped, and keeps it (R69 to R72, R75). -/
theorem correctAxes_of_computed (he : Table.entry s.axes (axisIndex arm ax) = some e)
    (hp : s.thermalPosition arm payload ax = some pt) :
    let m := mapTerm s (axisIndex arm ax) e pt
    let q := s.couplingOf arm payload e
    let total := pt + m.1 + q.1
    (correctAxes s arm payload).get ax =
      { corrected := clampPosition total
        after :=
          { last := some (clampPosition total), thermal := some pt
            flags := { thermalHeld := (axisTemp s (axisIndex arm ax) e).2, mapEdge := m.2, clamped := !(withinPosition total),
                       stale := q.2 || statusCode payload ax == 1 } } } := by
  have hst : statusCode payload ax < 2 := by
    by_contra h
    rw [thermalPosition_of_fail (not_lt.1 h)] at hp
    cases hp
  obtain rfl := Option.some.inj ((thermalPosition_of_computed he hst).symm.trans hp)
  have hweak : ((positionStatus payload).get ax == .weak) = (statusCode payload ax == 1) := by
    rw [Bool.eq_iff_iff, beq_iff_eq, beq_iff_eq, positionStatus_weak_iff]
  rw [correctAxes_get, correctAxis, thermalStages_of_computed he hst, he]
  simp only [computedAxis, couplingTerm_eq, hweak]
  rfl

end

end Sys2Proof.Machine
end

section
/-! A POSITION slot as the part writes it: the corrected positions and the flags alone (R13, R74). -/

namespace Sys2Proof.Machine

/-! ### The corrected positions -/

theorem withinPosition_iff (v : Int) : withinPosition v = true ↔ -549755813887 ≤ v ∧ v ≤ 549755813887 := by
  exact (Bool.and_eq_true _ _).to_iff.trans (and_congr decide_eq_true_iff decide_eq_true_iff)

theorem withinPosition_clampPosition (v : Int) : withinPosition (clampPosition v) = true := by
  rw [withinPosition_iff]
  unfold clampPosition Config.positionLimit
  split
  · omega
  · split <;> omega

/-- A position fits its 40-bit field (00_scope 4.1). -/
theorem signedOf_leIntBytes_position {v : Int} (h : withinPosition v = true) : signedOf 5 (leNat (leIntBytes 5 v)) = v := by
  rw [withinPosition_iff] at h
  rw [leIntBytes, leNat_leBytes_of_lt (by omega), signedOf]
  split <;> omega

/-- The written part of a POSITION payload: the head's own bytes, the three corrected positions, the flags (R74). -/
def positionSegments (p : List Byte) (corrected : Triple Int) (flags : Triple AxisFlags) : List (List Byte) :=
  [p.take 16, leIntBytes 5 corrected.x, leIntBytes 5 corrected.y, leIntBytes 5 corrected.z, correctionFlagBytes p flags]

section
variable {p : List Byte} (h : 33 ≤ p.length) (corrected : Triple Int) (flags : Triple AxisFlags)
include h

theorem positionSegments_widths : (positionSegments p corrected flags).map List.length = [16, 5, 5, 5, 2] := by
  simp [positionSegments, correctionFlagBytes]
  omega

theorem writePosition_eq : writePosition p corrected flags = (positionSegments p corrected flags).flatten ++ p.drop 33 := by
  have h16 : (p.take 16).length = 16 := List.length_take_of_le (by omega)
  have h31 : (p.take 16 ++ tripleBytes corrected).length = 31 := by simp [h16]
  have hrest : (p.take 16 ++ tripleBytes corrected ++ p.drop 31).drop 33 = p.drop 33 := by
    rw [List.drop_append, List.drop_eq_nil_of_le (by omega), h31, List.drop_drop, List.nil_append]
  simp only [writePosition, splice, tripleBytes_length, correctionFlagBytes, leBytes_length, Nat.reduceAdd, List.take_left' h31, hrest]
  simp [positionSegments, tripleBytes, correctionFlagBytes]

/-- The corrected position of an axis stands in its field. -/
theorem writePosition_corrected (ax : Axis) (hv : withinPosition (corrected.get ax) = true) :
    sField (writePosition p corrected flags) (16 + 5 * axisCode ax) 5 = corrected.get ax := by
  have field (k : Nat) (ho : ([16, 5, 5, 5, 2].take k).sum = 16 + 5 * axisCode ax)
      (hk : (positionSegments p corrected flags)[k]? = some (leIntBytes 5 (corrected.get ax))) :
      sField (writePosition p corrected flags) (16 + 5 * axisCode ax) 5 = corrected.get ax := by
    rw [sField, uField, writePosition_eq h,
      fieldBytes_segments _ (positionSegments_widths h corrected flags) ho hk (leIntBytes_length _ _),
      signedOf_leIntBytes_position hv]
  cases ax
  · exact field 1 rfl rfl
  · exact field 2 rfl rfl
  · exact field 3 rfl rfl

theorem writePosition_take : (writePosition p corrected flags).take 16 = p.take 16 := by
  rw [writePosition_eq h]
  exact fieldBytes_segments (o := 0) (k := 0) _ (positionSegments_widths h corrected flags) rfl rfl (List.length_take_of_le (by omega))

theorem writePosition_drop : (writePosition p corrected flags).drop 33 = p.drop 33 := by
  rw [writePosition_eq h]
  refine List.drop_left' ?_
  rw [List.length_flatten, positionSegments_widths h]
  rfl

end

/-! ### The corrected flags -/

theorem axisFlagCode_lt (f : AxisFlags) : axisFlagCode f < 16 := by
  have b (x : Bool) := x.toNat_lt
  have := b f.thermalHeld; have := b f.mapEdge; have := b f.clamped; have := b f.stale
  unfold axisFlagCode
  omega

/-- Of a number written with the flags of three axes and four more bits the flags are read back, and the four bits. -/
theorem positionFlagCode_get (t : Triple AxisFlags) (k : Nat) (ax : Axis) :
    (positionFlagCode t + 4096 * k) / 16 ^ axisCode ax % 16 = axisFlagCode (t.get ax) := by
  have hx := axisFlagCode_lt t.x
  have hy := axisFlagCode_lt t.y
  have hz := axisFlagCode_lt t.z
  unfold positionFlagCode
  cases ax <;> simp only [axisCode, Triple.get] <;> omega

theorem positionFlagCode_lt (t : Triple AxisFlags) : positionFlagCode t < 4096 := by
  have hx := axisFlagCode_lt t.x
  have hy := axisFlagCode_lt t.y
  have hz := axisFlagCode_lt t.z
  unfold positionFlagCode
  omega

/-- The flag field as written: the flags of the axes, and bits 12 to 15 as taken (R13, R74). -/
theorem writePosition_flags {p : List Byte} (h : 33 ≤ p.length) (corrected : Triple Int) (flags : Triple AxisFlags) :
    uField (writePosition p corrected flags) 31 2 = positionFlagCode flags + 4096 * (uField p 31 2 / 4096) := by
  have hcode := positionFlagCode_lt flags
  have hold : uField p 31 2 < 256 ^ 2 := uField_lt p 31 2
  rw [uField, writePosition_eq h,
    fieldBytes_segments (k := 4) (o := 31) _ (positionSegments_widths h corrected flags) rfl rfl (leBytes_length _ _)]
  exact leNat_leBytes_of_lt (by omega)

end Sys2Proof.Machine
end

section
/-! The FAIL cycles of an arm, and what a POSITION slot leaves in the record and in the slot (R75 to R79). -/

namespace Sys2Proof.Machine

/-! ### FAIL cycles (R77 to R79) -/

/-- A FAIL cycle after which a stop is due (R79). -/
def Head.stopDue (limit : Nat) (h : Head) : Prop := limit ≤ min 255 (h.failRun + 1) ∧ h.stopRequested = false

theorem failCycle_of_due {limit : Nat} {h : Head} (hd : h.stopDue limit) :
    failCycle limit h = ({ h with failRun := min 255 (h.failRun + 1), stopRequested := true }, true) := by
  obtain ⟨hl, hr⟩ := hd
  simp [failCycle, bump8, addUpTo, hl, hr]

theorem failCycle_of_not_due {limit : Nat} {h : Head} (hd : ¬ h.stopDue limit) :
    failCycle limit h = ({ h with failRun := min 255 (h.failRun + 1) }, false) := by
  have hn : ¬ (decide (limit ≤ bump8 h.failRun) && !h.stopRequested) = true := by
    rw [Bool.and_eq_true, decide_eq_true_iff, Bool.not_eq_true']
    exact hd
  exact if_neg hn

theorem countFail_of_due {s : State} {arm : Arm} (hd : (s.head.get arm).stopDue (s.setup.scaleFailLimit.get arm)) :
    countFail s arm =
      stopArm (s.setHead arm { s.head.get arm with failRun := min 255 ((s.head.get arm).failRun + 1), stopRequested := true })
        arm .scaleFail := by
  unfold countFail
  rw [failCycle_of_due hd]
  rfl

theorem countFail_of_not_due {s : State} {arm : Arm} (hd : ¬ (s.head.get arm).stopDue (s.setup.scaleFailLimit.get arm)) :
    countFail s arm = s.setHead arm { s.head.get arm with failRun := min 255 ((s.head.get arm).failRun + 1) } := by
  unfold countFail
  rw [failCycle_of_not_due hd]
  rfl

theorem countFail_failCounted (s : State) (arm : Arm) : s.FailCounted (countFail s arm) arm (s.head.get arm).record := by
  by_cases hd : (s.head.get arm).stopDue (s.setup.scaleFailLimit.get arm)
  · have hhead := countFail_head s arm
    rw [failCycle_of_due hd] at hhead
    unfold State.FailCounted
    rw [hhead, PerArm.get_put_same, countFail_of_due hd, stopArm_supervision, PerArm.get_put_same]
    exact ⟨rfl, rfl, fun _ => ⟨rfl, rfl⟩, fun hn => absurd hd hn⟩
  · rw [countFail_of_not_due hd]
    unfold State.FailCounted
    rw [State.setHead_head, PerArm.get_put_same]
    exact ⟨rfl, rfl, fun h => absurd h hd, fun _ => ⟨rfl, rfl⟩⟩

/-- A FAIL cycle is counted on the run and mark that stand, whatever the record has become before (R75, R78). -/
theorem failCounted_setRecord (s : State) (arm : Arm) (record : Triple HeadAxis) :
    s.FailCounted (countFail (s.setHead arm { s.head.get arm with record := record }) arm) arm record := by
  have hc := countFail_failCounted (s.setHead arm { s.head.get arm with record := record }) arm
  unfold State.FailCounted at hc ⊢
  rw [State.setHead_head, PerArm.get_put_same] at hc
  exact hc

theorem leavingTest_head (s : State) (arm : Arm) : (leavingTest s arm).head = s.head :=
  head_of_sansReports (sansReports_of_sansMoves (leavingTest_sansMoves s arm))

theorem leavingTest_supervision (s : State) (arm : Arm) : (leavingTest s arm).supervision = s.supervision :=
  (congrArg State.supervision (leavingTest_sansMoves s arm) :)

/-- A slot with all three axes computed ends the run (R77, R133). -/
theorem positionSlot_of_computed {s : State} {arm : Arm} {payload : List Byte}
    (h : ∀ ax, (s.thermalPosition arm payload ax).isSome = true) :
    positionSlot s arm payload = leavingTest ((updateRecord s arm payload).setHead arm
      { record := ((updateRecord s arm payload).head.get arm).record, failRun := 0, stopRequested := false }) arm :=
  if_pos ((allComputed_iff s arm payload).2 h)

theorem positionSlot_of_failed {s : State} {arm : Arm} {payload : List Byte}
    (h : ¬ ∀ ax, (s.thermalPosition arm payload ax).isSome = true) :
    positionSlot s arm payload = countFail (updateRecord s arm payload) arm :=
  if_neg (mt (allComputed_iff s arm payload).1 h)

theorem positionSlot_failCounted {s : State} {arm : Arm} {payload : List Byte}
    (h : ¬ ∀ ax, (s.thermalPosition arm payload ax).isSome = true) :
    s.FailCounted (positionSlot s arm payload) arm ((updateRecord s arm payload).head.get arm).record := by
  rw [positionSlot_of_failed h, updateRecord, State.setHead_head, PerArm.get_put_same]
  exact failCounted_setRecord s arm _

/-! ### An axis in the record and in the slot -/

section
variable {s : State} {arm : Arm} {payload : List Byte} {ax : Axis}

/-- The corrected field of an axis, where its value is a position. -/
theorem correctedPayload_corrected (h : 36 ≤ payload.length)
    (hv : withinPosition ((correctAxes s arm payload).get ax).corrected = true) :
    sField (correctedPayload s arm payload) (16 + 5 * axisCode ax) 5 = ((correctAxes s arm payload).get ax).corrected := by
  have := writePosition_corrected (p := payload) (by omega) ((correctAxes s arm payload).map fun a => a.corrected)
    ((correctAxes s arm payload).map fun a => a.after.flags) ax
  rw [Triple.map_get] at this
  exact this hv

theorem correctedPayload_flags (h : 36 ≤ payload.length) :
    uField (correctedPayload s arm payload) 31 2 =
      positionFlagCode ((correctAxes s arm payload).map fun a => a.after.flags) + 4096 * (uField payload 31 2 / 4096) :=
  writePosition_flags (by omega) _ _

/-- Bits 12 to 15 of the flags stay as taken (R13). -/
theorem correctedPayload_spareFlags (h : 36 ≤ payload.length) :
    uField (correctedPayload s arm payload) 31 2 / 4096 = uField payload 31 2 / 4096 := by
  have hcode := positionFlagCode_lt ((correctAxes s arm payload).map fun a => a.after.flags)
  rw [correctedPayload_flags h]
  omega

/-- The flags of an axis stand in the slot as in the record (R74, R75). -/
theorem correctedPayload_axisFlags (h : 36 ≤ payload.length) :
    uField (correctedPayload s arm payload) 31 2 / 16 ^ axisCode ax % 16 =
      axisFlagCode (((updateRecord s arm payload).head.get arm).record.get ax).flags := by
  rw [correctedPayload_flags h, positionFlagCode_get, Triple.map_get, updateRecord_get]

/-- A computed axis in the record and in the slot (R69 to R72, R74, R75). -/
theorem positionSlot_computedAxis (hl : 36 ≤ payload.length) {e : AxisEntry} {pt : Int}
    (he : Table.entry s.axes (axisIndex arm ax) = some e) (hp : s.thermalPosition arm payload ax = some pt) :
    let after := ((updateRecord s arm payload).head.get arm).record.get ax
    let m := mapTerm s (axisIndex arm ax) e pt
    let q := s.couplingOf arm payload e
    after.last = some (clampPosition (pt + m.1 + q.1)) ∧ after.thermal = some pt ∧
    after.flags = { thermalHeld := (axisTemp s (axisIndex arm ax) e).2, mapEdge := m.2,
                    clamped := !(withinPosition (pt + m.1 + q.1)), stale := q.2 || statusCode payload ax == 1 } ∧
    sField (correctedPayload s arm payload) (16 + 5 * axisCode ax) 5 = clampPosition (pt + m.1 + q.1) := by
  have hr := correctAxes_of_computed he hp
  have hfield := correctedPayload_corrected (s := s) (arm := arm) (ax := ax) hl
  rw [hr] at hfield
  rw [updateRecord_get, hr]
  exact ⟨rfl, rfl, rfl, hfield (withinPosition_clampPosition _)⟩

/-- A computed axis without map and coupling (R67, R68). -/
theorem positionSlot_scaleAxis (hl : 36 ≤ payload.length) {e : AxisEntry}
    (he : Table.entry s.axes (axisIndex arm ax) = some e) (hst : statusCode payload ax ≤ 1) (hm : e.mapEnabled = false)
    (hq : e.coupled = none) :
    let after := ((updateRecord s arm payload).head.get arm).record.get ax
    let ps := scalePosition e (sField payload (5 * axisCode ax) 5)
    let term := thermalTerm e ps (axisTemp s (axisIndex arm ax) e).1
    after.last = some (clampPosition (ps + term)) ∧ after.thermal = some (ps + term) ∧
    after.flags = { thermalHeld := (axisTemp s (axisIndex arm ax) e).2, mapEdge := false,
                    clamped := !(withinPosition (ps + term)), stale := statusCode payload ax == 1 } ∧
    sField (correctedPayload s arm payload) (16 + 5 * axisCode ax) 5 = clampPosition (ps + term) := by
  have hc := positionSlot_computedAxis hl he (thermalPosition_of_computed he (Nat.lt_succ_of_le hst))
  have hcoupling : s.couplingOf arm payload e = (0, false) := by simp [State.couplingOf, hq]
  simpa only [mapTerm_of_disabled hm, hcoupling, add_zero, Bool.false_or] using hc

/-- A failed axis in the record and in the slot (R73, R75). -/
theorem positionSlot_failedAxis (hl : 36 ≤ payload.length)
    (h : Table.entry s.axes (axisIndex arm ax) = none ∨ 2 ≤ statusCode payload ax) :
    let before := (s.head.get arm).record.get ax
    let after := ((updateRecord s arm payload).head.get arm).record.get ax
    after.last = before.last ∧ after.thermal = before.thermal ∧
    (before.last ≠ none → after.flags = { before.flags with stale := true }) ∧
    (before.last = none → after.flags = { thermalHeld := false, mapEdge := false, clamped := false, stale := true }) ∧
    ((∀ v, before.last = some v → withinPosition v = true) →
      sField (correctedPayload s arm payload) (16 + 5 * axisCode ax) 5 = before.last.getD 0) := by
  have hr := correctAxes_of_failed h
  have hfield := correctedPayload_corrected (s := s) (arm := arm) (ax := ax) hl
  rw [hr] at hfield
  rw [updateRecord_get, hr]
  intro before after
  refine ⟨rfl, rfl, failedAxis_flags_of_some, failedAxis_flags_of_none, fun hv => hfield ?_⟩
  change withinPosition (before.last.getD 0) = true
  cases hb : before.last with
  | none => rfl
  | some v => exact hv v hb

end

/-! ### The obligation -/

/-- Settles O49: an axis is computed or failed, and the written slot and the record are read off what it gets; the FAIL cycles by the
run and mark that stand. -/
theorem positionSlotCorrected : Obligations.PositionSlotCorrected := by
  refine ⟨fun s arm payload hl => ?_, fun s arm payload =>
    ⟨fun hall => ?_, positionSlot_failCounted, failCounted_setRecord s arm _, rfl⟩⟩
  · have h33 : 33 ≤ payload.length := by omega
    exact ⟨correctedPayload_length hl s arm, writePosition_take h33 _ _, writePosition_drop h33 _ _, correctedPayload_spareFlags hl,
      PerArm.get_put_other _ _ _, fun _ => ⟨fun _ => positionSlot_scaleAxis hl, fun _ _ => positionSlot_computedAxis hl,
        positionSlot_failedAxis hl, correctedPayload_axisFlags hl⟩⟩
  · rw [positionSlot_of_computed hall, leavingTest_head, leavingTest_supervision, updateRecord]
    simp

end Sys2Proof.Machine
end

section
/-! What an arm's supervision, correction and capture are kept to (R83, R93, R147, R148), read off a view of the arm; and what sequencers,
library and rack channel do to the view: a capture that must be SUSPENDED is. -/

namespace Sys2Proof.Machine

/-! ### The view of an arm -/

/-- What `State.armInv` reads of an arm. -/
structure ArmView where
  state : ArmState
  setpoint : Option (Triple Int)
  lasts : Triple (Option Int)
  sequencer : SeqState
  active : ActiveProbe
  capture : CaptureState

/-- The view of an arm in a state. -/
def State.armView (s : State) (arm : Arm) : ArmView where
  state := (s.supervision.get arm).state
  setpoint := (s.supervision.get arm).setpoint
  lasts := (s.head.get arm).record.map fun h => h.last
  sequencer := (s.sequencer.get arm).state
  active := s.active.get arm
  capture := (s.capture.get arm).state

/-- A suspending condition holds (R147). -/
def ArmView.MustSuspend (v : ArmView) : Prop := v.state = .stopped ∨ v.sequencer ≠ .idle ∨ ∀ i, v.active ≠ .known i

/-- Capture is SUSPENDED while a suspending condition holds (R147). -/
def ArmView.SuspendedOk (v : ArmView) : Prop := v.MustSuspend → v.capture = .suspended

/-- The arm is as supervision, correction and capture keep it. -/
structure ArmView.Ok (v : ArmView) : Prop where
  released : v.state ≠ .stopped → v.setpoint.isSome = true ∧ ∀ ax, (v.lasts.get ax).isSome = true
  suspended : v.SuspendedOk
  setpoint : ∀ p, v.setpoint = some p → p.all withinPosition = true
  lasts : ∀ ax x, v.lasts.get ax = some x → withinPosition x = true

theorem State.mustSuspend_iff (s : State) (arm : Arm) : s.mustSuspend arm = true ↔ (s.armView arm).MustSuspend := by
  unfold State.mustSuspend ArmView.MustSuspend State.armView
  cases s.active.get arm <;> simp

theorem State.releasedOk_iff (s : State) (arm : Arm) : s.releasedOk arm = true ↔
    ((s.armView arm).state ≠ .stopped → (s.armView arm).setpoint.isSome = true ∧ ∀ ax, ((s.armView arm).lasts.get ax).isSome = true) := by
  simp only [State.releasedOk, State.armView, Bool.or_eq_true, beq_iff_eq, Bool.and_eq_true, Triple.all_iff, Triple.map_get,
    Decidable.or_iff_not_imp_left, ne_eq]

theorem State.suspendedOk_iff (s : State) (arm : Arm) : s.suspendedOk arm = true ↔ (s.armView arm).SuspendedOk := by
  rw [State.suspendedOk, ArmView.SuspendedOk, ← State.mustSuspend_iff]
  cases s.mustSuspend arm <;> simp [State.armView]

theorem State.positionsOk_iff (s : State) (arm : Arm) : s.positionsOk arm = true ↔
    (∀ p, (s.armView arm).setpoint = some p → p.all withinPosition = true) ∧
      ∀ ax x, (s.armView arm).lasts.get ax = some x → withinPosition x = true := by
  simp only [State.positionsOk, State.armView, Bool.and_eq_true, Triple.all_iff, Triple.map_get]
  refine and_congr ?_ (forall_congr' fun ax => ?_)
  · cases (s.supervision.get arm).setpoint <;> simp [Triple.all_iff]
  · cases ((s.head.get arm).record.get ax).last <;> simp

theorem State.armInv_iff (s : State) : s.armInv = true ↔ ∀ arm, (s.armView arm).Ok := by
  have hok (arm : Arm) : (s.armView arm).Ok ↔ (s.releasedOk arm = true ∧ s.suspendedOk arm = true) ∧ s.positionsOk arm = true := by
    rw [State.releasedOk_iff, State.suspendedOk_iff, State.positionsOk_iff]
    exact ⟨fun ⟨r, c, p, l⟩ => ⟨⟨r, c⟩, p, l⟩, fun ⟨⟨r, c⟩, p, l⟩ => ⟨r, c, p, l⟩⟩
  simp only [Arm.forall_iff, hok, State.armInv, Bool.and_eq_true]
  tauto

/-! ### The view after an update of one arm -/

section
variable (s : State) {arm x : Arm}

@[simp] theorem State.armView_setSequencer_same (q : Sequencer) :
    (s.setSequencer arm q).armView arm = { s.armView arm with sequencer := q.state } := by simp [State.armView]

theorem State.armView_setSequencer_ne (q : Sequencer) (h : x ≠ arm) : (s.setSequencer arm q).armView x = s.armView x := by
  simp [State.armView, PerArm.get_put_ne _ _ h]

@[simp] theorem State.armView_setCapture_same (c : Capture) :
    (s.setCapture arm c).armView arm = { s.armView arm with capture := c.state } := by simp [State.armView]

theorem State.armView_setCapture_ne (c : Capture) (h : x ≠ arm) : (s.setCapture arm c).armView x = s.armView x := by
  simp [State.armView, PerArm.get_put_ne _ _ h]

@[simp] theorem State.armView_setSupervision_same (v : Supervision) :
    (s.setSupervision arm v).armView arm = { s.armView arm with state := v.state, setpoint := v.setpoint } := by simp [State.armView]

theorem State.armView_setSupervision_ne (v : Supervision) (h : x ≠ arm) : (s.setSupervision arm v).armView x = s.armView x := by
  simp [State.armView, PerArm.get_put_ne _ _ h]

@[simp] theorem State.armView_setHead_same (v : Head) :
    (s.setHead arm v).armView arm = { s.armView arm with lasts := v.record.map fun h => h.last } := by simp [State.armView]

theorem State.armView_setHead_ne (v : Head) (h : x ≠ arm) : (s.setHead arm v).armView x = s.armView x := by
  simp [State.armView, PerArm.get_put_ne _ _ h]

theorem State.armView_active_same (r : ActiveProbe) :
    ({ s with active := s.active.put arm r } : State).armView arm = { s.armView arm with active := r } := by simp [State.armView]

theorem State.armView_active_ne (r : ActiveProbe) (h : x ≠ arm) :
    ({ s with active := s.active.put arm r } : State).armView x = s.armView x := by
  simp [State.armView, PerArm.get_put_ne _ _ h]

/-- Suspending an arm's capture leaves it SUSPENDED, and nothing else in the view changes (R147). -/
theorem suspendCapture_armView_same : (suspendCapture s arm).armView arm = { s.armView arm with capture := .suspended } := by
  unfold suspendCapture
  dsimp only
  split
  · rename_i h
    simp [State.armView, h]
  · simp

theorem suspendCapture_armView_ne (h : x ≠ arm) : (suspendCapture s arm).armView x = s.armView x := by
  unfold suspendCapture
  dsimp only
  split
  · rfl
  · exact s.armView_setCapture_ne _ h

end

/-! ### What sequencers, library and rack channel leave of an arm -/

/-- Supervision and correction are as they were, a SUSPENDED capture stays SUSPENDED, and unless the arm is said to be busy its capture is
SUSPENDED when it must be. -/
structure ArmView.Suspends (busy : Prop) (v w : ArmView) : Prop where
  state : w.state = v.state
  setpoint : w.setpoint = v.setpoint
  lasts : w.lasts = v.lasts
  stays : v.capture = .suspended → w.capture = .suspended
  judged : ¬ busy → v.SuspendedOk → w.SuspendedOk

theorem ArmView.Suspends.refl (busy : Prop) (v : ArmView) : v.Suspends busy v := ⟨rfl, rfl, rfl, id, fun _ h => h⟩

theorem ArmView.Suspends.trans {busy : Prop} {u v w : ArmView} (h : u.Suspends busy v) (k : v.Suspends busy w) : u.Suspends busy w :=
  ⟨k.state.trans h.state, k.setpoint.trans h.setpoint, k.lasts.trans h.lasts, k.stays ∘ h.stays,
    fun hb => k.judged hb ∘ h.judged hb⟩

/-- Both arms so, where the sequencer of one arm may be at work: it has left IDLE before, or is about to have its capture suspended. -/
def State.Suspends (busy : Option Arm) (s t : State) : Prop := ∀ arm, (s.armView arm).Suspends (busy = some arm) (t.armView arm)

namespace State.Suspends

variable {s₀ s t : State} {busy : Option Arm} {arm : Arm}

theorem refl (busy : Option Arm) (s : State) : s.Suspends busy s := fun _ => .refl _ _

theorem trans (h : s₀.Suspends busy s) (k : s.Suspends busy t) : s₀.Suspends busy t := fun x => (h x).trans (k x)

/-- What leaves the view of both arms. -/
theorem same (h : s₀.Suspends busy s) (e : ∀ x, t.armView x = s.armView x) : s₀.Suspends busy t := fun x => e x ▸ h x

/-- The work of an arm's sequencer, done in a state in which it was not IDLE, or to a state in which the arm's capture is SUSPENDED. -/
theorem work (h : s₀.Suspends busy s) (k : s.Suspends (some arm) t)
    (hq : (s.sequencer.get arm).state ≠ .idle ∨ (t.capture.get arm).state = .suspended) : s₀.Suspends busy t := by
  refine h.trans fun x => ?_
  by_cases e : x = arm
  · subst e
    exact { k x with judged := fun _ hok _ => hq.elim (fun hq => (k x).stays (hok (.inr (.inl hq)))) id }
  · exact { k x with judged := fun _ => (k x).judged fun hx => e (Option.some.inj hx).symm }

theorem raise (h : s₀.Suspends busy s) {k : NoticeKind} {j : Subject} {d : Nat} : s₀.Suspends busy (s.raise k j d) := h.same fun _ => rfl

theorem setRack (h : s₀.Suspends busy s) {r : Rack} : s₀.Suspends busy (s.setRack r) := h.same fun _ => rfl

theorem reach (h : s₀.Suspends busy s) {n : Nat} : s₀.Suspends busy (s.reach n) := h.same fun _ => rfl

theorem offer (h : s₀.Suspends busy s) {c : PortCommand} {n : Nat} : s₀.Suspends busy (offer s arm c n) := h.setRack

/-! ### Moves of a sequencer -/

theorem setSequencer (h : s₀.Suspends (some arm) s) {q : Sequencer} : s₀.Suspends (some arm) (s.setSequencer arm q) := by
  refine h.trans fun x => ?_
  by_cases e : x = arm
  · subst e
    rw [State.armView_setSequencer_same]
    exact ⟨rfl, rfl, rfl, id, fun hb => absurd rfl hb⟩
  · rw [State.armView_setSequencer_ne s q e]
    exact .refl _ _

/-- A sequencer that enters IDLE takes a suspending condition away. -/
theorem setIdle (h : s₀.Suspends busy s) : s₀.Suspends busy (s.setSequencer arm Sequencer.initial) := by
  refine h.trans fun x => ?_
  by_cases e : x = arm
  · subst e
    rw [State.armView_setSequencer_same]
    refine ⟨rfl, rfl, rfl, id, fun _ hok hm => hok ?_⟩
    rcases hm with hm | hm | hm
    · exact .inl hm
    · exact absurd rfl hm
    · exact .inr (.inr hm)
  · rw [State.armView_setSequencer_ne s _ e]
    exact .refl _ _

theorem clearPortMark (h : s₀.Suspends (some arm) s) : s₀.Suspends (some arm) (clearPortMark s arm) := h.setSequencer

theorem startPhase (h : s₀.Suspends (some arm) s) {q : Sequencer} {st : SeqState} : s₀.Suspends (some arm) (startPhase s arm q st) :=
  h.setSequencer

theorem enterOpening (h : s₀.Suspends (some arm) s) {st : SeqState} {n : Nat} : s₀.Suspends (some arm) (enterOpening s arm st n) :=
  h.offer.startPhase

theorem grantOpening (h : s₀.Suspends busy s) : s₀.Suspends busy (grantOpening s arm) := by
  unfold Machine.grantOpening
  dsimp only
  split
  · rename_i hq
    have granted {st : SeqState} {n : Nat} : s₀.Suspends busy (Machine.enterOpening s arm st n) :=
      h.work (enterOpening (refl _ s)) (.inl (by simp [hq]))
    split
    · exact granted
    · exact granted
    · exact h
  · exact h

theorem releaseRack (h : s₀.Suspends busy s) : s₀.Suspends busy (releaseRack s arm) := by
  unfold Machine.releaseRack
  dsimp only
  split
  · exact h.setRack.grantOpening
  · exact h.setRack

theorem endChange (h : s₀.Suspends busy s) : s₀.Suspends busy (endChange s arm) := h.setIdle.releaseRack

theorem completeChange (h : s₀.Suspends busy s) : s₀.Suspends busy (completeChange s arm) := h.setIdle.raise.releaseRack

theorem enterReclosing (h : s₀.Suspends (some arm) s) : s₀.Suspends (some arm) (enterReclosing s arm) := by
  unfold Machine.enterReclosing
  dsimp only
  split
  · exact h.offer.setSequencer
  · exact h.endChange

theorem wayBack (h : s₀.Suspends (some arm) s) : s₀.Suspends (some arm) (wayBack s arm) := by
  unfold Machine.wayBack enterClearing
  dsimp only
  split
  · split
    · exact h.setSequencer
    · exact h.setSequencer.enterReclosing
  · exact h.endChange

theorem failPhase (h : s₀.Suspends (some arm) s) {c : FailureCause} : s₀.Suspends (some arm) (failPhase s arm c) := by
  unfold Machine.failPhase
  dsimp only
  split
  · exact h.setSequencer.raise.setSequencer
  · exact h.setSequencer.raise.wayBack

theorem failChange (h : s₀.Suspends busy s) {c : FailureCause} : s₀.Suspends busy (failChange s arm c) := by
  unfold Machine.failChange
  split
  any_goals exact h
  · exact h.raise.setRack.setIdle
  · exact h.work (failPhase (refl _ s)) (.inl ‹_›)

theorem toldStopped (h : s₀.Suspends busy s) : s₀.Suspends busy (toldStopped s arm) := by
  unfold Machine.toldStopped
  split
  any_goals exact h.failChange
  exact h

theorem leavingTest (h : s₀.Suspends busy s) : s₀.Suspends busy (leavingTest s arm) := by
  have left : s.Suspends (some arm) (leaveCorridor s arm) := by
    unfold leaveCorridor
    dsimp only
    split
    · exact (refl _ s).setSequencer.offer.startPhase
    · exact (refl _ s).setSequencer.offer.startPhase
    · exact (refl _ s).setSequencer.enterReclosing
    · exact (refl _ s).setSequencer
  unfold Machine.leavingTest
  split
  · rename_i hl
    exact h.work left (.inl fun hi => by simp [hi, SeqState.leaves] at hl)
  · exact h

/-! ### Capture, active probe records and library -/

theorem suspendCapture (h : s₀.Suspends busy s) : s₀.Suspends busy (suspendCapture s arm) := by
  refine h.trans fun x => ?_
  by_cases e : x = arm
  · subst e
    rw [suspendCapture_armView_same]
    exact ⟨rfl, rfl, rfl, fun _ => rfl, fun _ _ _ => rfl⟩
  · rw [suspendCapture_armView_ne s e]
    exact .refl _ _

/-- A record that becomes KNOWN with the capture probe's index leaves the capture as it must be; any other suspends it (R147). -/
theorem setActive (h : s₀.Suspends busy s) {r : ActiveProbe} : s₀.Suspends busy (setActive s arm r) := by
  have unsuspended (hr : ∃ i, r = .known i) : s₀.Suspends busy { s with active := s.active.put arm r } := by
    refine h.trans fun x => ?_
    by_cases e : x = arm
    · subst e
      rw [State.armView_active_same]
      refine ⟨rfl, rfl, rfl, id, fun _ hok hm => hok ?_⟩
      obtain ⟨i, rfl⟩ := hr
      exact hm.imp id (Or.imp id fun hm => absurd rfl (hm i))
    · rw [State.armView_active_ne s r e]
      exact .refl _ _
  have suspended : s₀.Suspends busy (Machine.suspendCapture { s with active := s.active.put arm r } arm) := by
    refine h.trans fun x => ?_
    by_cases e : x = arm
    · subst e
      rw [suspendCapture_armView_same, State.armView_active_same]
      exact ⟨rfl, rfl, rfl, fun _ => rfl, fun _ _ _ => rfl⟩
    · rw [suspendCapture_armView_ne _ e, State.armView_active_ne s r e]
      exact .refl _ _
  unfold Machine.setActive
  dsimp only
  split
  · split
    · exact unsuspended ⟨_, rfl⟩
    · exact suspended
  · exact suspended

theorem modifyEntry (h : s₀.Suspends busy s) {i : Nat} {f : LibraryEntry → LibraryEntry} : s₀.Suspends busy (modifyEntry s i f) := by
  unfold Machine.modifyEntry
  split
  · exact h.same fun _ => rfl
  · exact h

theorem setLibrary (h : s₀.Suspends busy s) {l : Table LibraryEntry} : s₀.Suspends busy { s with library := l } := h.same fun _ => rfl

theorem setLocation (h : s₀.Suspends busy s) {i : Nat} {l : Location} : s₀.Suspends busy (setLocation s i l) := h.modifyEntry

theorem takeFromOther (h : s₀.Suspends busy s) {i x : Nat} : s₀.Suspends busy (takeFromOther s arm i x) :=
  h.setLocation.setActive.raise.setActive

theorem mountIdentity (h : s₀.Suspends busy s) {x : Nat} : s₀.Suspends busy (mountIdentity s arm x) := by
  unfold Machine.mountIdentity
  split
  · split
    · exact h.takeFromOther
    · exact h.modifyEntry.setActive
  · exact h.setActive

theorem mountChange (h : s₀.Suspends busy s) {r : ProbeReport} : s₀.Suspends busy (mountChange s arm r) := by
  unfold Machine.mountChange detachedMount manualMount loseOldProbe
  split
  · split
    · exact h.setLocation.setActive.raise
    · exact h.setActive
    · exact h
  · split
    · exact h.setLocation.raise.mountIdentity.raise
    · exact h.mountIdentity.raise

theorem writeEntry (h : s₀.Suspends busy s) {i : Nat} {e : Entry} : s₀.Suspends busy (writeEntry s i e) := by
  cases e with
  | library l =>
    change s₀.Suspends busy (writeLibrary s i l)
    unfold writeLibrary
    split
    · exact h.setLibrary
    · split
      · exact (h.setLibrary (l := Table.store s.library i _)).setActive
      · exact h.setLibrary
  | _ => exact h.same fun _ => rfl

/-! ### Reports -/

theorem dropReleased (h : s₀.Suspends (some arm) s) {r : ProbeReport} : s₀.Suspends (some arm) (dropReleased s arm r) := by
  unfold Machine.dropReleased
  dsimp only
  split
  · exact h.startPhase
  · split
    · exact h.setLocation.setActive.startPhase
    · exact h.mountChange.failChange
  · exact h.mountChange.failChange

theorem pickAttached (h : s₀.Suspends (some arm) s) {x : Nat} : s₀.Suspends (some arm) (pickAttached s arm x) := by
  have wrong {n : Nat} : s₀.Suspends (some arm) (Machine.failChange (wrongProbeUpdate s arm n x) arm .wrongProbe) :=
    h.modifyEntry.mountIdentity.failChange
  unfold Machine.pickAttached
  dsimp only
  split
  · exact h
  · split
    · exact wrong
    · split
      · split
        · exact h.takeFromOther.raise.failChange
        · exact h.setLocation.setActive.startPhase
      · exact wrong

theorem libraryReport (h : s₀.Suspends busy s) {r : ProbeReport} : s₀.Suspends busy (libraryReport s arm r) := by
  unfold Machine.libraryReport takeReport
  dsimp only
  split
  · split
    · exact h
    · exact h.mountChange
  · rename_i hq
    split
    · exact h
    · exact h.work (dropReleased (refl _ s)) (.inl hq)
    · exact h
    · split
      · exact h
      · exact h.work (pickAttached (refl _ s)) (.inl hq)
    · split
      · exact h
      · exact h.mountChange.failChange

/-! ### Outcomes of rack messages -/

theorem openCorridor (h : s₀.Suspends (some arm) s) {st : SeqState} {k : NoticeKind} {n : Nat} :
    s₀.Suspends (some arm) (openCorridor s arm st k n) := by
  unfold Machine.openCorridor
  split
  · exact h.failChange
  · exact h.startPhase.raise

theorem judgeDrop (h : s₀.Suspends (some arm) s) {b : Bool} : s₀.Suspends (some arm) (judgeDrop s arm b) := by
  unfold Machine.judgeDrop
  dsimp only
  split
  · exact h.setSequencer.modifyEntry
  · exact h.setSequencer

theorem judgeAfterFailure (h : s₀.Suspends (some arm) s) {n : Nat} {o : RackOutcome} :
    s₀.Suspends (some arm) (judgeAfterFailure s arm n o) := by
  unfold Machine.judgeAfterFailure
  split
  · dsimp only
    split
    · split
      · exact h.judgeDrop
      · exact h.judgeDrop.raise
    · exact h
  · exact h

theorem afterDrop (h : s₀.Suspends (some arm) s) : s₀.Suspends (some arm) (afterDrop s arm) := by
  unfold Machine.afterDrop
  split
  · exact h.enterOpening
  · exact h.completeChange

theorem dropClosingOutcome (h : s₀.Suspends (some arm) s) {n : Nat} {o : RackOutcome} :
    s₀.Suspends (some arm) (dropClosingOutcome s arm n o) := by
  unfold Machine.dropClosingOutcome
  dsimp only
  split
  · split
    · split
      · exact h.clearPortMark.judgeDrop.afterDrop
      · exact h.clearPortMark.judgeDrop.failChange
    · exact h.clearPortMark.afterDrop
  · split
    · split
      · exact h.judgeDrop.failChange
      · exact h.judgeDrop.failChange.raise
    · exact h.failChange
  · exact h.failChange
  · exact h.failChange

/-- An outcome is work of the sender's sequencer, which is not IDLE when it takes one. -/
theorem takeOutcome (h : s₀.Suspends busy s) {m : RackMessage} {o : RackOutcome} : s₀.Suspends busy (takeOutcome s m o) := by
  have k : s.Suspends (some m.sender) s := refl _ s
  have done {t : State} (ht : s.Suspends (some m.sender) t) (hq : (s.sequencer.get m.sender).state ≠ .idle) : s₀.Suspends busy t :=
    h.work ht (.inl hq)
  unfold Machine.takeOutcome
  split
  · refine done ?_ (by simp [*])
    unfold dropOpeningOutcome
    split
    · exact k.clearPortMark.failChange
    · exact k.failChange
    · exact k.openCorridor
    · exact k.failChange
    · exact k.failChange
  · refine done ?_ (by simp [*])
    unfold pickOpeningOutcome
    split
    · exact k.clearPortMark.failChange
    · exact k.openCorridor
    · exact k.failChange
    · exact k.failChange
    · exact k.failChange
  · exact done k.dropClosingOutcome (by simp [*])
  · refine done ?_ (by simp [*])
    unfold pickClosingOutcome
    split
    · exact k.clearPortMark.completeChange
    · exact k.failChange
    · exact k.failChange
    · exact k.failChange
  · refine done (wayBack (judgeAfterFailure ?_)) (by simp [*])
    split
    · split
      · exact k.clearPortMark
      · exact k
    · exact k
  · refine done ?_ (by simp [*])
    unfold reclosingOutcome
    dsimp only
    split
    · exact k.judgeAfterFailure.endChange
    · exact k.judgeAfterFailure.raise.endChange
  · exact h

/-! ### Changes -/

/-- An accepted change leaves IDLE and has its arm's capture suspended (R127, R147). -/
theorem changeProbe (h : s₀.Suspends busy s) {x : Nat} : s₀.Suspends busy (changeProbe s arm x).1 := by
  unfold Machine.changeProbe
  split
  · exact h
  · exact h.raise
  · have queued {q : Sequencer} : s₀.Suspends busy (Machine.suspendCapture (s.setSequencer arm q) arm) :=
      h.work ((refl _ s).setSequencer.suspendCapture) (.inr (congrArg ArmView.capture (suspendCapture_armView_same _)))
    unfold acceptChange
    dsimp only
    split
    · exact queued.setRack.grantOpening
    · exact queued.setRack

end State.Suspends

end Sys2Proof.Machine
end

section
/-! STOP ARM: what a stop does to supervisor, sequencer and capture of an arm (R91, R100, R140, R141, R147). -/

namespace Sys2Proof.Machine

/-! ### A failing change and the captures -/

/-- The state with other captures. -/
def State.withCapture (s : State) (c : PerArm Capture) : State := { s with capture := c }

section
variable {s t : State} {arm : Arm} (c : PerArm Capture)

theorem State.EndsChange.withCapture (h : s.EndsChange t arm) : (s.withCapture c).EndsChange (t.withCapture c) arm := fun hholder =>
  have ⟨hnone, hnext⟩ := h hholder
  ⟨fun hw => congrArg (State.withCapture · c) (hnone hw),
    fun next b hw hne hm hq hb => congrArg (State.withCapture · c) (hnext next b hw hne hm hq hb)⟩

theorem State.GoesBack.withCapture (h : s.GoesBack t arm) : (s.withCapture c).GoesBack (t.withCapture c) arm := by
  obtain ⟨hmark, hnone⟩ := h
  refine ⟨fun mark hm => ?_, fun hm => (hnone hm).withCapture c⟩
  obtain ⟨hclearing, hreclosing⟩ := hmark mark hm
  exact ⟨fun hc => congrArg (State.withCapture · c) (hclearing hc),
    fun hc hr hh => congrArg (State.withCapture · c) (hreclosing hc hr hh)⟩

/-- The failure of a change neither reads nor changes a capture. -/
theorem State.ChangeFails.withCapture {cause : Nat} (h : s.ChangeFails t arm cause) :
    (s.withCapture c).ChangeFails (t.withCapture c) arm cause := by
  obtain ⟨hwinding, hback⟩ := h
  exact ⟨fun m hm ha => congrArg (State.withCapture · c) (hwinding m hm ha), fun hn => (hback hn).withCapture c⟩

end

/-! ### A stop -/

theorem suspendCapture_suspendedNow (s : State) (arm : Arm) :
    suspendCapture s arm = s.withCapture (s.capture.put arm (s.capture.get arm).suspendedNow) := by
  unfold suspendCapture Capture.suspendedNow
  dsimp only
  split
  · rw [PerArm.put_get_self]; rfl
  · rfl

theorem toldStopped_capture (s : State) (arm : Arm) : (toldStopped s arm).capture = s.capture :=
  have f {α : Type} (g : State → α) : g (toldStopped s arm).sansMoves = g s.sansMoves := congrArg g (toldStopped_sansMoves s arm)
  f State.capture

/-- The sequencer states in which a stop of the arm fails its change (R140). -/
def SeqState.stopFails : List SeqState := [.dropCorridor, .dropLeaving, .pickCorridor, .pickLeaving]

theorem toldStopped_eq (s : State) (arm : Arm) :
    toldStopped s arm = if (s.sequencer.get arm).state ∈ SeqState.stopFails then failChange s arm .armStopped else s := by
  unfold toldStopped
  generalize (s.sequencer.get arm).state = q
  cases q <;> rfl

theorem toldStopped_of_notMem {s : State} {arm : Arm} (h : (s.sequencer.get arm).state ∉ SeqState.stopFails) : toldStopped s arm = s :=
  (toldStopped_eq s arm).trans (if_neg h)

theorem toldStopped_of_mem {s : State} {arm : Arm} (h : (s.sequencer.get arm).state ∈ SeqState.stopFails) :
    toldStopped s arm = failPhase s arm .armStopped :=
  have isPhase : ∀ q ∈ SeqState.stopFails, q.isPhase = true := by decide
  ((toldStopped_eq s arm).trans (if_pos h)).trans (failChange_of_phase (isPhase _ h) _)

theorem stopArm_of_stopped {s : State} {arm : Arm} (h : (s.supervision.get arm).state = .stopped) (c : StopCause) :
    stopArm s arm c = s := if_pos h

/-- The supervisor's part of a stop: STOPPED with the cause, and ARM_STOPPED raised (R91). -/
def State.stoppedFor (s : State) (arm : Arm) (c : StopCause) : State :=
  (s.setSupervision arm { s.supervision.get arm with state := .stopped, cause := c }).raise .armStopped (.arm arm) (stopCauseCode c)

theorem stopArm_of_running {s : State} {arm : Arm} (h : (s.supervision.get arm).state ≠ .stopped) (c : StopCause) :
    stopArm s arm c = suspendCapture (toldStopped (s.stoppedFor arm c) arm) arm := if_neg h

theorem stopArm_withCapture {s : State} {arm : Arm} (h : (s.supervision.get arm).state ≠ .stopped) (c : StopCause) :
    stopArm s arm c =
      (toldStopped (s.stoppedFor arm c) arm).withCapture (s.capture.put arm (s.capture.get arm).suspendedNow) := by
  rw [stopArm_of_running h, suspendCapture_suspendedNow, toldStopped_capture]
  rfl

/-! ### STOP ARM -/

theorem exec_stopArm {s : State} {tag arm : Byte} (hs : s.Ready) {x : State × Answer}
    (hx : withArm s.windowBroken [arm] (stopRequest s.windowBroken) = x) :
    exec (.stopArm tag [arm]) s = .next (x.1.answered tag 0x32 x.2.outcome x.2.reason x.2.data) :=
  exec_listed (r := { tag := tag, code := 0x32, params := [arm] }) hs rfl (by simp [listedLengths]) hx

namespace Requests

/-- Settles O37: a STOPPED arm stays as it is; one that runs is stopped, and its change fails in the four states with the arm at the
rack. -/
theorem stopArm : Obligations.StopArm := by
  intro s tag arm hs
  refine ⟨fun ha => exec_stopArm hs (withArm_none _ _ _ ha), fun which ha => ?_⟩
  have stopped : exec (.stopArm tag [arm]) s = .next ((Machine.stopArm s.windowBroken which .request).answered tag 0x32 .done .none []) :=
    exec_stopArm hs (withArm_some _ _ _ ha)
  refine ⟨fun h => ?_, fun h => ⟨fun hq => ?_, fun hq => ?_⟩⟩
  · rw [stopped, stopArm_of_stopped (s := s.windowBroken) h]
  · rw [stopped, stopArm_withCapture (s := s.windowBroken) h, toldStopped_of_notMem (s := s.windowBroken.stoppedFor which .request) hq]
    rfl
  · refine ⟨_, ?_, stopped⟩
    rw [stopArm_withCapture (s := s.windowBroken) h, toldStopped_of_mem (s := s.windowBroken.stoppedFor which .request) hq]
    exact (failPhase_changeFails (s.windowBroken.stoppedFor which .request) which .armStopped).withCapture _

end Requests

end Sys2Proof.Machine
end

section
/-! What every command and the work between commands leave of an arm: it stays as supervision, correction and capture keep it, and STOPPED
unless a release may be among what happens (R83, R91, R93, R101, R147, R148). -/

namespace Sys2Proof.Machine

/-! ### An arm kept -/

theorem not_mustSuspend_of_captureReady {s : State} {arm : Arm} {i : Nat} (h : captureReady s arm = some i) :
    ¬ (s.armView arm).MustSuspend := by
  unfold captureReady at h
  split at h; · cases h
  split at h; · cases h
  rename_i hstate hseq
  split at h
  · rename_i j hactive
    rintro (hm | hm | hm)
    · exact hstate hm
    · exact hseq hm
    · exact hm j hactive
  · cases h

/-- The arm stays as it must be, and STOPPED where no release is among what happens. -/
structure ArmView.Keeps (releases : Prop) (v w : ArmView) : Prop where
  stopped : ¬ releases → v.state = .stopped → w.state = .stopped
  ok : v.Ok → w.Ok

section
variable {releases : Prop} {u v w : ArmView}

theorem ArmView.Keeps.refl (v : ArmView) : v.Keeps releases v := ⟨fun _ => id, id⟩

theorem ArmView.Keeps.trans (h : u.Keeps releases v) (k : v.Keeps releases w) : u.Keeps releases w :=
  ⟨fun hr => k.stopped hr ∘ h.stopped hr, k.ok ∘ h.ok⟩

/-- What sequencers, library and rack channel do to an arm whose sequencer is not at work keeps it. -/
theorem ArmView.Suspends.keeps {busy : Prop} (k : v.Suspends busy w) (hb : ¬ busy) : v.Keeps releases w where
  stopped _ h := k.state.trans h
  ok h :=
    { released := by rw [k.state, k.setpoint, k.lasts]; exact h.released
      suspended := k.judged hb h.suspended
      setpoint := by rw [k.setpoint]; exact h.setpoint
      lasts := by rw [k.lasts]; exact h.lasts }

/-- An arm that is stopped and has its capture suspended. -/
theorem ArmView.Keeps.halted (state : w.state = .stopped) (capture : w.capture = .suspended) (setpoint : w.setpoint = v.setpoint)
    (lasts : w.lasts = v.lasts) : v.Keeps releases w where
  stopped _ _ := state
  ok h :=
    { released := fun hn => absurd state hn
      suspended := fun _ => capture
      setpoint := by rw [setpoint]; exact h.setpoint
      lasts := by rw [lasts]; exact h.lasts }

end

/-- Both arms are kept. -/
def State.KeepsArms (releases : Prop) (s t : State) : Prop := ∀ arm, (s.armView arm).Keeps releases (t.armView arm)

namespace State.KeepsArms

variable {R : Prop} {s₀ s t : State} {arm : Arm}

theorem refl (s : State) : s.KeepsArms R s := fun _ => .refl _

theorem trans (h : s₀.KeepsArms R s) (k : s.KeepsArms R t) : s₀.KeepsArms R t := fun x => (h x).trans (k x)

/-- What leaves the view of both arms. -/
theorem same (h : s₀.KeepsArms R s) (e : ∀ x, t.armView x = s.armView x) : s₀.KeepsArms R t := fun x => e x ▸ h x

/-- What leaves the view of the other arm. -/
theorem one (h : s₀.KeepsArms R s) (hne : ∀ x, x ≠ arm → t.armView x = s.armView x)
    (k : (s.armView arm).Keeps R (t.armView arm)) : s₀.KeepsArms R t := by
  refine h.trans fun x => ?_
  by_cases e : x = arm
  · exact e ▸ k
  · exact hne x e ▸ .refl _

/-- What sequencers, library and rack channel do. -/
theorem suspends (h : s₀.KeepsArms R s) (k : s.Suspends none t) : s₀.KeepsArms R t := h.trans fun x => (k x).keeps nofun

theorem raise (h : s₀.KeepsArms R s) {k : NoticeKind} {j : Subject} {d : Nat} : s₀.KeepsArms R (s.raise k j d) := h.same fun _ => rfl

theorem setLink (h : s₀.KeepsArms R s) {v : Link} : s₀.KeepsArms R (s.setLink v) := h.same fun _ => rfl

theorem setService (h : s₀.KeepsArms R s) {v : Service} : s₀.KeepsArms R (s.setService v) := h.same fun _ => rfl

theorem setQueue (h : s₀.KeepsArms R s) {v : Queue} : s₀.KeepsArms R (s.setQueue v) := h.same fun _ => rfl

theorem setNotices (h : s₀.KeepsArms R s) {v : Notices} : s₀.KeepsArms R (s.setNotices v) := h.same fun _ => rfl

theorem setRack (h : s₀.KeepsArms R s) {v : Rack} : s₀.KeepsArms R (s.setRack v) := h.same fun _ => rfl

theorem setWalk (h : s₀.KeepsArms R s) {v : Walk} : s₀.KeepsArms R (s.setWalk arm v) := h.same fun _ => rfl

theorem reach (h : s₀.KeepsArms R s) {n : Nat} : s₀.KeepsArms R (s.reach n) := h.same fun _ => rfl

/-! ### Frames counted and placed -/

theorem countBadFrame (h : s₀.KeepsArms R s) {p : Port} : s₀.KeepsArms R (s.countBadFrame p) := by
  cases p
  · exact h.setLink.raise
  · exact h.setLink.raise

theorem placeTx (h : s₀.KeepsArms R s) {p : Port} {f : TxFrame} : s₀.KeepsArms R (s.placeTx p f) := by
  rcases s.placeTx_cases p f with ⟨_, e⟩ | ⟨_, e⟩ <;> rw [e]
  · exact h
  · exact h.setLink

theorem forward (h : s₀.KeepsArms R s) {p : Port} {f : TxFrame} : s₀.KeepsArms R (s.forward p f) := by
  rcases s.forward_cases p f with ⟨_, e⟩ | ⟨_, e⟩ <;> rw [e]
  · exact h.countBadFrame
  · exact h.setLink

/-! ### The motion supervisor -/

/-- A stopped arm has its capture suspended, whatever its sequencer does (R91, R140, R147). -/
theorem stopArm (h : s₀.KeepsArms R s) {c : StopCause} : s₀.KeepsArms R (stopArm s arm c) := by
  by_cases hv : (s.supervision.get arm).state = .stopped
  · rw [stopArm_of_stopped hv]
    exact h
  · rw [stopArm_of_running hv]
    have hsame : (s.stoppedFor arm c).armView arm = { s.armView arm with state := .stopped } := s.armView_setSupervision_same _
    have hother (x : Arm) (hx : x ≠ arm) : (s.stoppedFor arm c).armView x = s.armView x := s.armView_setSupervision_ne _ hx
    have k := (State.Suspends.refl (some arm) (s.stoppedFor arm c)).toldStopped (arm := arm) |>.suspendCapture (arm := arm)
    refine h.trans fun x => ?_
    by_cases e : x = arm
    · subst e
      have kx := hsame ▸ k x
      exact .halted kx.state (congrArg ArmView.capture (suspendCapture_armView_same _)) kx.setpoint kx.lasts
    · exact (hother x e ▸ k x).keeps fun hx => e (Option.some.inj hx).symm

/-- The supervision moves an arm between FREE and HELD, or not at all, and its setpoint within range. -/
theorem setSupervision (h : s₀.KeepsArms R s) {v : Supervision} (hs : v.state = .stopped ↔ (s.supervision.get arm).state = .stopped)
    (hp : v.setpoint = (s.supervision.get arm).setpoint ∨ ∃ p, v.setpoint = some p ∧ p.all withinPosition = true) :
    s₀.KeepsArms R (s.setSupervision arm v) := by
  refine h.one (fun x => s.armView_setSupervision_ne v) ?_
  rw [State.armView_setSupervision_same]
  refine ⟨fun _ => hs.2, fun hok => ⟨fun hn => ?_, fun hm => hok.suspended (hm.imp hs.1 id), ?_, hok.lasts⟩⟩
  · obtain ⟨hset, hlasts⟩ := hok.released (hn ∘ hs.2)
    refine ⟨?_, hlasts⟩
    rcases hp with e | ⟨p, e, _⟩ <;> rw [e]
    · exact hset
    · rfl
  · rcases hp with e | ⟨p, e, hr⟩ <;> rw [e]
    · exact hok.setpoint
    · intro q hq
      exact Option.some.inj hq ▸ hr

theorem supervisedTarget (h : s₀.KeepsArms R s) {p : Triple Int} {payload : List Byte} (hr : (s.supervision.get arm).state ≠ .stopped) :
    s₀.KeepsArms R (supervisedTarget s arm p payload).1 := by
  have clamped (target : Triple Int) : (clampTargets s arm p target).all withinPosition = true :=
    Triple.all_iff.2 fun ax => by rw [clampTargets_get]; exact withinPosition_clampPosition _
  have held {n : Nat} : s₀.KeepsArms R (s.setSupervision arm (heldSupervision (s.supervision.get arm) n)) :=
    h.setSupervision (iff_of_false nofun hr) (.inl rfl)
  unfold Machine.supervisedTarget
  dsimp only
  split
  · exact h.setSupervision (iff_of_false nofun hr) (.inr ⟨_, rfl, clamped _⟩)
  · split
    · exact held.stopArm
    · exact held

theorem targetSlot (h : s₀.KeepsArms R s) {payload : List Byte} : s₀.KeepsArms R (targetSlot s arm payload).1 := by
  unfold Machine.targetSlot
  dsimp only
  split
  · exact h
  · exact h.supervisedTarget ‹_›
  · exact h

theorem overtravelReport (h : s₀.KeepsArms R s) {r : ProbeReport} : s₀.KeepsArms R (overtravelReport s arm r) := by
  have ho : s₀.KeepsArms R (s.setSupervision arm { s.supervision.get arm with overtravel := some r.overtravel }) :=
    h.setSupervision .rfl (.inl rfl)
  unfold Machine.overtravelReport
  dsimp only
  split
  · exact ho.stopArm
  · exact ho

theorem probeSlot (h : s₀.KeepsArms R s) {r : ProbeReport} : s₀.KeepsArms R (probeSlot s arm r) := by
  have hreport : s₀.KeepsArms R { s with latestReport := s.latestReport.put arm (some r) } := h.same fun _ => rfl
  exact (hreport.suspends (State.Suspends.refl _ _).libraryReport).overtravelReport

/-- A released arm takes its corrected head position as setpoint (R102). -/
theorem releaseArm (h : s₀.KeepsArms R s) (hR : R) : s₀.KeepsArms R (releaseArm s arm).1 := by
  unfold Machine.releaseArm
  dsimp only
  split; · exact h
  split; · exact h
  split; · exact h
  split; · exact h
  rename_i p hp
  split
  · refine h.one (fun x => s.armView_setSupervision_ne _) ?_
    have hlast : ∀ ax, (s.armView arm).lasts.get ax = some (p.get ax) := (Triple.present_eq_some_iff _ p).1 hp
    rw [State.armView_setSupervision_same]
    refine ⟨fun hn => absurd hR hn, fun hok => ⟨fun _ => ⟨rfl, fun ax => by simp [hlast]⟩, fun hm => ?_, ?_, hok.lasts⟩⟩
    · exact hok.suspended (hm.imp nofun id)
    · intro q hq
      obtain rfl := Option.some.inj hq
      exact Triple.all_iff.2 fun ax => hok.lasts ax _ (hlast ax)
  · exact h

/-! ### The correction engine -/

/-- Each axis keeps its last corrected value or takes one within range. -/
theorem setHead (h : s₀.KeepsArms R s) {v : Head}
    (hl : ∀ ax, (v.record.get ax).last = ((s.head.get arm).record.get ax).last ∨
      ∃ y, (v.record.get ax).last = some y ∧ withinPosition y = true) : s₀.KeepsArms R (s.setHead arm v) := by
  refine h.one (fun x => s.armView_setHead_ne v) ?_
  have hget (ax : Axis) : (s.armView arm).lasts.get ax = ((s.head.get arm).record.get ax).last := Triple.map_get _ _ _
  rw [State.armView_setHead_same]
  refine ⟨fun _ => id, fun hok => ⟨fun hn => ?_, hok.suspended, hok.setpoint, fun ax x => ?_⟩⟩
  · obtain ⟨hset, hlasts⟩ := hok.released hn
    refine ⟨hset, fun ax => ?_⟩
    rw [Triple.map_get]
    rcases hl ax with e | ⟨y, e, _⟩ <;> rw [e]
    · exact hget ax ▸ hlasts ax
    · rfl
  · rw [Triple.map_get]
    rcases hl ax with e | ⟨y, e, hy⟩ <;> rw [e]
    · exact hget ax ▸ hok.lasts ax x
    · rintro ⟨⟩
      exact hy

theorem updateRecord (h : s₀.KeepsArms R s) {payload : List Byte} : s₀.KeepsArms R (updateRecord s arm payload) := by
  refine h.setHead fun ax => ?_
  rw [Triple.map_get, correctAxes_get, correctAxis]
  split
  · exact .inr ⟨_, rfl, withinPosition_clampPosition _⟩
  · exact .inl rfl

theorem countFail (h : s₀.KeepsArms R s) : s₀.KeepsArms R (countFail s arm) := by
  have hrecord : (failCycle (s.setup.scaleFailLimit.get arm) (s.head.get arm)).1.record = (s.head.get arm).record := by
    unfold failCycle
    dsimp only
    split <;> rfl
  have hc : s₀.KeepsArms R (s.setHead arm (failCycle (s.setup.scaleFailLimit.get arm) (s.head.get arm)).1) :=
    h.setHead fun ax => .inl (by rw [hrecord])
  unfold Machine.countFail
  dsimp only
  split
  · exact hc.stopArm
  · exact hc

theorem positionSlot (h : s₀.KeepsArms R s) {payload : List Byte} : s₀.KeepsArms R (positionSlot s arm payload) := by
  have hr : s₀.KeepsArms R (Machine.updateRecord s arm payload) := h.updateRecord
  unfold Machine.positionSlot
  dsimp only
  split
  · exact (hr.setHead (v := endFailRun ((Machine.updateRecord s arm payload).head.get arm)) fun _ => .inl rfl).suspends
      (State.Suspends.refl _ _).leavingTest
  · exact hr.countFail

theorem missingPosition (h : s₀.KeepsArms R s) {b : Bool} : s₀.KeepsArms R (missingPosition s arm b) := by
  unfold Machine.missingPosition
  split
  · exact h
  · exact (h.setHead fun ax => .inl (by rw [missingRecord, Triple.map_get])).countFail

/-! ### The thermal block -/

theorem takeReading (h : s₀.KeepsArms R s) {c : Nat} {t : Int} : s₀.KeepsArms R (takeReading s c t) := by
  have stored {d : Channel} : s₀.KeepsArms R { s with channels := Table.store s.channels c d } := h.same fun _ => rfl
  unfold Machine.takeReading
  split
  · exact h
  · dsimp only
    split
    · split
      · exact stored.raise
      · exact stored
    · split
      · exact stored.raise
      · exact stored

theorem thermalSlot (h : s₀.KeepsArms R s) {hub : Nat} {payload : List Byte} : s₀.KeepsArms R (thermalSlot s hub payload) := by
  refine Kept.foldl (fun p h => ?_) _ h
  split
  · exact h.takeReading
  · exact h

theorem ageChannels (h : s₀.KeepsArms R s) {read : List Nat} : s₀.KeepsArms R (ageChannels s read) :=
  Kept.foldl (f := fun s (p : Nat × Channel) => s.raise .channelStale (.channel p.1) 0) (fun _ h => h.raise) _ (h.same fun _ => rfl)

/-! ### The capture engine -/

/-- A SUSPENDED capture stays so while a suspending condition holds (R147). -/
theorem setCapture (h : s₀.KeepsArms R s) {v : Capture}
    (hv : (s.armView arm).MustSuspend → (s.capture.get arm).state = .suspended → v.state = .suspended) :
    s₀.KeepsArms R (s.setCapture arm v) := by
  refine h.one (fun x => s.armView_setCapture_ne v) ?_
  rw [State.armView_setCapture_same]
  exact ⟨fun _ => id, fun hok => ⟨hok.released, fun hm => hv hm (hok.suspended hm), hok.setpoint, hok.lasts⟩⟩

theorem enqueueRecord (h : s₀.KeepsArms R s) {r : CaptureRecord} : s₀.KeepsArms R (enqueueRecord s r).1 := by
  rcases enqueueRecord_cases s r with ⟨_, e⟩ | ⟨_, e⟩ <;> rw [e]
  · unfold commitRecord
    dsimp only
    split
    · exact h.setQueue.raise
    · exact h.setQueue
  · exact h.setQueue.raise

theorem setPlan (h : s₀.KeepsArms R s) {l : Table PlanEntry} : s₀.KeepsArms R { s with plan := l } := h.same fun _ => rfl

theorem handRecord (h : s₀.KeepsArms R s) {r : CaptureRecord} {n : Nat} : s₀.KeepsArms R (handRecord s r n) := by
  unfold Machine.handRecord walkRecord matchRecord
  dsimp only
  split
  · split
    · exact h.setWalk.raise.enqueueRecord
    · split; · exact h.setWalk.raise.enqueueRecord
      split; · exact h.setWalk.raise.enqueueRecord
      split
      · split
        · exact h.setWalk.raise.enqueueRecord.setPlan
        · exact h.setWalk.enqueueRecord.setPlan
      · exact h.enqueueRecord
  · exact h.enqueueRecord

theorem commitTouch (h : s₀.KeepsArms R s) {l : TouchLatch} : s₀.KeepsArms R (commitTouch s arm l) := by
  unfold Machine.commitTouch
  split
  · exact h.handRecord
  · exact h

theorem commitStuck (h : s₀.KeepsArms R s) {c : CycleNumber} : s₀.KeepsArms R (commitStuck s arm c) := by
  unfold Machine.commitStuck
  split
  · exact h.handRecord
  · exact h

/-- Capture leaves SUSPENDED when no suspending condition holds (R147, R148). -/
theorem leaveSuspended (h : s₀.KeepsArms R s) : s₀.KeepsArms R (leaveSuspended s arm) := by
  unfold Machine.leaveSuspended
  dsimp only
  split
  · rename_i hready
    exact h.setCapture fun hm => absurd hm (not_mustSuspend_of_captureReady hready)
  · exact h

/-- The steps of a capture that is not SUSPENDED (R149 to R152). -/
theorem captureStep (h : s₀.KeepsArms R s) {r : Option ProbeReport} {c : CycleNumber} : s₀.KeepsArms R (captureStep s arm r c) := by
  have stepped {v : Capture} (hc : (s.capture.get arm).state ≠ .suspended) : s₀.KeepsArms R (s.setCapture arm v) :=
    h.setCapture fun _ e => absurd e hc
  have bounced (hc : (s.capture.get arm).state ≠ .suspended) : s₀.KeepsArms R (bounceTouch s arm) := stepped hc
  unfold Machine.captureStep
  split
  · rename_i e
    have hc : (s.capture.get arm).state ≠ .suspended := e ▸ nofun
    unfold armedStep
    dsimp only
    split
    · split
      · exact (stepped hc).commitTouch
      · exact stepped hc
    · exact h
  · rename_i e
    have hc : (s.capture.get arm).state ≠ .suspended := e ▸ nofun
    unfold confirmTouch
    dsimp only
    split
    · split
      · split
        · exact (stepped hc).commitTouch
        · exact stepped hc
      · exact stepped hc
    · exact bounced hc
  · rename_i e
    exact bounced (e ▸ nofun)
  · rename_i e
    have hc : (s.capture.get arm).state ≠ .suspended := e ▸ nofun
    unfold deflectedStep
    dsimp only
    split
    · split
      · exact (stepped hc).commitStuck
      · exact stepped hc
    · exact stepped hc
  · rename_i e
    have hc : (s.capture.get arm).state ≠ .suspended := e ▸ nofun
    unfold rearmingStep
    dsimp only
    split
    · exact stepped hc
    · split
      · exact stepped hc
      · exact stepped hc
  · exact h

theorem evaluateArm (h : s₀.KeepsArms R s) {r : Option ProbeReport} {c : CycleNumber} : s₀.KeepsArms R (evaluateArm s arm r c) :=
  h.leaveSuspended.captureStep.setCapture fun _ => id

/-! ### Return frames -/

theorem takeReply (h : s₀.KeepsArms R s) {r : RackReply} : s₀.KeepsArms R (takeReply s r) := by
  unfold Machine.takeReply
  split
  · exact h.setRack.suspends (State.Suspends.refl _ _).takeOutcome
  · exact h.setRack.raise

theorem backSlot (h : s₀.KeepsArms R s) {d : BackRun} {sl : Slot} : s₀.KeepsArms R (backSlot s d sl).1 := by
  unfold Machine.backSlot handleBack
  split
  · exact h
  · dsimp only
    split
    · exact h
    · split
      · split
        · exact h.thermalSlot
        · exact h
      · split
        · exact h.positionSlot
        · exact h
      · split
        · exact h.probeSlot
        · exact h
      · split
        · exact h.takeReply
        · exact h

theorem backSlots (h : s₀.KeepsArms R s) {d : BackRun} {l : List Slot} : s₀.KeepsArms R (backSlots s d l).1 := by
  induction l generalizing s d with
  | nil => exact h
  | cons sl rest ih => exact ih h.backSlot

theorem endStage (h : s₀.KeepsArms R s) {d : BackRun} {c : CycleNumber} {g : EndStage} : s₀.KeepsArms R (endStage d c s g) := by
  cases g with
  | ageing => exact h.ageChannels.missingPosition.missingPosition
  | capture arm => exact h.evaluateArm

theorem queueOnly (h : s₀.KeepsArms R s) (k : QueueOnly s t) : s₀.KeepsArms R t := by
  obtain ⟨q, n, _, rfl⟩ := k
  exact h.setQueue.setNotices

theorem writeEntry (h : s₀.KeepsArms R s) {i : Nat} {e : Entry} : s₀.KeepsArms R (writeEntry s i e) :=
  h.suspends (State.Suspends.refl _ s).writeEntry

/-- The held-back entries are written and the reply to them leaves (R40). -/
theorem leaveProcessing (h : s₀.KeepsArms R s) : s₀.KeepsArms R (leaveProcessing s) := by
  have hw : s₀.KeepsArms R (writeDeferred (s.setLink { s.link with returnInProcessing := false })) :=
    (Kept.foldl (f := fun s (p : Nat × Entry) => Machine.writeEntry s p.1 p.2) (fun _ h => h.writeEntry) _ h.setLink).setService
  unfold Machine.leaveProcessing releaseHeldReply
  split
  · exact hw
  · exact hw.setService.placeTx

theorem endBack (h : s₀.KeepsArms R s) {b : BackFrame} : s₀.KeepsArms R (endBack s b) := by
  refine leaveProcessing ?_
  split
  · exact h.queueOnly (judgeStall_queueOnly s 0)
  · rw [finishForwarded_eq]
    exact (h.queueOnly (reported_queueOnly s _)).forward

theorem startBack (h : s₀.KeepsArms R s) {f : CycleFrame} : s₀.KeepsArms R (startBack s f).1 := h.setLink.setNotices

theorem handleReturn (h : s₀.KeepsArms R s) {b : BackFrame} : s₀.KeepsArms R (handleReturn s b).1 := by
  unfold Machine.handleReturn
  split
  · exact h.backSlot
  · exact h.endStage
  · exact h.endBack

theorem finishReturn (h : s₀.KeepsArms R s) {b : BackFrame} : s₀.KeepsArms R (finishReturn s b) :=
  (Kept.foldl (fun _ h => h.endStage) _ h.backSlots).endBack

/-! ### Outbound frames, the link watch and the timers -/

theorem messageSent (h : s₀.KeepsArms R s) : s₀.KeepsArms R (messageSent s) := by
  rw [messageSent_eq]
  exact h.setRack

theorem outSlots (h : s₀.KeepsArms R s) {f : State → Arm → List Byte → State × List Byte} {d : OutRun} {l : List Slot}
    (hf : ∀ {s : State} (arm : Arm) (p : List Byte), s₀.KeepsArms R s → s₀.KeepsArms R (f s arm p).1) :
    s₀.KeepsArms R (outSlots f s d l).1 := by
  induction l generalizing s d with
  | nil => exact h
  | cons sl rest ih =>
    refine ih ?_
    unfold outSlot
    split
    · exact h
    · dsimp only
      split
      · split
        · exact hf _ _ h
        · dsimp only
          rw [rackOutSlot_state]
          exact h.setRack
      · exact h

theorem placeOut (h : s₀.KeepsArms R s) {f : CycleFrame} {l : List (RackTag × Nat)} : s₀.KeepsArms R (placeOut s f l) := by
  rw [placeOut_eq]
  exact h.setLink.setRack

theorem endOut (h : s₀.KeepsArms R s) {g : OutFrame} : s₀.KeepsArms R (endOut s g) := by
  unfold Machine.endOut forwardOut
  split
  · exact h.countBadFrame.placeOut
  · exact h.placeOut

theorem startOut (h : s₀.KeepsArms R s) {f : CycleFrame} : s₀.KeepsArms R (startOut s f).1 := h.setLink.setNotices

theorem handleOut (h : s₀.KeepsArms R s) {g : OutFrame} : s₀.KeepsArms R (handleOut s g).1 := by
  unfold Machine.handleOut
  split
  · exact h.endOut
  · rename_i sl rest _
    exact h.outSlots (l := [sl]) fun _ _ h => h.targetSlot

theorem finishOut (h : s₀.KeepsArms R s) {g : OutFrame} : s₀.KeepsArms R (finishOut s g) :=
  endOut (h.outSlots fun _ _ h => h.targetSlot)

theorem originateAndStart (h : s₀.KeepsArms R s) : s₀.KeepsArms R (originateAndStart s) := by
  suffices ho : s₀.KeepsArms R (originate s) from ho.setLink
  unfold originate
  split
  · exact h
  · rename_i f _
    have composed : s₀.KeepsArms R (originatedSlots (s.setCurrentCycle (originatedNumber s.link)) f).1 :=
      outSlots h.setNotices fun _ _ h => h
    dsimp only
    split
    · exact composed.placeOut
    · exact composed.placeOut.setLink

theorem enterHalted (h : s₀.KeepsArms R s) : s₀.KeepsArms R (enterHalted s) := h.setLink.stopArm.stopArm

theorem watchTimerExpires (h : s₀.KeepsArms R s) : s₀.KeepsArms R (watchTimerExpires s) := by
  unfold Machine.watchTimerExpires loseController loseWithoutTemplate
  split
  · exact h
  · dsimp only
    split
    · split
      · exact h.reach.setLink.raise.enterHalted.originateAndStart
      · exact h.reach.setLink.raise.setLink.originateAndStart
    · split
      · exact h.reach.setLink
      · exact h.reach.setLink.setLink.raise

theorem timerExpires (h : s₀.KeepsArms R s) {t : Timer} : s₀.KeepsArms R (timerExpires s t) := by
  cases t with
  | watch => exact h.watchTimerExpires
  | origination =>
    change s₀.KeepsArms R (originationTimerExpires s)
    unfold originationTimerExpires
    split
    · exact h
    · exact h.reach.originateAndStart
  | bridge =>
    change s₀.KeepsArms R (bridgeTimerExpires s)
    unfold bridgeTimerExpires
    split
    · exact h
    · exact h.reach.enterHalted
  | reply =>
    change s₀.KeepsArms R (replyTimerExpires s)
    unfold replyTimerExpires
    split
    · exact h.reach.setRack.suspends (State.Suspends.refl _ _).takeOutcome
    · exact h
  | phase arm =>
    change s₀.KeepsArms R (phaseTimerExpires s arm)
    unfold phaseTimerExpires
    split
    · exact h
    · split
      · exact h.reach.suspends (State.Suspends.refl _ _).failChange
      · exact h

theorem frameLeaves (h : s₀.KeepsArms R s) {p : Port} : s₀.KeepsArms R (frameLeaves s p) := by
  unfold Machine.frameLeaves
  split
  · exact h
  · dsimp only
    split
    · exact h.setLink.messageSent
    · exact h.setLink

end State.KeepsArms

end Sys2Proof.Machine
end

section
/-! What the service block, the two receive sides and the commands leave of an arm, and the two obligations on it. -/

namespace Sys2Proof.Machine

/-! ### The view after RESTART RUN and reset, and what brings no release -/

/-- RESTART RUN at an arm: STOPPED, the sequencer IDLE and the capture SUSPENDED, setpoint and corrected values kept (R82, R106, R144,
R160). -/
theorem restartRun_armView (s : State) (arm : Arm) : (restartRun s).armView arm =
    { s.armView arm with state := .stopped, sequencer := .idle, capture := .suspended } := by
  simp only [restartRun, restartArm_eq]
  cases arm <;> rfl

theorem code_of_bringsNoRelease {c : Instr} {r : Request} (hb : bringsNoRelease c = true) (hr : requestOf c = some r) :
    r.code ≠ codeReleaseArm := by
  have h : (r.code != 0x33) = true := by cases c <;> cases hr <;> exact hb
  exact bne_iff_ne.1 h

theorem ne_serve_of_noServe {during : List Interleaved} (hs : noServe during = true) {e : Interleaved} (he : e ∈ during) :
    e.event ≠ .serve :=
  bne_iff_ne.1 (List.all_eq_true.1 hs e he)

theorem reset_armView_ok (arm : Arm) : (State.reset.armView arm).Ok := (State.armInv_iff State.reset).1 (by decide) arm

namespace State.KeepsArms

variable {R : Prop} {s₀ s t : State} {arm : Arm}

/-! ### Requests -/

theorem openWindow (h : s₀.KeepsArms R s) {p : List Byte} : s₀.KeepsArms R (openWindow s p).1 := by
  unfold Machine.openWindow
  split
  · dsimp only
    split
    · exact h
    · exact h.setService
  · exact h

theorem continueWindow (h : s₀.KeepsArms R s) {w : Window} : s₀.KeepsArms R (continueWindow w s).1 := by
  unfold Machine.continueWindow
  split
  · exact h.setService
  · exact h

theorem drawn (h : s₀.KeepsArms R s) : s₀.KeepsArms R s.drawn := h.same fun _ => rfl

theorem readTable (h : s₀.KeepsArms R s) {p : List Byte} : s₀.KeepsArms R (readTable s p).1 := by
  unfold Machine.readTable
  split
  · exact h
  · dsimp only
    split; · exact h
    split
    · exact h
    · exact h.drawn

theorem handleEntries {held : Bool} {k : Nat} {l : List (List Byte)} {d : DataRun} (h : s₀.KeepsArms R d.state) :
    s₀.KeepsArms R (handleEntries held k l d).state := by
  induction l generalizing k d with
  | nil => exact h
  | cons b bs ih =>
    unfold Machine.handleEntries
    split
    · exact ih h
    · split
      · exact h
      · refine ih ?_
        unfold placeEntry
        dsimp only
        split
        · exact h.setService
        · exact h.writeEntry

theorem dataInWindow (h : s₀.KeepsArms R s) {held : Bool} {w : WindowValues} {p : List Byte} :
    s₀.KeepsArms R (dataInWindow held s w p).1 := by
  unfold Machine.dataInWindow
  split
  · exact h
  · dsimp only
    split; · exact h
    split; · exact h
    exact (handleEntries (d := DataRun.start s w) h).setService

theorem tableDataTaken (h : s₀.KeepsArms R s) {p : List Byte} : s₀.KeepsArms R (tableDataTaken s p).1 := by
  unfold Machine.tableDataTaken
  split
  · exact h
  · split
    · split
      · exact h.dataInWindow
      · exact h.dataInWindow
    · exact h

theorem changeProbe (h : s₀.KeepsArms R s) {x : Nat} : s₀.KeepsArms R (changeProbe s arm x).1 :=
  h.suspends (State.Suspends.refl _ s).changeProbe

theorem abortChange (h : s₀.KeepsArms R s) : s₀.KeepsArms R (abortChange s arm).1 := by
  unfold Machine.abortChange
  split
  · exact h
  · exact h.suspends (State.Suspends.refl _ s).failChange

theorem planStartRequest (h : s₀.KeepsArms R s) {p : List Byte} : s₀.KeepsArms R (planStartRequest s p).1 := by
  refine Kept.withArm (fun arm => ?_) h
  split
  · exact h
  · split
    · exact h
    · unfold planStart
      split
      · exact h
      · exact h.setWalk

theorem planResume (h : s₀.KeepsArms R s) : s₀.KeepsArms R (planResume s arm).1 := by
  unfold Machine.planResume
  dsimp only
  split
  · exact h.setWalk
  · exact h

theorem readNotices (h : s₀.KeepsArms R s) {p : List Byte} : s₀.KeepsArms R (readNotices s p).1 := by
  unfold Machine.readNotices
  dsimp only
  split
  · exact h.setNotices
  · exact h

theorem setNoticeMask (h : s₀.KeepsArms R s) {p : List Byte} : s₀.KeepsArms R (setNoticeMask s p).1 := by
  unfold Machine.setNoticeMask
  dsimp only
  split
  · exact h
  · exact h.setNotices

theorem clearCounters (h : s₀.KeepsArms R s) : s₀.KeepsArms R (clearCounters s) := h.same (Arm.forall_iff.2 ⟨rfl, rfl⟩)

theorem readStatus (h : s₀.KeepsArms R s) {p : List Byte} : s₀.KeepsArms R (readStatus s p).1 := by
  unfold Machine.readStatus
  split
  · exact h
  · dsimp only
    split
    · exact h.drawn.clearCounters
    · exact h.drawn

theorem restartRun (h : s₀.KeepsArms R s) : s₀.KeepsArms R (restartRun s) :=
  h.trans fun x => by rw [restartRun_armView]; exact .halted rfl rfl rfl rfl

/-! ### The service block -/

/-- A request is carried out; RELEASE ARM only where a release may be among what happens. -/
theorem carryOutListed (h : s₀.KeepsArms R s) {w : Window} {c : Byte} {p : List Byte} (hr : c = codeReleaseArm → R) :
    s₀.KeepsArms R (carryOutListed w s c p).1 := by
  have release {x y : State × Answer} (hx : R → s₀.KeepsArms R x.1) (hy : s₀.KeepsArms R y.1) :
      s₀.KeepsArms R (if c = codeReleaseArm then x else y).1 := by
    split
    · exact hx (hr ‹_›)
    · exact hy
  have onArm {f : Arm → State × Answer} (hf : ∀ arm, s₀.KeepsArms R (f arm).1) : s₀.KeepsArms R (withArm s p f).1 := Kept.withArm hf h
  open Kept in
  exact answer_ite h.openWindow <| answer_ite h.continueWindow <| answer_ite h.readTable <|
    answer_ite (onArm fun _ => h.changeProbe) <| answer_ite (onArm fun _ => h.abortChange) <|
    answer_ite (onArm fun _ => h.stopArm) <| release (fun hR => onArm fun _ => h.releaseArm hR) <|
    answer_ite h.planStartRequest <| answer_ite (onArm fun _ => h.setWalk) <| answer_ite (onArm fun _ => h.planResume) <|
    answer_ite h.setQueue <| answer_ite h.setQueue <| answer_ite h.readNotices <| answer_ite h.setNoticeMask <|
    answer_ite h.readStatus <| answer_ite h.restartRun h

theorem carryOut (h : s₀.KeepsArms R s) {c : Byte} {p : List Byte} (hr : c = codeReleaseArm → R) :
    s₀.KeepsArms R (carryOut s c p).1 := by
  unfold Machine.carryOut
  split
  · exact carryOutListed h.setService hr
  · exact h.setService

theorem completeRequest (h : s₀.KeepsArms R s) {r : Request} (hr : r.code = codeReleaseArm → R) :
    s₀.KeepsArms R (completeRequest s r) := by
  unfold Machine.completeRequest
  split
  · dsimp only
    split
    · exact h.tableDataTaken.placeTx
    · exact h.tableDataTaken.setService
  · exact (h.carryOut hr).placeTx

theorem serveOldest (h : s₀.KeepsArms R s) (hr : ∀ r, s.service.requests.head? = some r → r.code = codeReleaseArm → R) :
    s₀.KeepsArms R (serveOldest s) := by
  unfold Machine.serveOldest
  split
  · exact h
  · rename_i r rest e
    split
    · exact h
    · exact h.setService.completeRequest (hr r (by simp [e]))

theorem handOver (h : s₀.KeepsArms R s) {r : Request} : s₀.KeepsArms R (handOver s r) := by
  unfold Machine.handOver
  split
  · exact h.placeTx
  · exact h.setService

theorem takeRequest (h : s₀.KeepsArms R s) {r : Request} : s₀.KeepsArms R (takeRequest s r) := by
  unfold Machine.takeRequest
  split
  · exact h.handOver
  · exact h.countBadFrame

/-- A request that arrives is taken itself or waits: the front of the queue is taken only where it is that request. -/
theorem arriveRequest (h : s₀.KeepsArms R s) {r : Request} (hr : r.code = codeReleaseArm → R) : s₀.KeepsArms R (arriveRequest s r) := by
  unfold Machine.arriveRequest requestStep
  split
  · split; · exact h.completeRequest hr
    split
    · rename_i e
      exact h.serveOldest fun q hq => Option.some.inj (hq.symm.trans e) ▸ hr
    · exact h.handOver
  · exact h.countBadFrame

/-! ### Frames by their bytes, and the two receive sides -/

theorem takeFrame (h : s₀.KeepsArms R s) {p : Port} {bytes : List Byte} : s₀.KeepsArms R (takeFrame s p bytes) := by
  unfold Machine.takeFrame
  split
  · exact h.countBadFrame
  · exact h.countBadFrame.forward
  · exact h.countBadFrame.forward
  · unfold takeGood
    split
    · exact h.forward
    · split
      · exact h.startOut.finishOut
      · exact h.startBack.finishReturn
      · exact h.takeRequest
      · exact h

section
variable {m : Mid} {p : Port}

theorem midHandle (h : s₀.KeepsArms R m.state) : s₀.KeepsArms R (m.handle p).state := by
  unfold Mid.handle
  cases p <;> dsimp only <;> split
  · exact h
  · exact h.handleOut
  · exact h
  · exact h.handleReturn

theorem midFinish (h : s₀.KeepsArms R m.state) : s₀.KeepsArms R (m.finish p).state := by
  unfold Mid.finish
  cases p <;> dsimp only <;> split
  · exact h
  · exact h.finishOut
  · exact h
  · exact h.finishReturn

theorem midTakes (h : s₀.KeepsArms R m.state) {f : CycleFrame} : s₀.KeepsArms R (m.takes p f).state := by
  have hf : s₀.KeepsArms R (m.finish p).state := h.midFinish
  unfold Mid.takes
  dsimp only
  split
  · cases p
    · exact hf.startOut
    · exact hf.startBack
  · exact hf.takeFrame

theorem midEvent (h : s₀.KeepsArms R m.state) {e : MidEvent} (hr : e = .serve → R) : s₀.KeepsArms R (midEvent m e).state := by
  cases e with
  | handOver tag code params => exact h.midFinish.takeRequest
  | serve => exact h.serveOldest fun _ _ _ => hr rfl
  | takes p f => exact h.midTakes
  | handles p => exact h.midHandle
  | bytes p frame => exact h.midFinish.takeFrame
  | discards p => exact h.midFinish.countBadFrame
  | expiry t => exact h.timerExpires
  | leaves p => exact h.frameLeaves

end

theorem cycleFrameWith (h : s₀.KeepsArms R s) {p : Port} {f : CycleFrame} {during : List Interleaved}
    (hr : ∀ e ∈ during, e.event = .serve → R) : s₀.KeepsArms R (cycleFrameWith p s f during) := by
  obtain ⟨m, hm, e⟩ := cycleFrameWith_keeps (P := fun m => s₀.KeepsArms R m.state) (during := during)
    (midTakes (m := Mid.idle s) (p := p) (f := f) h) (fun _ e he h => h.midEvent (hr e he)) (fun _ h => h.midHandle)
    (fun _ _ h => h.midFinish)
  exact e ▸ hm

/-! ### Commands -/

/-- Power and reset leave an arm STOPPED as the reset state has it (R15, R105). -/
theorem cleared (h : s₀.KeepsArms R s) {pin : Bool} : s₀.KeepsArms R (s.cleared pin) :=
  h.trans fun x => ⟨fun _ _ => by cases x <;> rfl, fun _ => reset_armView_ok x⟩

theorem unlessReset (h : s₀.KeepsArms R s) {f : State → State} (hf : s₀.KeepsArms R s → s₀.KeepsArms R (f s)) :
    s₀.KeepsArms R (s.unlessReset f) := by
  unfold State.unlessReset
  split
  · exact h
  · exact hf h

/-- Every command keeps both arms; one that brings no RELEASE ARM without a release. -/
theorem exec (h : s₀.KeepsArms R s) {c : Instr} (hc : R ∨ bringsNoRelease c = true) (ht : exec c s = .next t) : s₀.KeepsArms R t := by
  have request (r : Request) (hr : requestOf c = some r) : r.code = codeReleaseArm → R := fun e =>
    hc.elim id fun hb => absurd e (code_of_bringsNoRelease hb hr)
  have frame {during : List Interleaved} (hd : R ∨ noServe during = true) : ∀ e ∈ during, e.event = .serve → R := fun _ he hs =>
    hd.elim id fun hn => absurd hs (ne_serve_of_noServe hn he)
  cases c <;> obtain rfl := Host.Outcome.next.inj ht
  case powerUp => exact h.cleared
  case resetPin => exact h.cleared
  case resetEnd => exact h.same fun _ => rfl
  case frameDiscarded => exact h.unlessReset fun h => h.countBadFrame
  case badCheckFrame => exact h.unlessReset fun h => h.takeFrame
  case notWellFormedFrame => exact h.unlessReset fun h => h.takeFrame
  case forwardUnchanged => exact h.unlessReset fun h => h.takeFrame
  case outboundCycleFrame => exact h.unlessReset fun h => h.cycleFrameWith (frame hc)
  case returnCycleFrame => exact h.unlessReset fun h => h.cycleFrameWith (frame hc)
  case serviceReqHandedOver => exact h.unlessReset fun h => h.takeRequest
  case frameLeavesPort => exact h.unlessReset fun h => h.frameLeaves
  case watchTimerExpiry => exact h.unlessReset fun h => h.timerExpires (t := .watch)
  case originationTimerExpiry => exact h.unlessReset fun h => h.timerExpires (t := .origination)
  case bridgeTimerExpiry => exact h.unlessReset fun h => h.timerExpires (t := .bridge)
  case replyTimerExpiry => exact h.unlessReset fun h => h.timerExpires (t := .reply)
  case phaseTimerExpiry arm => exact h.unlessReset fun h => h.timerExpires (t := .phase arm)
  all_goals exact h.unlessReset fun h => h.arriveRequest (request _ rfl)

/-- Between commands the part may take a RELEASE ARM that waits (R25). -/
theorem idleStep (h : s₀.KeepsArms True s) : s₀.KeepsArms True (idleStep s) := by
  rcases idleStep_cases s with ⟨_, e⟩ | ⟨_, _, e⟩ | ⟨_, _, _, e⟩ | ⟨_, _, _, e⟩ <;> rw [e]
  · exact h
  · exact h.serveOldest fun _ _ _ => trivial
  · exact h
  · exact h.same fun _ => rfl

end State.KeepsArms

/-! ### The obligations -/

/-- Settles O59: an arm is kept by every command and by the work between commands. -/
theorem stepKeepsArms : Obligations.StepKeepsArms := by
  intro s t h ht
  rw [State.armInv_iff] at h ⊢
  have kept : s.KeepsArms True t := by
    rcases step_cases ht with ⟨_, rfl⟩ | ⟨c, rest, _, hx⟩
    · exact (State.KeepsArms.refl s).idleStep
    · exact State.KeepsArms.exec (s := { s with pending := rest }) ((State.KeepsArms.refl s).same fun _ => rfl) (.inl trivial) hx
  exact fun arm => (kept arm).ok (h arm)

/-- Settles O19: without a release among what happens a STOPPED arm stays STOPPED. -/
theorem onlyReleaseLeavesStopped : Obligations.OnlyReleaseLeavesStopped := by
  intro c s t arm hb hs ht
  have kept : s.KeepsArms False t := (State.KeepsArms.refl s).exec (.inr hb) ht
  exact (kept arm).stopped id hs

end Sys2Proof.Machine
end

section
/-! The rack channel serves one arm at a time (R117 to R119, R131): the invariant in propositions, and what the moves of a sequencer do to
it. -/

namespace Sys2Proof.Machine

/-! ### The invariant -/

/-- A sequencer against the rack channel: it is the holder's exactly in the states that need the rack, and waits exactly in QUEUED, with
something to do there; its corridor is open only where R131 allows one. -/
structure Sequencer.Fits (q : Sequencer) (r : Rack) (arm : Arm) : Prop where
  holds : q.state.holdsRack = true ↔ r.holder = some arm
  waits : q.state = .queued ↔ r.waiting = some arm
  planned : q.state = .queued → (q.drop.or q.target).isSome = true
  corridor : q.corridor ≠ none → q.state.mayHaveCorridor = true

/-- The rack channel serves one arm at a time, and the outstanding message is that arm's. -/
structure State.Serves (s : State) : Prop where
  fits : ∀ arm, (s.sequencer.get arm).Fits s.rack arm
  held : s.rack.waiting ≠ none → s.rack.holder ≠ none
  message : ∀ m, s.rack.message = some m → s.rack.holder = some m.sender ∧ (s.sequencer.get m.sender).state.mayHaveMessage = true

theorem State.rackOk_iff (s : State) (arm : Arm) : s.rackOk arm = true ↔ (s.sequencer.get arm).Fits s.rack arm := by
  have planned (q : Sequencer) : (q.state ≠ .queued ∨ q.drop.isSome = true ∨ q.target.isSome = true) ↔
      (q.state = .queued → (q.drop.or q.target).isSome = true) := by
    rw [Option.isSome_or, Bool.or_eq_true, Decidable.imp_iff_not_or]
  have corridor (q : Sequencer) : (q.corridor = none ∨ q.state.mayHaveCorridor = true) ↔
      (q.corridor ≠ none → q.state.mayHaveCorridor = true) := Decidable.or_iff_not_imp_left
  have agree (b c : Bool) : (b == c) = true ↔ (b = true ↔ c = true) := by cases b <;> cases c <;> simp
  simp only [State.rackOk, Bool.and_eq_true, agree]
  simp only [Bool.or_eq_true, beq_iff_eq, bne_iff_ne, Option.isNone_iff_eq_none, or_assoc, planned, corridor]
  exact ⟨fun ⟨⟨⟨h, w⟩, p⟩, c⟩ => ⟨h, w, p, c⟩, fun ⟨h, w, p, c⟩ => ⟨⟨⟨h, w⟩, p⟩, c⟩⟩

theorem State.rackInv_iff (s : State) : s.rackInv = true ↔ s.Serves := by
  have held : (s.rack.waiting.isNone || s.rack.holder.isSome) = true ↔ (s.rack.waiting ≠ none → s.rack.holder ≠ none) := by
    rw [Bool.or_eq_true, Option.isNone_iff_eq_none, Option.isSome_iff_ne_none, Decidable.or_iff_not_imp_left]
  have message : s.messageOk = true ↔ ∀ m, s.rack.message = some m →
      s.rack.holder = some m.sender ∧ (s.sequencer.get m.sender).state.mayHaveMessage = true := by
    unfold State.messageOk
    cases s.rack.message <;> simp
  rw [State.rackInv, Bool.and_eq_true, Bool.and_eq_true, Bool.and_eq_true, State.rackOk_iff, State.rackOk_iff, held, message]
  exact ⟨fun ⟨⟨⟨a, b⟩, w⟩, m⟩ => ⟨Arm.forall_iff.2 ⟨a, b⟩, w, m⟩, fun ⟨f, w, m⟩ => ⟨⟨⟨f .a, f .b⟩, w⟩, m⟩⟩

/-! ### Sequencer states -/

theorem SeqState.holdsRack_of_message {q : SeqState} (h : q.mayHaveMessage = true) : q.holdsRack = true := by cases q <;> trivial

theorem SeqState.holdsRack_of_corridor {q : SeqState} (h : q.mayHaveCorridor = true) : q.holdsRack = true := by cases q <;> trivial

theorem SeqState.holdsRack_of_isPhase {q : SeqState} (h : q.isPhase = true) : q.holdsRack = true := by cases q <;> trivial

/-- In no state may a corridor be open and a message be outstanding (R131). -/
theorem SeqState.noCorridor_of_message {q : SeqState} (h : q.mayHaveMessage = true) : q.mayHaveCorridor ≠ true := by
  cases q <;> simp [mayHaveMessage, mayHaveCorridor] at h ⊢

theorem SeqState.ne_queued_of_holdsRack {q : SeqState} (h : q.holdsRack = true) : q ≠ .queued := fun e => by simp [e, holdsRack] at h

/-! ### One sequencer -/

namespace Sequencer.Fits

variable {q q' : Sequencer} {r r' : Rack} {arm : Arm}

/-- The rack's holder, at work. -/
theorem working (holder : r.holder = some arm) (waiting : r.waiting ≠ some arm) (state : q.state.holdsRack = true)
    (corridor : q.corridor ≠ none → q.state.mayHaveCorridor = true) : q.Fits r arm where
  holds := iff_of_true state holder
  waits := iff_of_false (SeqState.ne_queued_of_holdsRack state) waiting
  planned e := absurd e (SeqState.ne_queued_of_holdsRack state)
  corridor := corridor

/-- An IDLE sequencer with its record clear neither holds the rack nor waits. -/
theorem initial (holder : r.holder ≠ some arm) (waiting : r.waiting ≠ some arm) : Sequencer.initial.Fits r arm where
  holds := iff_of_false nofun holder
  waits := iff_of_false nofun waiting
  planned := nofun
  corridor := fun h => absurd rfl h

/-- What of the rack channel changes, this arm neither holds nor waits for it more or less than before. -/
theorem rack (h : q.Fits r arm) (holder : r'.holder = some arm ↔ r.holder = some arm)
    (waiting : r'.waiting = some arm ↔ r.waiting = some arm) : q.Fits r' arm :=
  { h with holds := h.holds.trans holder.symm, waits := h.waits.trans waiting.symm }

/-- Port mark, drop-unconfirmed mark and phase timer are not read. -/
theorem like (h : q.Fits r arm) (state : q'.state = q.state) (drop : q'.drop = q.drop) (target : q'.target = q.target)
    (corridor : q'.corridor = q.corridor) : q'.Fits r arm where
  holds := state ▸ h.holds
  waits := state ▸ h.waits
  planned := by rw [state, drop, target]; exact h.planned
  corridor := by rw [state, corridor]; exact h.corridor

end Sequencer.Fits

/-! ### The rack channel between two arms -/

/-- A grant to a QUEUED sequencer: it becomes the rack's arm and offers OPEN_PORT (R118, R128). -/
theorem grantOpening_serves {v : State} {arm : Arm} (state : (v.sequencer.get arm).state = .queued)
    (planned : ((v.sequencer.get arm).drop.or (v.sequencer.get arm).target).isSome = true)
    (corridor : (v.sequencer.get arm).corridor = none) (holder : v.rack.holder = some arm) (quiet : v.rack.message = none)
    (waiting : v.rack.waiting ≠ some arm) (other : (v.sequencer.get (otherArm arm)).Fits v.rack (otherArm arm)) :
    (grantOpening v arm).Serves := by
  have granted {st : SeqState} (n : Nat) (hst : st.mayHaveMessage = true) : (enterOpening v arm st n).Serves := by
    have hoffer := offer_eq holder quiet .openPort n
    have hget : (enterOpening v arm st n).sequencer.get arm =
        { v.sequencer.get arm with portMark := some n, state := st, phaseTimer := v.after (v.setup.phaseLimit * 1000000) } :=
      PerArm.get_put_same _ _ _
    have hrack : (enterOpening v arm st n).rack = v.offered arm .openPort n := congrArg State.rack hoffer
    refine ⟨Arm.forall_of_other arm ?_ ?_, fun _ => ?_, fun m hm => ?_⟩
    · rw [hget, hrack]
      exact .working holder waiting (SeqState.holdsRack_of_message hst) fun h => absurd corridor h
    · rw [hrack, show (enterOpening v arm st n).sequencer.get (otherArm arm) = _ from PerArm.get_put_other _ _ _]
      exact other.rack .rfl .rfl
    · rw [hrack]
      exact ne_of_eq_of_ne holder nofun
    · rw [hrack] at hm ⊢
      obtain rfl := Option.some.inj hm
      exact ⟨holder, by rw [hget]; exact hst⟩
  unfold grantOpening
  dsimp only
  rw [if_pos state]
  split
  · exact granted _ rfl
  · exact granted _ rfl
  · rename_i hd ht
    simp [hd, ht] at planned

namespace State.Serves

variable {s t : State} {arm : Arm} (h : s.Serves)
include h

/-- What leaves sequencers and rack channel. -/
theorem same (sequencer : t.sequencer = s.sequencer) (rack : t.rack = s.rack) : t.Serves :=
  ⟨fun x => by rw [sequencer, rack]; exact h.fits x, by rw [rack]; exact h.held, by rw [sequencer, rack]; exact h.message⟩

theorem raise {k : NoticeKind} {j : Subject} {d : Nat} : (s.raise k j d).Serves := h.same rfl rfl

theorem holder (hb : (s.sequencer.get arm).state.holdsRack = true) : s.rack.holder = some arm := (h.fits arm).holds.1 hb

/-- The rack's arm does not wait for it. -/
theorem not_waiting (hb : (s.sequencer.get arm).state.holdsRack = true) : s.rack.waiting ≠ some arm :=
  mt (h.fits arm).waits.2 (SeqState.ne_queued_of_holdsRack hb)

theorem sender (hb : (s.sequencer.get arm).state.holdsRack = true) {m : RackMessage} (hm : s.rack.message = some m) : m.sender = arm :=
  Option.some.inj ((h.message m hm).1.symm.trans (h.holder hb))

/-- In a state of the rack's arm that has no message none is outstanding. -/
theorem quiet (hb : (s.sequencer.get arm).state.holdsRack = true) (hn : (s.sequencer.get arm).state.mayHaveMessage ≠ true) :
    s.rack.message = none := by
  refine Option.eq_none_iff_forall_ne_some.2 fun m hm => hn ?_
  rw [← h.sender hb hm]
  exact (h.message m hm).2

theorem corridor_none (hm : (s.sequencer.get arm).state.mayHaveMessage = true) : (s.sequencer.get arm).corridor = none :=
  Decidable.not_not.1 fun hc => SeqState.noCorridor_of_message hm ((h.fits arm).corridor hc)

/-- The rack channel's message may go on its way. -/
theorem setRack {r : Rack} (holder : r.holder = s.rack.holder) (waiting : r.waiting = s.rack.waiting)
    (message : ∀ m, r.message = some m → ∃ m', s.rack.message = some m' ∧ m.sender = m'.sender) : (s.setRack r).Serves where
  fits x := (h.fits x).rack (by simp [holder]) (by simp [waiting])
  held := by
    simp only [State.setRack_rack, holder, waiting]
    exact h.held
  message m hm := by
    obtain ⟨m', hm', e⟩ := message m hm
    obtain ⟨hh, hq⟩ := h.message m' hm'
    exact ⟨holder.trans (e ▸ hh), e ▸ hq⟩

/-- The rack's arm moves on, to a state that may have the message outstanding. -/
theorem setSequencer {q : Sequencer} (hb : (s.sequencer.get arm).state.holdsRack = true) (state : q.state.holdsRack = true)
    (corridor : q.corridor ≠ none → q.state.mayHaveCorridor = true)
    (message : s.rack.message = none ∨ q.state.mayHaveMessage = true) : (s.setSequencer arm q).Serves where
  fits := Arm.forall_of_other arm (by simpa using .working (h.holder hb) (h.not_waiting hb) state corridor)
    (by simpa using h.fits (otherArm arm))
  held := h.held
  message m hm := by
    obtain rfl := h.sender hb hm
    refine ⟨h.holder hb, ?_⟩
    rw [State.setSequencer_sequencer, PerArm.get_put_same]
    exact message.resolve_left (ne_of_eq_of_ne hm nofun)

/-- A change of what the invariant does not read. -/
theorem touch (portMark : Option Nat) (dropUnconfirmed : Bool) (phaseTimer : Option Nat) : (s.setSequencer arm { s.sequencer.get arm with
    portMark := portMark, dropUnconfirmed := dropUnconfirmed, phaseTimer := phaseTimer }).Serves where
  fits := Arm.forall_of_other arm (by rw [State.setSequencer_sequencer, PerArm.get_put_same]; exact (h.fits arm).like rfl rfl rfl rfl)
     (by simpa using h.fits (otherArm arm))
  held := h.held
  message m hm := by
    obtain ⟨hh, hq⟩ := h.message m hm
    refine ⟨hh, ?_⟩
    by_cases e : m.sender = arm
    · subst e
      simpa using hq
    · rwa [State.setSequencer_sequencer, PerArm.get_put_ne _ _ e]

theorem clearPortMark : (clearPortMark s arm).Serves := h.touch none _ _

/-- The rack's arm offers a message and enters a state that has one (R119). -/
theorem offers {q : Sequencer} (hb : (s.sequencer.get arm).state.holdsRack = true) (quiet : s.rack.message = none)
    (state : q.state.mayHaveMessage = true) (corridor : q.corridor = none) (c : PortCommand) (n : Nat) :
    ((offer s arm c n).setSequencer arm q).Serves := by
  have hs : (s.setSequencer arm q).Serves :=
    h.setSequencer hb (SeqState.holdsRack_of_message state) (fun e => absurd corridor e) (.inl quiet)
  rw [offer_eq (h.holder hb) quiet]
  refine ⟨fun x => (hs.fits x).rack .rfl .rfl, h.held, fun m hm => ?_⟩
  obtain rfl := Option.some.inj hm
  exact ⟨h.holder hb, by simpa using state⟩

theorem enterOpening (hb : (s.sequencer.get arm).state.holdsRack = true) (quiet : s.rack.message = none)
    (corridor : (s.sequencer.get arm).corridor = none) {st : SeqState} (hst : st.mayHaveMessage = true) {n : Nat} :
    (enterOpening s arm st n).Serves := by
  refine h.offers hb quiet ?_ ?_ .openPort n
  · exact hst
  · exact corridor

/-- The rack's arm is IDLE with its record clear, and the rack released: the waiting arm is granted (R118). -/
theorem releaseRack (hb : (s.sequencer.get arm).state.holdsRack = true) (quiet : s.rack.message = none)
    (sequencer : t.sequencer = s.sequencer.put arm Sequencer.initial) (rack : t.rack = s.rack) : (releaseRack t arm).Serves := by
  have hh := h.holder hb
  have hget : t.sequencer.get arm = Sequencer.initial := by rw [sequencer, PerArm.get_put_same]
  have hother : t.sequencer.get (otherArm arm) = s.sequencer.get (otherArm arm) := by rw [sequencer, PerArm.get_put_other]
  rw [Machine.releaseRack, rack, releaseHolder_eq hh]
  cases hw : s.rack.waiting with
  | none =>
    dsimp only
    refine ⟨Arm.forall_of_other arm ?_ ?_, fun e => absurd rfl e, fun m hm => absurd (quiet.symm.trans hm) nofun⟩
    · simp only [State.setRack_sequencer, hget]
      exact .initial nofun nofun
    · simp only [State.setRack_sequencer, hother]
      exact (h.fits _).rack (iff_of_false nofun (by simp [hh, (otherArm_ne arm).symm])) (by simp [hw])
  | some next =>
    obtain rfl : next = otherArm arm := eq_otherArm_of_ne fun e => h.not_waiting hb (e ▸ hw)
    have hq := (h.fits (otherArm arm)).waits.2 hw
    dsimp only
    refine grantOpening_serves ?_ ?_ ?_ rfl quiet nofun ?_
    · exact hother ▸ hq
    · exact hother ▸ (h.fits _).planned hq
    · refine hother ▸ Decidable.not_not.1 fun hc => ?_
      simpa [hq, SeqState.mayHaveCorridor] using (h.fits _).corridor hc
    · simp only [otherArm_otherArm, State.setRack_sequencer, hget]
      exact .initial (by simp [otherArm_ne]) nofun

theorem endChange (hb : (s.sequencer.get arm).state.holdsRack = true) (quiet : s.rack.message = none) : (endChange s arm).Serves :=
  h.releaseRack hb quiet rfl rfl

theorem completeChange (hb : (s.sequencer.get arm).state.holdsRack = true) (quiet : s.rack.message = none) :
    (completeChange s arm).Serves := h.releaseRack hb quiet rfl rfl

/-! ### Failing changes and the way back -/

theorem enterReclosing (hb : (s.sequencer.get arm).state.holdsRack = true) (quiet : s.rack.message = none)
    (corridor : (s.sequencer.get arm).corridor = none) : (enterReclosing s arm).Serves := by
  unfold Machine.enterReclosing
  dsimp only
  split
  · refine h.offers hb quiet ?_ ?_ .closePort _
    · rfl
    · exact corridor
  · exact h.endChange hb quiet

theorem wayBack (hb : (s.sequencer.get arm).state.holdsRack = true) (quiet : s.rack.message = none) : (wayBack s arm).Serves := by
  have hclearing : (s.setSequencer arm { s.sequencer.get arm with state := .clearing }).Serves :=
    h.setSequencer hb rfl (fun _ => rfl) (.inl quiet)
  unfold Machine.wayBack enterClearing
  dsimp only
  split
  · split
    · exact hclearing
    · rename_i hc
      exact hclearing.enterReclosing (by simp [SeqState.holdsRack]) quiet (by simpa using hc)
  · exact h.endChange hb quiet

/-- The rack's arm fails in a phase: with its message outstanding it winds up, otherwise there is none (R141). -/
theorem failPhase (hb : (s.sequencer.get arm).state.holdsRack = true) {c : FailureCause} : (failPhase s arm c).Serves := by
  have hs : ((s.setSequencer arm { s.sequencer.get arm with phaseTimer := none }).raise .changeFailed (.arm arm) (failureCode c)).Serves :=
    State.Serves.raise (h.touch _ _ none)
  unfold Machine.failPhase
  dsimp only
  split
  · rename_i ho
    obtain ⟨m, hm, rfl⟩ := (outstandingFor_iff _ _).1 ho
    exact hs.setSequencer (by simpa using hb) rfl (fun e => absurd (hs.corridor_none (hs.message m hm).2) e) (.inr rfl)
  · rename_i ho
    refine hs.wayBack (by simpa using hb) (Option.eq_none_iff_forall_ne_some.2 fun m hm => ho ?_)
    exact (outstandingFor_iff _ _).2 ⟨m, hm, h.sender hb hm⟩

/-- A QUEUED arm withdraws (R117, R141). -/
theorem failQueued (hq : (s.sequencer.get arm).state = .queued) {c : FailureCause} : (failQueued s arm c).Serves := by
  have hw : s.rack.waiting = some arm := (h.fits arm).waits.1 hq
  have hne : s.rack.holder ≠ some arm := mt (h.fits arm).holds.2 (by simp [hq, SeqState.holdsRack])
  have hrack : (Machine.failQueued s arm c).rack = { s.rack with waiting := none } := if_pos hw
  refine ⟨Arm.forall_of_other arm ?_ ?_, fun e => absurd (congrArg Rack.waiting hrack) e, fun m hm => ?_⟩
  · rw [hrack, show (Machine.failQueued s arm c).sequencer.get arm = _ from PerArm.get_put_same _ _ _]
    exact .initial hne nofun
  · rw [hrack, show (Machine.failQueued s arm c).sequencer.get (otherArm arm) = _ from PerArm.get_put_other _ _ _]
    exact (h.fits _).rack .rfl (iff_of_false nofun (by simp [hw, (otherArm_ne arm).symm]))
  · rw [hrack] at hm ⊢
    obtain ⟨hh, hm⟩ := h.message m hm
    have e : m.sender ≠ arm := fun e => hne (e ▸ hh)
    exact ⟨hh, by rwa [show (Machine.failQueued s arm c).sequencer.get m.sender = _ from PerArm.get_put_ne _ _ e]⟩

theorem failChange {c : FailureCause} : (failChange s arm c).Serves := by
  unfold Machine.failChange
  split
  any_goals exact h
  · exact h.failQueued ‹_›
  · refine h.failPhase ?_
    cases hq : (s.sequencer.get arm).state <;> simp_all [SeqState.holdsRack]

theorem toldStopped : (toldStopped s arm).Serves := by
  rw [toldStopped_eq]
  split
  · exact h.failChange
  · exact h

theorem leavingTest : (leavingTest s arm).Serves := by
  unfold Machine.leavingTest
  split
  · rename_i hl
    obtain ⟨hl, -⟩ := Bool.and_eq_true_iff.1 hl
    have leaves (q : SeqState) (hq : q.leaves = true) : q.holdsRack = true ∧ q.mayHaveMessage ≠ true := by
      cases q <;> simp [SeqState.leaves, SeqState.holdsRack, SeqState.mayHaveMessage] at hq ⊢
    obtain ⟨hb, hn⟩ := leaves _ hl
    have quiet := h.quiet hb hn
    have hs : (s.setSequencer arm { s.sequencer.get arm with corridor := none }).Serves :=
      h.setSequencer hb hb (fun e => absurd rfl e) (.inl quiet)
    have hbs : ((s.setSequencer arm { s.sequencer.get arm with corridor := none }).sequencer.get arm).state.holdsRack = true := by
      simpa using hb
    unfold leaveCorridor
    dsimp only
    split
    · exact hs.offers hbs quiet rfl rfl .closePort _
    · exact hs.offers hbs quiet rfl rfl .closePort _
    · exact hs.enterReclosing hbs quiet (by simp)
    · exact hs
  · exact h

end State.Serves

end Sys2Proof.Machine
end

section
/-! What reports, rack outcomes, accepted changes and stops do to the rack channel (R117, R121, R127, R130 to R142). -/

namespace Sys2Proof.Machine

/-! ### Blocks that are not the rack channel's -/

@[simp] theorem suspendCapture_sequencer (s : State) (arm : Arm) : (suspendCapture s arm).sequencer = s.sequencer := by
  rw [suspendCapture_eq]

@[simp] theorem suspendCapture_rack (s : State) (arm : Arm) : (suspendCapture s arm).rack = s.rack := by
  rw [suspendCapture_eq]

@[simp] theorem setActive_rack (s : State) (arm : Arm) (r : ActiveProbe) : (setActive s arm r).rack = s.rack := by
  rw [setActive_eq]

@[simp] theorem modifyEntry_rack (s : State) (i : Nat) (f : LibraryEntry → LibraryEntry) : (modifyEntry s i f).rack = s.rack := by
  unfold modifyEntry
  split <;> rfl

theorem mountIdentity_rack (s : State) (arm : Arm) (identity : Nat) : (mountIdentity s arm identity).rack = s.rack := by
  unfold mountIdentity takeFromOther mountSuspect
  split
  · split <;> simp [setLocation]
  · simp

theorem mountChange_rack (s : State) (arm : Arm) (r : ProbeReport) : (mountChange s arm r).rack = s.rack := by
  unfold mountChange detachedMount manualMount loseOldProbe
  split
  · split <;> simp [setLocation]
  · split <;> simp [mountIdentity_rack, setLocation]

/-- An accepted change has something to do: a probe to drop, or one to pick (R126). -/
theorem judgeChange_accepted_planned {s : State} {arm : Arm} {x : Nat} {p : ChangePlan} (h : judgeChange s arm x = .accepted p) :
    (p.drop.or p.target).isSome = true := by
  have picks {e : Nat × LibraryEntry} (hj : judgeStations s arm (some e) = .accepted p) : p.target.isSome = true := by
    have hp := (judgeStations_accepted hj).2
    unfold judgeStations at hj
    dsimp only at hj
    split at hj
    · cases hj
    · split_ifs at hj with hok
      rw [hp]
      cases hb : berthOf e.1 e.2 <;> simp_all
  unfold judgeChange at h
  split_ifs at h with _ _ _ hactive
  · obtain ⟨hd, -⟩ := judgeStations_accepted h
    cases hdrop : p.drop with
    | some d => rfl
    | none => exact absurd (dropBerth_none (hdrop ▸ hd)) hactive
  · split at h
    · cases h
    · split_ifs at h
      rw [Option.isSome_or, picks h, Bool.or_true]

/-! ### An accepted change -/

/-- The sequencer in QUEUED with the change record set, the arm's capture suspended (R127, R147). -/
def queuedFor (s : State) (arm : Arm) (p : ChangePlan) : State :=
  (s.setSequencer arm { Sequencer.initial with state := .queued, drop := p.drop, target := p.target }).withCapture
    (s.capture.put arm (s.capture.get arm).suspendedNow)

section
variable {s : State} {arm : Arm} (p : ChangePlan)

@[simp] theorem queuedFor_get : (queuedFor s arm p).sequencer.get arm =
    { state := .queued, drop := p.drop, target := p.target, corridor := none, portMark := none, dropUnconfirmed := false,
      phaseTimer := none } := PerArm.get_put_same _ _ _

@[simp] theorem queuedFor_other : (queuedFor s arm p).sequencer.get (otherArm arm) = s.sequencer.get (otherArm arm) :=
  PerArm.get_put_other _ _ _

theorem acceptChange_eq : acceptChange s arm p =
    if (askRack s.rack arm).2 then grantOpening ((queuedFor s arm p).setRack (askRack s.rack arm).1) arm
    else (queuedFor s arm p).setRack (askRack s.rack arm).1 := by
  have hq := suspendCapture_suspendedNow (s.setSequencer arm { Sequencer.initial with
    state := .queued, drop := p.drop, target := p.target }) arm
  unfold acceptChange
  rw [hq]
  rfl

/-- With the rack free the change is granted it at once (R117, R128). -/
theorem acceptChange_of_free (h : s.rack.holder = none) :
    acceptChange s arm p = grantOpening ((queuedFor s arm p).setRack { s.rack with holder := some arm }) arm := by
  rw [acceptChange_eq, show askRack s.rack arm = ({ s.rack with holder := some arm }, true) by simp [askRack, h]]
  rfl

/-- With the rack held by the other arm and nobody waiting the change waits (R117). -/
theorem acceptChange_of_held (h : s.rack.holder = some (otherArm arm)) (hw : s.rack.waiting = none) :
    acceptChange s arm p = (queuedFor s arm p).setRack { s.rack with waiting := some arm } := by
  rw [acceptChange_eq, show askRack s.rack arm = ({ s.rack with waiting := some arm }, false) by simp [askRack, h, hw, otherArm_ne]]
  rfl

end

namespace State.Serves

variable {s t : State} {arm : Arm} (h : s.Serves)
include h

/-! ### Stops and reports -/

theorem stopArm {c : StopCause} : (stopArm s arm c).Serves := by
  by_cases hv : (s.supervision.get arm).state = .stopped
  · rw [stopArm_of_stopped hv]
    exact h
  · rw [stopArm_of_running hv]
    have hs : (s.stoppedFor arm c).Serves := h.same rfl rfl
    exact hs.toldStopped.same (suspendCapture_sequencer _ _) (suspendCapture_rack _ _)

theorem setActive {r : ActiveProbe} : (setActive s arm r).Serves := h.same (setActive_sequencer _ _ _) (setActive_rack _ _ _)

theorem modifyEntry {i : Nat} {f : LibraryEntry → LibraryEntry} : (modifyEntry s i f).Serves :=
  h.same (modifyEntry_sequencer _ _ _) (modifyEntry_rack _ _ _)

theorem mountIdentity {x : Nat} : (mountIdentity s arm x).Serves := h.same (mountIdentity_sequencer _ _ _) (mountIdentity_rack _ _ _)

theorem mountChange {r : ProbeReport} : (mountChange s arm r).Serves := h.same (mountChange_sequencer _ _ _) (mountChange_rack _ _ _)

/-- From one state with an open corridor to the next (R131, R132, R136). -/
theorem startPhase {q : Sequencer} {st : SeqState} (state : (s.sequencer.get arm).state.mayHaveCorridor = true)
    (hst : st.mayHaveCorridor = true) : (startPhase s arm q st).Serves := by
  have noMessage (hm : (s.sequencer.get arm).state.mayHaveMessage = true) : False := SeqState.noCorridor_of_message hm state
  have hb := SeqState.holdsRack_of_corridor state
  exact h.setSequencer hb (SeqState.holdsRack_of_corridor hst) (fun _ => hst) (.inl (h.quiet hb noMessage))

theorem dropReleased {r : ProbeReport} (hq : (s.sequencer.get arm).state = .dropCorridor) : (dropReleased s arm r).Serves := by
  unfold Machine.dropReleased
  dsimp only
  split
  · exact h.startPhase (by simp [hq, SeqState.mayHaveCorridor]) rfl
  · split
    · exact h.modifyEntry.setActive.startPhase (by simp [hq, SeqState.mayHaveCorridor]) rfl
    · exact h.mountChange.failChange
  · exact h.mountChange.failChange

theorem pickAttached {x : Nat} (hq : (s.sequencer.get arm).state = .pickCorridor) : (pickAttached s arm x).Serves := by
  have wrong {n : Nat} : (Machine.failChange (wrongProbeUpdate s arm n x) arm .wrongProbe).Serves := h.modifyEntry.mountIdentity.failChange
  unfold Machine.pickAttached
  dsimp only
  split
  · exact h
  · split
    · exact wrong
    · split
      · split
        · exact h.modifyEntry.setActive.raise.setActive.raise.failChange
        · exact h.modifyEntry.setActive.startPhase (by simp [hq, SeqState.mayHaveCorridor]) rfl
      · exact wrong

theorem libraryReport {r : ProbeReport} : (libraryReport s arm r).Serves := by
  unfold Machine.libraryReport takeReport
  dsimp only
  split
  · split
    · exact h
    · exact h.mountChange
  · split
    · exact h
    · exact h.dropReleased ‹_›
    · exact h
    · split
      · exact h
      · exact h.pickAttached ‹_›
    · split
      · exact h
      · exact h.mountChange.failChange

/-! ### Changes -/

/-- A sequencer that was IDLE is queued: with the rack free it is granted at once, otherwise it waits (R117, R127, R128). -/
theorem acceptChange {p : ChangePlan} (hi : (s.sequencer.get arm).state = .idle) (hp : (p.drop.or p.target).isSome = true) :
    (acceptChange s arm p).Serves := by
  have hne : s.rack.holder ≠ some arm := mt (h.fits arm).holds.2 (by simp [hi, SeqState.holdsRack])
  have hnw : s.rack.waiting ≠ some arm := mt (h.fits arm).waits.2 (by simp [hi])
  cases hh : s.rack.holder with
  | none =>
    have quiet : s.rack.message = none :=
      Option.eq_none_iff_forall_ne_some.2 fun m hm => absurd ((h.message m hm).1.symm.trans hh) nofun
    rw [acceptChange_of_free p hh]
    refine grantOpening_serves ?_ ?_ ?_ rfl quiet hnw ?_
    · simp
    · simpa using hp
    · simp
    · rw [State.setRack_sequencer, queuedFor_other]
      exact (h.fits _).rack (by simp [hh, (otherArm_ne arm).symm]) .rfl
  | some x =>
    obtain rfl : x = otherArm arm := eq_otherArm_of_ne fun e => hne (e ▸ hh)
    have hw : s.rack.waiting = none := Option.eq_none_iff_forall_ne_some.2 fun y hy => by
      obtain rfl : y = otherArm arm := eq_otherArm_of_ne fun e => hnw (e ▸ hy)
      exact absurd hy (h.not_waiting ((h.fits _).holds.2 hh))
    rw [acceptChange_of_held p hh hw]
    refine ⟨Arm.forall_of_other arm ?_ ?_, fun _ => ne_of_eq_of_ne hh nofun, fun m hm => ?_⟩
    · rw [State.setRack_sequencer, queuedFor_get]
      exact ⟨iff_of_false nofun hne, iff_of_true rfl rfl, fun _ => hp, fun hc => absurd rfl hc⟩
    · rw [State.setRack_sequencer, queuedFor_other]
      exact (h.fits _).rack .rfl (by simp [hw, (otherArm_ne arm).symm])
    · obtain ⟨hholder, hstate⟩ := h.message m hm
      have hs : m.sender = otherArm arm := Option.some.inj (hholder.symm.trans hh)
      refine ⟨hholder, ?_⟩
      rw [hs] at hstate ⊢
      rwa [State.setRack_sequencer, queuedFor_other]

theorem changeProbe {x : Nat} : (changeProbe s arm x).1.Serves := by
  unfold Machine.changeProbe
  split
  · exact h
  · exact h.raise
  · rename_i p hp
    have hi : (s.sequencer.get arm).state = .idle := by
      by_contra hi
      rw [judgeChange_busy hi] at hp
      cases hp
    exact h.acceptChange hi (judgeChange_accepted_planned hp)

end State.Serves

/-! ### Outcomes of rack messages -/

/-- The wait of the rack's arm has ended: it is in a state that takes an outcome, and no message is outstanding (R121, R122). -/
structure State.Hears (s : State) (arm : Arm) : Prop extends s.Serves where
  state : (s.sequencer.get arm).state.mayHaveMessage = true
  quiet : s.rack.message = none

namespace State.Hears

variable {s t : State} {arm : Arm} (h : s.Hears arm)
include h

theorem holds : (s.sequencer.get arm).state.holdsRack = true := SeqState.holdsRack_of_message h.state

theorem same (sequencer : t.sequencer = s.sequencer) (rack : t.rack = s.rack) : t.Hears arm :=
  ⟨h.toServes.same sequencer rack, sequencer ▸ h.state, rack ▸ h.quiet⟩

theorem clearPortMark : (clearPortMark s arm).Hears arm := ⟨h.toServes.clearPortMark, by simpa [Machine.clearPortMark] using h.state, h.quiet⟩

theorem judgeDrop {b : Bool} : (judgeDrop s arm b).Hears arm := by
  have hs : (s.setSequencer arm { s.sequencer.get arm with dropUnconfirmed := false }).Hears arm :=
    ⟨State.Serves.touch h.toServes _ false _, by simpa using h.state, h.quiet⟩
  unfold Machine.judgeDrop
  dsimp only
  split
  · exact hs.same (modifyEntry_sequencer _ _ _) (modifyEntry_rack _ _ _)
  · exact hs

theorem judgeAfterFailure {n : Nat} {o : RackOutcome} : (judgeAfterFailure s arm n o).Hears arm := by
  unfold Machine.judgeAfterFailure
  split
  · dsimp only
    split
    · split
      · exact h.judgeDrop
      · exact h.judgeDrop.same rfl rfl
    · exact h
  · exact h

theorem openCorridor {st : SeqState} {k : NoticeKind} {n : Nat} (hst : st.mayHaveCorridor = true) :
    (openCorridor s arm st k n).Serves := by
  unfold Machine.openCorridor
  split
  · exact h.failChange
  · exact (h.setSequencer h.holds (SeqState.holdsRack_of_corridor hst) (fun _ => hst) (.inl h.quiet)).raise

theorem completeChange : (completeChange s arm).Serves := h.toServes.completeChange h.holds h.quiet

theorem afterDrop : (afterDrop s arm).Serves := by
  unfold Machine.afterDrop
  split
  · exact h.enterOpening h.holds h.quiet (h.corridor_none h.state) rfl
  · exact h.completeChange

theorem dropClosingOutcome {n : Nat} {o : RackOutcome} : (dropClosingOutcome s arm n o).Serves := by
  unfold Machine.dropClosingOutcome
  dsimp only
  split
  · split
    · split
      · exact h.clearPortMark.judgeDrop.afterDrop
      · exact h.clearPortMark.judgeDrop.failChange
    · exact h.clearPortMark.afterDrop
  · split
    · split
      · exact h.judgeDrop.failChange
      · exact h.judgeDrop.failChange.raise
    · exact h.failChange
  · exact h.failChange
  · exact h.failChange

theorem windingOutcome {n : Nat} {o : RackOutcome} : (windingOutcome s arm n o).Serves := by
  have goesBack {u : State} (hu : u.Hears arm) : (wayBack (Machine.judgeAfterFailure u arm n o) arm).Serves :=
    hu.judgeAfterFailure.wayBack hu.judgeAfterFailure.holds hu.judgeAfterFailure.quiet
  refine goesBack ?_
  split
  · split
    · exact h.clearPortMark
    · exact h
  · exact h

theorem reclosingOutcome {n : Nat} {o : RackOutcome} : (reclosingOutcome s arm n o).Serves := by
  have ends {u : State} (hu : u.Hears arm) : (endChange u arm).Serves := hu.endChange hu.holds hu.quiet
  unfold Machine.reclosingOutcome
  dsimp only
  split
  · exact ends h.judgeAfterFailure
  · exact ends (h.judgeAfterFailure.same rfl rfl)

end State.Hears

theorem State.Serves.takeOutcome {s : State} (h : s.Serves) (quiet : s.rack.message = none) {m : RackMessage} {o : RackOutcome} :
    (takeOutcome s m o).Serves := by
  have hears (hm : (s.sequencer.get m.sender).state.mayHaveMessage = true) : s.Hears m.sender := ⟨h, hm, quiet⟩
  unfold Machine.takeOutcome
  split
  · have k := hears (by simp [*, SeqState.mayHaveMessage])
    unfold dropOpeningOutcome
    split
    · exact k.clearPortMark.failChange
    · exact h.failChange
    · exact k.openCorridor rfl
    · exact h.failChange
    · exact h.failChange
  · have k := hears (by simp [*, SeqState.mayHaveMessage])
    unfold pickOpeningOutcome
    split
    · exact k.clearPortMark.failChange
    · exact k.openCorridor rfl
    · exact h.failChange
    · exact h.failChange
    · exact h.failChange
  · exact (hears (by simp [*, SeqState.mayHaveMessage])).dropClosingOutcome
  · have k := hears (by simp [*, SeqState.mayHaveMessage])
    unfold pickClosingOutcome
    split
    · exact k.clearPortMark.completeChange
    · exact h.failChange
    · exact h.failChange
    · exact h.failChange
  · exact (hears (by simp [*, SeqState.mayHaveMessage])).windingOutcome
  · exact (hears (by simp [*, SeqState.mayHaveMessage])).reclosingOutcome
  · exact h

/-- The end of a wait (R121, R122). -/
theorem State.Serves.endWait {s : State} (h : s.Serves) : (s.setRack s.rack.endWait).Serves := h.setRack rfl rfl nofun

end Sys2Proof.Machine
end

section
/-! What every command and the work between commands do to the rack channel: only the sequencers' moves, the message's way through the
D port and a restart touch it, and each keeps it serving one arm (R117 to R123, R131). -/

namespace Sys2Proof.Machine

/-! ### The message's way through the D port -/

namespace State.Serves

variable {s t : State} {arm : Arm} {m : Mid} {p : Port}

section
variable (h : s.Serves)
include h

theorem rackOutSlot {p : List Byte} : (rackOutSlot s p).1.Serves := by
  unfold Machine.rackOutSlot
  split
  · rename_i m hm
    split
    · refine h.setRack rfl rfl fun m' hm' => ⟨m, hm, ?_⟩
      rw [← Option.some.inj hm']
    · exact h
  · exact h

theorem messageSent : (messageSent s).Serves := by
  unfold Machine.messageSent
  split
  · rename_i m hm
    split
    · refine h.setRack rfl rfl fun m' hm' => ⟨m, hm, ?_⟩
      rw [← Option.some.inj hm']
    · exact h
  · exact h

theorem placeOut {f : CycleFrame} {l : List (RackTag × Nat)} : (placeOut s f l).Serves := by
  have hl {k : Link} : (s.setLink k).Serves := h.same rfl rfl
  by_cases hr : s.Room .d
  · rw [placeOut_of_room hr]
    exact hl
  · rw [placeOut_of_full hr]
    split
    · exact hl.messageSent
    · exact hl

theorem frameLeaves {p : Port} : (frameLeaves s p).Serves := by
  unfold Machine.frameLeaves
  split
  · exact h
  · dsimp only
    split
    · exact State.Serves.messageSent (h.same rfl rfl)
    · exact h.same rfl rfl

/-! ### Other blocks -/

theorem reach {n : Nat} : (s.reach n).Serves := h.same rfl rfl

theorem setService {v : Service} : (s.setService v).Serves := h.same rfl rfl

theorem setLibrary {l : Table LibraryEntry} : State.Serves { s with library := l } := h.same rfl rfl

theorem setSupervision {v : Supervision} : (s.setSupervision arm v).Serves := h.same rfl rfl

/-! ### Frames counted and placed -/

theorem countBadFrame {p : Port} : (s.countBadFrame p).Serves := by cases p <;> exact h.same rfl rfl

theorem placeTx {p : Port} {f : TxFrame} : (s.placeTx p f).Serves := by
  rcases s.placeTx_cases p f with ⟨_, e⟩ | ⟨_, e⟩ <;> rw [e]
  · exact h
  · exact h.same rfl rfl

theorem forward {p : Port} {f : TxFrame} : (s.forward p f).Serves := by
  rcases s.forward_cases p f with ⟨_, e⟩ | ⟨_, e⟩ <;> rw [e]
  · exact h.countBadFrame
  · exact h.same rfl rfl

/-! ### Outbound frames -/

theorem targetSlot {p : List Byte} : (targetSlot s arm p).1.Serves := by
  unfold Machine.targetSlot supervisedTarget
  dsimp only
  split
  · exact h
  · split
    · exact h.setSupervision
    · split
      · exact h.setSupervision.stopArm
      · exact h.setSupervision
  · exact h

theorem outSlots {f : State → Arm → List Byte → State × List Byte} {d : OutRun} {l : List Slot}
    (hf : ∀ {u : State} (arm : Arm) (p : List Byte), u.Serves → (f u arm p).1.Serves) : (outSlots f s d l).1.Serves :=
  outSlots_induct (P := fun _ u _ => u.Serves) h fun _ sl _ u d _ hu => by
    rcases d.acts_cases u.setup sl with ⟨arm, ha⟩ | ha | ha
    · rw [outSlot_target ha]
      exact hf _ _ hu
    · rw [outSlot_rackOut ha]
      exact hu.rackOutSlot
    · rw [outSlot_other ha]
      exact hu

theorem endOut {g : OutFrame} : (endOut s g).Serves := by
  unfold Machine.endOut forwardOut
  split
  · exact State.Serves.placeOut (h.countBadFrame.same rfl rfl)
  · exact State.Serves.placeOut (h.same rfl rfl)

theorem handleOut {g : OutFrame} : (handleOut s g).1.Serves := by
  unfold Machine.handleOut
  split
  · exact h.endOut
  · rename_i sl _ _
    exact h.outSlots (l := [sl]) fun _ _ hu => hu.targetSlot

theorem finishOut {g : OutFrame} : (finishOut s g).Serves := (h.outSlots fun _ _ hu => hu.targetSlot).endOut

theorem startOut {f : CycleFrame} : (startOut s f).1.Serves := h.same rfl rfl

/-! ### The link watch and the timers -/

theorem originateAndStart : (originateAndStart s).Serves := by
  suffices ho : (originate s).Serves from ho.same rfl rfl
  unfold originate
  split
  · exact h
  · rename_i f _
    have hcycle : (s.setCurrentCycle (originatedNumber s.link)).Serves := h.same rfl rfl
    have composed : (originatedSlots (s.setCurrentCycle (originatedNumber s.link)) f).1.Serves := hcycle.outSlots fun _ _ hu => hu
    dsimp only
    split
    · exact composed.placeOut
    · exact composed.placeOut.same rfl rfl

theorem enterHalted : (enterHalted s).Serves := by
  have hl : (s.setLink { s.link with watch := .halted, bridgeTimer := none }).Serves := h.same rfl rfl
  exact hl.stopArm.stopArm

theorem watchTimerExpires : (watchTimerExpires s).Serves := by
  unfold Machine.watchTimerExpires loseController loseWithoutTemplate
  split
  · exact h
  · dsimp only
    split
    · split
      · exact State.Serves.originateAndStart (State.Serves.enterHalted (h.same rfl rfl))
      · exact State.Serves.originateAndStart (h.same rfl rfl)
    · split <;> exact h.same rfl rfl

theorem replyTimerExpires : (replyTimerExpires s).Serves := by
  unfold Machine.replyTimerExpires
  split
  · exact h.reach.endWait.takeOutcome rfl
  · exact h

theorem phaseTimerExpires : (phaseTimerExpires s arm).Serves := by
  unfold Machine.phaseTimerExpires
  split
  · exact h
  · split
    · exact h.reach.failChange
    · exact h

theorem timerExpires {t : Timer} : (timerExpires s t).Serves := by
  cases t with
  | watch => exact h.watchTimerExpires
  | origination =>
    change (originationTimerExpires s).Serves
    unfold originationTimerExpires
    split
    · exact h
    · exact State.Serves.originateAndStart (h.same rfl rfl)
  | bridge =>
    change (bridgeTimerExpires s).Serves
    unfold bridgeTimerExpires
    split
    · exact h
    · exact State.Serves.enterHalted (h.same rfl rfl)
  | reply => exact h.replyTimerExpires
  | phase arm => exact h.phaseTimerExpires

/-! ### Return frames -/

theorem takeReading {c : Nat} {t : Int} : (takeReading s c t).Serves := by
  unfold Machine.takeReading
  split
  · exact h
  · dsimp only
    split
    · split <;> exact h.same rfl rfl
    · split <;> exact h.same rfl rfl

theorem thermalSlot {hub : Nat} {p : List Byte} : (thermalSlot s hub p).Serves := by
  refine Kept.foldl (fun _ hu => ?_) _ h
  split
  · exact hu.takeReading
  · exact hu

theorem countFail : (countFail s arm).Serves := by
  have hc {v : Head} : (s.setHead arm v).Serves := h.same rfl rfl
  unfold Machine.countFail
  dsimp only
  split
  · exact hc.stopArm
  · exact hc

theorem positionSlot {p : List Byte} : (positionSlot s arm p).Serves := by
  have hr : (updateRecord s arm p).Serves := h.same rfl rfl
  unfold Machine.positionSlot
  dsimp only
  split
  · exact State.Serves.leavingTest (hr.same rfl rfl)
  · exact hr.countFail

theorem probeSlot {r : ProbeReport} : (probeSlot s arm r).Serves := by
  have hr : State.Serves { s with latestReport := s.latestReport.put arm (some r) } := h.same rfl rfl
  unfold Machine.probeSlot overtravelReport
  dsimp only
  split
  · exact hr.libraryReport.setSupervision.stopArm
  · exact hr.libraryReport.setSupervision

theorem takeReply {r : RackReply} : (takeReply s r).Serves := by
  unfold Machine.takeReply
  split
  · exact h.endWait.takeOutcome rfl
  · have counted {n : Nat} : (s.setRack { s.rack with lateReplies := n }).Serves := h.setRack rfl rfl fun m hm => ⟨m, hm, rfl⟩
    exact counted.raise

theorem backSlot {d : BackRun} {sl : Slot} : (backSlot s d sl).1.Serves := by
  unfold Machine.backSlot handleBack
  split
  · exact h
  · dsimp only
    split
    · exact h
    · split
      · split
        · exact h.thermalSlot
        · exact h
      · split
        · exact h.positionSlot
        · exact h
      · split
        · exact h.probeSlot
        · exact h
      · split
        · exact h.takeReply
        · exact h

omit h in
theorem backSlots (h : s.Serves) {d : BackRun} {l : List Slot} : (backSlots s d l).1.Serves := by
  induction l generalizing s d with
  | nil => exact h
  | cons sl rest ih => exact ih h.backSlot

theorem missingPosition {b : Bool} : (missingPosition s arm b).Serves := by
  unfold Machine.missingPosition
  split
  · exact h
  · exact State.Serves.countFail (h.same rfl rfl)

theorem endStage {d : BackRun} {c : CycleNumber} {g : EndStage} : (endStage d c s g).Serves := by
  cases g with
  | ageing =>
    have aged : (ageChannels s d.readings).Serves := by
      rw [ageChannels_eq]
      exact h.same rfl rfl
    exact aged.missingPosition.missingPosition
  | capture arm =>
    have frame := ((CaptureKeeps.refl s).evaluateArm (arm := arm) (r := d.reports.get arm) (c := c)).frame
    have f {α : Type} (g : State → α) := congrArg g frame
    exact h.same (f State.sequencer) (f State.rack)

theorem queueOnly (k : QueueOnly s t) : t.Serves := by
  obtain ⟨q, n, _, rfl⟩ := k
  exact h.same rfl rfl

theorem writeEntry {i : Nat} {e : Entry} : (writeEntry s i e).Serves := by
  cases e with
  | library l =>
    change (writeLibrary s i l).Serves
    unfold writeLibrary
    split
    · exact h.same rfl rfl
    · split
      · exact (h.setLibrary (l := Table.store s.library i _)).setActive
      · exact h.same rfl rfl
  | _ => exact h.same rfl rfl

theorem leaveProcessing : (leaveProcessing s).Serves := by
  have hw : (writeDeferred (s.setLink { s.link with returnInProcessing := false })).Serves :=
    State.Serves.same (Kept.foldl (f := fun s (p : Nat × Entry) => Machine.writeEntry s p.1 p.2) (fun _ hu => hu.writeEntry) _
      (h.same rfl rfl : (s.setLink { s.link with returnInProcessing := false }).Serves)) rfl rfl
  unfold Machine.leaveProcessing releaseHeldReply
  split
  · exact hw
  · exact hw.setService.placeTx

theorem endBack {b : BackFrame} : (endBack s b).Serves := by
  refine State.Serves.leaveProcessing ?_
  split
  · exact h.queueOnly (judgeStall_queueOnly s 0)
  · rw [finishForwarded_eq]
    exact (h.queueOnly (reported_queueOnly s _)).forward

theorem startBack {f : CycleFrame} : (startBack s f).1.Serves := h.same rfl rfl

theorem handleReturn {b : BackFrame} : (handleReturn s b).1.Serves := by
  unfold Machine.handleReturn
  split
  · exact h.backSlot
  · exact h.endStage
  · exact h.endBack

theorem finishReturn {b : BackFrame} : (finishReturn s b).Serves :=
  State.Serves.endBack (Kept.foldl (fun _ hu => hu.endStage) _ h.backSlots)

/-! ### Requests -/

theorem abortChange : (abortChange s arm).1.Serves := by
  unfold Machine.abortChange
  split
  · exact h
  · exact h.failChange

theorem releaseArm : (releaseArm s arm).1.Serves := by
  unfold Machine.releaseArm
  dsimp only
  split; · exact h
  split; · exact h
  split; · exact h
  split; · exact h
  split
  · exact h.same rfl rfl
  · exact h

theorem openWindow {p : List Byte} : (openWindow s p).1.Serves := by
  unfold Machine.openWindow
  split
  · dsimp only
    split <;> exact h.same rfl rfl
  · exact h

theorem continueWindow {w : Window} : (continueWindow w s).1.Serves := by
  unfold Machine.continueWindow
  split <;> exact h.same rfl rfl

theorem readTable {p : List Byte} : (readTable s p).1.Serves := by
  unfold Machine.readTable
  split
  · exact h
  · dsimp only
    split; · exact h
    split <;> exact h.same rfl rfl

theorem planStartRequest {p : List Byte} : (planStartRequest s p).1.Serves := by
  refine Kept.withArm (fun arm => ?_) h
  split
  · exact h
  · split
    · exact h
    · unfold planStart
      split <;> exact h.same rfl rfl

theorem planResume : (planResume s arm).1.Serves := by
  unfold Machine.planResume
  dsimp only
  split <;> exact h.same rfl rfl

theorem readNotices {p : List Byte} : (readNotices s p).1.Serves := by
  unfold Machine.readNotices
  dsimp only
  split <;> exact h.same rfl rfl

theorem setNoticeMask {p : List Byte} : (setNoticeMask s p).1.Serves := by
  unfold Machine.setNoticeMask
  dsimp only
  split <;> exact h.same rfl rfl

/-- READ STATUS may clear the counters, the late replies' among them (R121). -/
theorem readStatus {p : List Byte} : (readStatus s p).1.Serves := by
  have cleared : (clearCounters s.drawn).Serves :=
    (h.setRack (r := (clearCounters s.drawn).rack) rfl rfl fun m hm => ⟨m, hm, rfl⟩).same rfl rfl
  unfold Machine.readStatus
  split
  · exact h
  · dsimp only
    split
    · exact cleared
    · exact h.same rfl rfl

omit h in
/-- RESTART RUN: both sequencers IDLE with their records clear, nobody holds the rack or waits for it (R123, R144). -/
theorem restartRun (s : State) : (restartRun s).Serves :=
  ⟨Arm.forall_iff.2 ⟨.initial nofun nofun, .initial nofun nofun⟩, fun e => absurd rfl e, nofun⟩

theorem carryOut {c : Byte} {p : List Byte} : (carryOut s c p).1.Serves := by
  have hb : (breakWindow s).Serves := h.same rfl rfl
  have onArm {f : Arm → State × Answer} (hf : ∀ arm, (f arm).1.Serves) : (withArm (breakWindow s) p f).1.Serves := Kept.withArm hf hb
  have other {t : State} (hq : t.sequencer = s.sequencer) (hr : t.rack = s.rack) : t.Serves := h.same hq hr
  unfold Machine.carryOut
  split
  · open Kept in
    exact answer_ite hb.openWindow <| answer_ite hb.continueWindow <| answer_ite hb.readTable <|
      answer_ite (onArm fun _ => hb.changeProbe) <| answer_ite (onArm fun _ => hb.abortChange) <|
      answer_ite (onArm fun _ => hb.stopArm) <| answer_ite (onArm fun _ => hb.releaseArm) <|
      answer_ite hb.planStartRequest <| answer_ite (onArm fun _ => other rfl rfl) <| answer_ite (onArm fun _ => hb.planResume) <|
      answer_ite (other rfl rfl) <| answer_ite (other rfl rfl) <| answer_ite hb.readNotices <| answer_ite hb.setNoticeMask <|
      answer_ite hb.readStatus <| answer_ite (restartRun _) hb
  · exact hb

omit h in
theorem handleEntries {held : Bool} {k : Nat} {l : List (List Byte)} {d : DataRun} (h : d.state.Serves) :
    (handleEntries held k l d).state.Serves := by
  induction l generalizing k d with
  | nil => exact h
  | cons b bs ih =>
    unfold Machine.handleEntries
    split
    · exact ih h
    · split
      · exact h
      · refine ih ?_
        unfold placeEntry
        dsimp only
        split
        · exact h.same rfl rfl
        · exact h.writeEntry

theorem tableDataTaken {p : List Byte} : (tableDataTaken s p).1.Serves := by
  have inWindow {held : Bool} {w : WindowValues} : (dataInWindow held s w p).1.Serves := by
    unfold Machine.dataInWindow
    split
    · exact h
    · dsimp only
      split; · exact h
      split; · exact h
      exact (handleEntries (d := DataRun.start s w) h).same rfl rfl
  unfold Machine.tableDataTaken
  split
  · exact h
  · split
    · split <;> exact inWindow
    · exact h

/-! ### The service block -/

theorem completeRequest {r : Request} : (completeRequest s r).Serves := by
  unfold Machine.completeRequest
  split
  · dsimp only
    split
    · exact h.tableDataTaken.placeTx
    · exact h.tableDataTaken.same rfl rfl
  · exact h.carryOut.placeTx

theorem serveOldest : (serveOldest s).Serves := by
  unfold Machine.serveOldest
  split
  · exact h
  · split
    · exact h
    · exact h.setService.completeRequest

theorem handOver {r : Request} : (handOver s r).Serves := by
  unfold Machine.handOver
  split
  · exact h.placeTx
  · exact h.same rfl rfl

theorem takeRequest {r : Request} : (takeRequest s r).Serves := by
  unfold Machine.takeRequest
  split
  · exact h.handOver
  · exact h.countBadFrame

theorem arriveRequest {r : Request} : (arriveRequest s r).Serves := by
  unfold Machine.arriveRequest requestStep
  split
  · split; · exact h.completeRequest
    split
    · exact h.serveOldest
    · exact h.handOver
  · exact h.countBadFrame

/-! ### Frames by their bytes, and the two receive sides -/

theorem takeFrame {p : Port} {bytes : List Byte} : (takeFrame s p bytes).Serves := by
  unfold Machine.takeFrame
  split
  · exact h.countBadFrame
  · exact h.countBadFrame.forward
  · exact h.countBadFrame.forward
  · unfold takeGood
    split
    · exact h.forward
    · split
      · exact h.startOut.finishOut
      · exact h.startBack.finishReturn
      · exact h.takeRequest
      · exact h

end

section
variable (h : m.state.Serves)
include h

theorem midHandle : (m.handle p).state.Serves := by
  unfold Mid.handle
  cases p <;> dsimp only <;> split
  · exact h
  · exact h.handleOut
  · exact h
  · exact h.handleReturn

theorem midFinish : (m.finish p).state.Serves := by
  unfold Mid.finish
  cases p <;> dsimp only <;> split
  · exact h
  · exact h.finishOut
  · exact h
  · exact h.finishReturn

theorem midTakes {f : CycleFrame} : (m.takes p f).state.Serves := by
  have hf : (m.finish p).state.Serves := midFinish h
  unfold Mid.takes
  dsimp only
  split
  · cases p
    · exact hf.startOut
    · exact hf.startBack
  · exact hf.takeFrame

theorem midEvent {e : MidEvent} : (midEvent m e).state.Serves := by
  cases e with
  | handOver tag code params => exact (midFinish h).takeRequest
  | serve => exact h.serveOldest
  | takes p f => exact midTakes h
  | handles p => exact midHandle h
  | bytes p frame => exact (midFinish h).takeFrame
  | discards p => exact (midFinish h).countBadFrame
  | expiry t => exact h.timerExpires
  | leaves p => exact h.frameLeaves

end

theorem cycleFrameWith (h : s.Serves) {f : CycleFrame} {during : List Interleaved} : (cycleFrameWith p s f during).Serves := by
  obtain ⟨m, hm, e⟩ := cycleFrameWith_keeps (P := fun m => m.state.Serves) (during := during)
    (midTakes (m := Mid.idle s) (p := p) (f := f) h) (fun _ _ _ h => midEvent h) (fun _ h => midHandle h) (fun _ _ h => midFinish h)
  exact e ▸ hm

/-! ### Commands and the step -/

/-- After power up or reset both sequencers are IDLE and the rack is free (R15). -/
theorem cleared (s : State) (pin : Bool) : (s.cleared pin).Serves :=
  State.Serves.same ((State.rackInv_iff State.reset).1 (by decide)) rfl rfl

theorem exec (h : s.Serves) {c : Instr} (ht : exec c s = .next t) : t.Serves := by
  have run {f : State → State} (hf : (f s).Serves) : (s.unlessReset f).Serves := by
    unfold State.unlessReset
    split
    · exact h
    · exact hf
  cases c <;> obtain rfl := Host.Outcome.next.inj ht
  case powerUp => exact cleared s _
  case resetPin => exact cleared s _
  case resetEnd => exact h.same rfl rfl
  case frameDiscarded => exact run h.countBadFrame
  case badCheckFrame => exact run h.takeFrame
  case notWellFormedFrame => exact run h.takeFrame
  case forwardUnchanged => exact run h.takeFrame
  case outboundCycleFrame => exact run (cycleFrameWith h)
  case returnCycleFrame => exact run (cycleFrameWith h)
  case serviceReqHandedOver => exact run h.takeRequest
  case frameLeavesPort => exact run h.frameLeaves
  case watchTimerExpiry => exact run (h.timerExpires (t := .watch))
  case originationTimerExpiry => exact run (h.timerExpires (t := .origination))
  case bridgeTimerExpiry => exact run (h.timerExpires (t := .bridge))
  case replyTimerExpiry => exact run h.replyTimerExpires
  case phaseTimerExpiry => exact run h.phaseTimerExpires
  all_goals exact run h.arriveRequest

theorem idleStep (h : s.Serves) : (idleStep s).Serves := by
  rcases idleStep_cases s with ⟨_, e⟩ | ⟨_, _, e⟩ | ⟨_, _, _, e⟩ | ⟨_, _, _, e⟩ <;> rw [e]
  · exact h
  · exact h.serveOldest
  · exact h
  · exact h.same rfl rfl

theorem step (h : s.Serves) (ht : step s = .next t) : t.Serves := by
  rcases step_cases ht with ⟨_, rfl⟩ | ⟨c, rest, _, hx⟩
  · exact h.idleStep
  · exact State.Serves.exec (s := { s with pending := rest }) (h.same rfl rfl) hx

/-- An open corridor is that of the arm holding the rack (R131). -/
theorem corridor_holder (h : s.Serves) (hc : (s.sequencer.get arm).corridor ≠ none) : s.rack.holder = some arm :=
  h.holder (SeqState.holdsRack_of_corridor ((h.fits arm).corridor hc))

end State.Serves

/-- Settles O60: every command, and the work between commands, keeps the rack channel serving one arm; a corridor is open only where a
sequencer holds the rack. -/
theorem stepKeepsRack : Obligations.StepKeepsRack := by
  refine ⟨fun s t h ht => ?_, fun s h => ?_⟩
  · rw [State.rackInv_iff] at h ⊢
    exact h.step ht
  · rw [State.rackInv_iff] at h
    have owned (arm : Arm) : ((s.sequencer.get arm).corridor.isNone || s.rack.holder == some arm) = true := by
      rw [Bool.or_eq_true, Option.isNone_iff_eq_none, beq_iff_eq, Decidable.or_iff_not_imp_left]
      exact h.corridor_holder
    exact Bool.and_eq_true_iff.2 ⟨owned .a, owned .b⟩

end Sys2Proof.Machine
end

section
/-! A change that fails in a phase, and the end of a wait without a reply (R122, R130, R135, R138, R141, R142). -/

namespace Sys2Proof.Machine

/-! ### The reply timer runs for messages alone -/

@[simp] theorem offer_replyTimer (s : State) (arm : Arm) (c : PortCommand) (n : Nat) : (offer s arm c n).rack.replyTimer = s.rack.replyTimer := by
  rcases offerMessage_cases s.rack arm c n with ⟨_, _, e⟩ | ⟨_, e⟩ <;> simp [offer, e]

@[simp] theorem grantOpening_replyTimer (s : State) (arm : Arm) : (grantOpening s arm).rack.replyTimer = s.rack.replyTimer := by
  unfold grantOpening
  dsimp only
  split
  · split <;> simp [enterOpening, startPhase]
  · rfl

@[simp] theorem releaseRack_replyTimer (s : State) (arm : Arm) : (releaseRack s arm).rack.replyTimer = s.rack.replyTimer := by
  have hr : (releaseHolder s.rack arm).1.replyTimer = s.rack.replyTimer := by
    rcases releaseHolder_cases s.rack arm with ⟨_, e⟩ | ⟨_, e⟩ <;> rw [e]
  unfold releaseRack
  dsimp only
  split <;> simp [hr]

@[simp] theorem endChange_replyTimer (s : State) (arm : Arm) : (endChange s arm).rack.replyTimer = s.rack.replyTimer := by
  simp [endChange]

@[simp] theorem wayBack_replyTimer (s : State) (arm : Arm) : (wayBack s arm).rack.replyTimer = s.rack.replyTimer := by
  unfold wayBack enterClearing enterReclosing
  dsimp only
  split
  · split
    · rfl
    · split <;> simp
  · simp

@[simp] theorem failChange_replyTimer (s : State) (arm : Arm) (c : FailureCause) :
    (failChange s arm c).rack.replyTimer = s.rack.replyTimer := by
  unfold failChange
  split
  any_goals rfl
  · simp only [failQueued, withdrawRack]
    split <;> rfl
  · unfold failPhase
    dsimp only
    split <;> simp

/-! ### A failed change -/

/-- A change fails in a phase (R141): what it raises, where its sequencer is then, and that no other block is touched. -/
structure State.FailedFor (s t : State) (arm : Arm) (c : FailureCause) : Prop where
  changeFails : s.ChangeFails t arm (failureCode c)
  failed : (t.sequencer.get arm).state.failed = true
  notices : t.notices = s.notices.enter .changeFailed (.arm arm) (failureCode c)
  frame : t.sansMoves = s.sansMoves

theorem failChange_failedFor {s : State} {arm : Arm} (h : (s.sequencer.get arm).state.isPhase = true) (c : FailureCause) :
    s.FailedFor (failChange s arm c) arm c := by
  rw [failChange_of_phase h]
  exact ⟨failPhase_changeFails s arm c, (failPhase_failed s arm c).state, failPhase_notices s arm c, failPhase_sansMoves s arm c⟩

theorem State.FailedFor.library {s t : State} {arm : Arm} {c : FailureCause} (h : s.FailedFor t arm c) : t.library = s.library :=
  have f {α : Type} (g : State → α) : g t.sansMoves = g s.sansMoves := congrArg g h.frame
  f State.library

theorem State.FailedFor.active {s t : State} {arm : Arm} {c : FailureCause} (h : s.FailedFor t arm c) : t.active = s.active :=
  have f {α : Type} (g : State → α) : g t.sansMoves = g s.sansMoves := congrArg g h.frame
  f State.active

/-! ### The end of a wait with TIMEOUT -/

/-- The states in which a message decides about the change: without an outcome the change fails (R130, R135, R138). -/
def SeqState.awaits : List SeqState := [.dropOpening, .dropClosing, .pickOpening, .pickClosing]

theorem SeqState.isPhase_of_awaits {q : SeqState} (h : q ∈ awaits) : q.isPhase = true := by
  revert q
  decide

/-- All that an outcome TIMEOUT does. -/
theorem takeOutcome_timeout_cases (s : State) (m : RackMessage) :
    ((s.sequencer.get m.sender).state ∈ SeqState.awaits ∧ takeOutcome s m .timeout = failChange s m.sender .rackTimeout) ∨
    ((s.sequencer.get m.sender).state = .reclosing ∧
      takeOutcome s m .timeout = endChange (s.raise .rackPortUnknown (.arm m.sender) 0) m.sender) ∨
    ((s.sequencer.get m.sender).state ∉ .reclosing :: SeqState.awaits ∧
      (takeOutcome s m .timeout = wayBack s m.sender ∨ takeOutcome s m .timeout = s)) := by
  unfold takeOutcome
  split
  any_goals exact .inl ⟨by simp [*, SeqState.awaits], rfl⟩
  · exact .inr (.inr ⟨by simp [*, SeqState.awaits], .inl rfl⟩)
  · exact .inr (.inl ⟨by assumption, rfl⟩)
  · refine .inr (.inr ⟨?_, .inr rfl⟩)
    simp only [SeqState.awaits, List.mem_cons, List.not_mem_nil, or_false]
    tauto

theorem takeOutcome_timeout_sansMoves (s : State) (m : RackMessage) : (takeOutcome s m .timeout).sansMoves = s.sansMoves := by
  rcases takeOutcome_timeout_cases s m with ⟨_, e⟩ | ⟨_, e⟩ | ⟨_, e | e⟩ <;> simp [e]

theorem takeOutcome_timeout_replyTimer (s : State) (m : RackMessage) :
    (takeOutcome s m .timeout).rack.replyTimer = s.rack.replyTimer := by
  rcases takeOutcome_timeout_cases s m with ⟨_, e⟩ | ⟨_, e⟩ | ⟨_, e | e⟩ <;> simp [e]

/-- An arm whose change has ended is IDLE with its record clear (R142). -/
theorem endChange_get (s : State) (arm : Arm) : (endChange s arm).sequencer.get arm = Sequencer.initial := by
  rw [endChange, releaseRack_get (by simp [Sequencer.initial]), State.setSequencer_sequencer, PerArm.get_put_same]

/-- Settles O23: the wait ends, and its outcome TIMEOUT fails the change in the four states that await a message, or ends it in
RECLOSING. -/
theorem replyExpiry : Obligations.ReplyExpiry := by
  intro s hpin
  have runs : exec .replyTimerExpiry s = .next (replyTimerExpires s) := congrArg Host.Outcome.next (State.unlessReset_runs _ hpin)
  refine ⟨fun ht => by rw [runs]; simp only [replyTimerExpires, ht], fun at_ m ht hm => ?_⟩
  have expires : replyTimerExpires s = takeOutcome ((s.reach at_).setRack s.rack.endWait) m .timeout := by
    simp only [replyTimerExpires, ht, hm]
  refine ⟨_, runs.trans (congrArg Host.Outcome.next expires), ?_⟩
  generalize hu : (s.reach at_).setRack s.rack.endWait = u
  have hq : u.sequencer = s.sequencer := by rw [← hu]; rfl
  have hn : u.notices = s.notices := by rw [← hu]; rfl
  have f {α : Type} (g : State → α) : g (takeOutcome u m .timeout).sansMoves = g u.sansMoves :=
    congrArg g (takeOutcome_timeout_sansMoves u m)
  have hcases := takeOutcome_timeout_cases u m
  rw [hq] at hcases
  refine ⟨(f State.now).trans (hu ▸ rfl), (takeOutcome_timeout_replyTimer u m).trans (hu ▸ rfl), fun hs => ?_, fun hs => ?_,
    (f State.library).trans (hu ▸ rfl), (f State.active).trans (hu ▸ rfl), (f State.supervision).trans (hu ▸ rfl),
    (f State.link).trans (hu ▸ rfl)⟩
  · rcases hcases with ⟨hw, e⟩ | ⟨hr, -⟩ | ⟨hn, -⟩
    · have hfail := failChange_failedFor (hq ▸ SeqState.isPhase_of_awaits hw) .rackTimeout
      rw [e]
      exact ⟨hn ▸ hfail.notices, hfail.failed, hu ▸ hfail.changeFails⟩
    · rw [hr] at hs
      simp at hs
    · exact absurd (List.mem_cons_of_mem _ hs) hn
  · rcases hcases with ⟨hw, -⟩ | ⟨-, e⟩ | ⟨hn, -⟩
    · rw [hs] at hw
      simp [SeqState.awaits] at hw
    · rw [e, endChange_notices, endChange_get]
      exact ⟨congrArg (fun n : Notices => n.enter .rackPortUnknown (.arm m.sender) 0) hn, rfl⟩
    · exact absurd (by simp [hs]) hn

end Sys2Proof.Machine
end

section
/-! Outcomes of rack messages, state by state (R121, R130, R134, R135, R138, R141, R142). -/

namespace Sys2Proof.Machine

/-! ### Replies (R121) -/

theorem takeReply_of_match {s : State} {r : RackReply} {m : RackMessage} {at_ : Nat} (hm : s.rack.message = some m)
    (ht : s.rack.replyTimer = some at_) (hp : m.phase = .sent) (htag : m.tag = r.tag) (hst : m.station = r.station) :
    takeReply s r = takeOutcome { s with rack := { s.rack with message := none, replyTimer := none } } m r.outcome := by
  have hmatch : s.rack.matching r = some m := by simp [Rack.matching, hm, ht, hp, htag, hst]
  simp only [takeReply, hmatch]
  rfl

theorem takeReply_late {s : State} {r : RackReply} (h : s.rack.message = none ∨ s.rack.replyTimer = none ∨
    ∃ m, s.rack.message = some m ∧ (m.phase ≠ .sent ∨ m.tag ≠ r.tag ∨ m.station ≠ r.station)) :
    takeReply s r = { s with
      rack := { s.rack with lateReplies := min 65535 (s.rack.lateReplies + 1) }
      notices := s.notices.enter .lateRackReply .none 0 } := by
  have hmatch : s.rack.matching r = none := by
    unfold Rack.matching
    split
    · rename_i m _ hm ht
      refine if_neg fun ⟨hp, htag, hst⟩ => ?_
      rcases h with h | h | ⟨m', hm', h⟩
      · simp [h] at hm
      · simp [h] at ht
      · obtain rfl := Option.some.inj (hm.symm.trans hm')
        tauto
    · rfl
  simp only [takeReply, hmatch]
  rfl

/-! ### Moves of the rack's holder, spelled out -/

section
variable {s : State} {arm : Arm} (hh : s.rack.holder = some arm)
include hh

theorem enterOpening_eq (hm : s.rack.message = none) (st : SeqState) (n : Nat) : enterOpening s arm st n =
    { s with
      sequencer := s.sequencer.put arm { s.sequencer.get arm with state := st, portMark := some n, phaseTimer := s.phaseExpiry }
      rack := s.offered arm .openPort n } := by
  rw [enterOpening, offer_eq hh hm]
  rfl

theorem completeChange_eq (hw : s.rack.waiting = none) : completeChange s arm =
    { s with
      sequencer := s.sequencer.put arm Sequencer.initial
      notices := s.notices.enter .changeDone (.arm arm) 0
      rack := { s.rack with holder := none } } := by
  have hrack : ((s.setSequencer arm Sequencer.initial).raise .changeDone (.arm arm) 0).rack = s.rack := rfl
  rw [completeChange, releaseRack, hrack, releaseHolder_eq hh, hw]
  dsimp only
  rw [← hw]
  rfl

end

/-! ### The drop judged (R134) -/

/-- A drop entry at a berth that senses EMPTY: LOST if it is still IN_RACK. -/
def missingDrop (e : LibraryEntry) : LibraryEntry := if e.location = .inRack then { e with location := .lost } else e

section
variable {s : State} {arm : Arm}

theorem judgeDrop_sensed (s : State) (arm : Arm) :
    judgeDrop s arm true = s.setSequencer arm { s.sequencer.get arm with dropUnconfirmed := false } := by
  unfold judgeDrop
  rfl

theorem judgeDrop_empty {d : Berth} (h : (s.sequencer.get arm).drop = some d) : judgeDrop s arm false =
    modifyEntry (s.setSequencer arm { s.sequencer.get arm with dropUnconfirmed := false }) d.index missingDrop := by
  simp only [judgeDrop, h]
  rfl

/-- Judged EMPTY, the drop has its entry changed, and nothing else that a failure of the change would read or raise. -/
structure JudgedEmpty (s u : State) (arm : Arm) (i : Nat) (e : LibraryEntry) : Prop where
  dropped : Table.entry u.library i = some (missingDrop e)
  others : ∀ j, j ≠ i → Table.entry u.library j = Table.entry s.library j
  active : u.active = s.active
  notices : u.notices = s.notices
  state : (u.sequencer.get arm).state = (s.sequencer.get arm).state

theorem judgeDrop_judgedEmpty {d : Berth} {e : LibraryEntry} (h : (s.sequencer.get arm).drop = some d)
    (he : Table.entry s.library d.index = some e) : JudgedEmpty s (judgeDrop s arm false) arm d.index e := by
  rw [judgeDrop_empty h]
  exact ⟨modifyEntry_entry_same (s := s.setSequencer arm _) _ he, fun j hj => modifyEntry_entry_ne (s.setSequencer arm _) _ hj, by simp,
    by simp, by simp⟩

theorem JudgedEmpty.failed {u : State} {i : Nat} {e : LibraryEntry} (h : JudgedEmpty s u arm i e)
    (hp : (s.sequencer.get arm).state.isPhase = true) (c : FailureCause) :
    Table.entry (failChange u arm c).library i = some (missingDrop e) ∧
    (∀ j, j ≠ i → Table.entry (failChange u arm c).library j = Table.entry s.library j) ∧ (failChange u arm c).active = s.active ∧
    ((failChange u arm c).sequencer.get arm).state.failed = true ∧
    (failChange u arm c).notices = s.notices.enter .changeFailed (.arm arm) (failureCode c) := by
  have hf := failChange_failedFor (s := u) (h.state ▸ hp) c
  rw [hf.library, hf.active, hf.notices, h.notices]
  exact ⟨h.dropped, h.others, h.active, hf.failed, rfl⟩

/-- Without a drop an outcome judges none. -/
theorem State.dropJudged_of_none (h : (s.sequencer.get arm).drop = none) (n : Nat) (o : RackOutcome) : s.dropJudged arm n o = s := by
  unfold State.dropJudged
  dsimp only
  split
  · rename_i hd
    exact absurd (h.symm.trans hd) nofun
  · rfl

theorem State.dropJudged_ack {d : Berth} (h : (s.sequencer.get arm).drop = some d) (n : Nat) (portOpen sensed : Bool) :
    s.dropJudged arm n (.ack portOpen sensed) =
      if (s.sequencer.get arm).dropUnconfirmed = true ∧ d.station = n then
        if sensed then judgeDrop s arm true else (judgeDrop s arm false).raise .probeLost (.arm arm) 0
      else s := by
  unfold State.dropJudged
  dsimp only
  split
  · rename_i o x d' ho hd
    obtain rfl := Option.some.inj (h.symm.trans hd)
    obtain ⟨-, rfl⟩ := RackOutcome.ack.inj ho
    rw [judgeDrop_sensed, judgeDrop_empty hd]
    congr 2
    cases he : Table.entry s.library d.index with
    | none => rw [modifyEntry_of_none (s := s.setSequencer arm _) _ he]; rfl
    | some e => rw [modifyEntry_of_some (s := s.setSequencer arm _) _ he]; rfl
  · rename_i hno
    exact absurd h (hno _ _ _ rfl)

/-- The judgement after a failure, spelled out (R134; log 21). -/
theorem judgeAfterFailure_eq (s : State) (arm : Arm) (n : Nat) (o : RackOutcome) : judgeAfterFailure s arm n o = s.dropJudged arm n o := by
  cases o with
  | ack portOpen sensed =>
    cases hd : (s.sequencer.get arm).drop with
    | none => rw [State.dropJudged_of_none hd]; simp [judgeAfterFailure, Sequencer.judgesDrop, hd]
    | some d =>
      rw [State.dropJudged_ack hd]
      simp only [judgeAfterFailure, Sequencer.judgesDrop, hd, Option.map_some, Bool.and_eq_true, beq_iff_eq, Option.some.injEq]
      cases sensed <;> rfl
  | nak reason => rfl
  | timeout => rfl

end

/-! ### DROP_CLOSING (R134, R135) -/

section
variable {s : State} {arm : Arm} {d : Berth} (hd : (s.sequencer.get arm).drop = some d)
  (hu : (s.sequencer.get arm).dropUnconfirmed = true)
include hd hu

theorem judgesDrop_of_unconfirmed : (s.sequencer.get arm).judgesDrop d.station = true := by simp [Sequencer.judgesDrop, hd, hu]

theorem dropClosingOutcome_sensed : dropClosingOutcome s arm d.station (.ack false true) =
    afterDrop (s.setSequencer arm { s.sequencer.get arm with portMark := none, dropUnconfirmed := false }) arm := by
  simp [dropClosingOutcome, judgesDrop_of_unconfirmed hd hu, judgeDrop_sensed, clearPortMark, State.setSequencer]

theorem dropClosingOutcome_empty : dropClosingOutcome s arm d.station (.ack false false) =
    failChange (judgeDrop (clearPortMark s arm) arm false) arm .dropNotSensed := by
  simp [dropClosingOutcome, judgesDrop_of_unconfirmed hd hu]

theorem dropClosingOutcome_open_empty : dropClosingOutcome s arm d.station (.ack true false) =
    (failChange (judgeDrop s arm false) arm .rackRefused).raise .probeLost (.arm arm) 0 := by
  simp [dropClosingOutcome, judgesDrop_of_unconfirmed hd hu]

end

/-! ### The opening states (R130) -/

/-- The outcome of an OPEN_PORT: an ACK OPEN with the occupancy that lets the arm in opens the corridor, with the other one the change
fails for that reason. -/
def openingOutcome (s : State) (arm : Arm) (n : Nat) (corridor : SeqState) (ready : NoticeKind) (free : Bool) (wrong : FailureCause)
    (o : RackOutcome) : State :=
  match o with
  | .ack false _ => failChange (clearPortMark s arm) arm .rackRefused
  | .ack true sensed => if sensed = free then openCorridor s arm corridor ready n else failChange s arm wrong
  | .nak _ => failChange s arm .rackRefused
  | .timeout => failChange s arm .rackTimeout

theorem dropOpeningOutcome_eq (s : State) (arm : Arm) (n : Nat) (o : RackOutcome) :
    dropOpeningOutcome s arm n o = openingOutcome s arm n .dropCorridor .dropReady false .stationOccupied o := by
  rcases o with ⟨_ | _, _ | _⟩ | _ | _ <;> rfl

theorem pickOpeningOutcome_eq (s : State) (arm : Arm) (n : Nat) (o : RackOutcome) :
    pickOpeningOutcome s arm n o = openingOutcome s arm n .pickCorridor .pickReady true .stationEmpty o := by
  rcases o with ⟨_ | _, _ | _⟩ | _ | _ <;> rfl

section
variable {s : State} {arm : Arm} (n : Nat) (corridor : SeqState) (ready : NoticeKind) (free : Bool) (wrong : FailureCause)

theorem openingOutcome_opens (h : (s.supervision.get arm).state ≠ .stopped) :
    openingOutcome s arm n corridor ready free wrong (.ack true free) =
      { s with
        sequencer := s.sequencer.put arm { s.sequencer.get arm with
          state := corridor, corridor := some n, phaseTimer := s.phaseExpiry }
        notices := s.notices.enter ready (.arm arm) 0 } := by
  simp only [openingOutcome, if_true, openCorridor, if_neg h]
  rfl

theorem openingOutcome_stopped (h : (s.supervision.get arm).state = .stopped) :
    openingOutcome s arm n corridor ready free wrong (.ack true free) = failChange s arm .armStopped := by
  simp only [openingOutcome, if_true, openCorridor, if_pos h]

theorem openingOutcome_wrong : openingOutcome s arm n corridor ready free wrong (.ack true (!free)) = failChange s arm wrong := by
  simp [openingOutcome]

/-- What an outcome brings about in an opening state. -/
theorem openingOutcome_changeFails (hp : (s.sequencer.get arm).state.isPhase = true) :
    ((s.supervision.get arm).state = .stopped →
      s.ChangeFails (openingOutcome s arm n corridor ready free wrong (.ack true free)) arm 9) ∧
    s.ChangeFails (openingOutcome s arm n corridor ready free wrong (.ack true (!free))) arm (failureCode wrong) ∧
    (∀ sensed, (clearPortMark s arm).ChangeFails (openingOutcome s arm n corridor ready free wrong (.ack false sensed)) arm 2) ∧
    (∀ reason, s.ChangeFails (openingOutcome s arm n corridor ready free wrong (.nak reason)) arm 2) ∧
    s.ChangeFails (openingOutcome s arm n corridor ready free wrong .timeout) arm 1 := by
  have fails (c : FailureCause) := (failChange_failedFor hp c).changeFails
  refine ⟨fun h => ?_, ?_, fun sensed => ?_, fun reason => fails .rackRefused, fails .rackTimeout⟩
  · rw [openingOutcome_stopped n corridor ready free wrong h]
    exact fails .armStopped
  · rw [openingOutcome_wrong]
    exact fails wrong
  · exact (failChange_failedFor (s := clearPortMark s arm) (by simpa [clearPortMark] using hp) .rackRefused).changeFails

end

/-! ### WINDING (R141) -/

theorem windingOutcome_eq (s : State) (arm : Arm) (n : Nat) (o : RackOutcome) : windingOutcome s arm n o =
    wayBack (State.dropJudged { s with sequencer := s.sequencer.put arm { s.sequencer.get arm with
      portMark := if (o = .ack false true ∨ o = .ack false false) ∧ (s.sequencer.get arm).portMark = some n then none
        else (s.sequencer.get arm).portMark } } arm n o) arm := by
  have kept : ({ s with sequencer := s.sequencer.put arm { s.sequencer.get arm with
      portMark := (s.sequencer.get arm).portMark } } : State) = s :=
    congrArg (fun q => ({ s with sequencer := q } : State)) (PerArm.put_get_self _ _)
  rw [← judgeAfterFailure_eq]
  rcases o with ⟨_ | _, sensed⟩ | _ | _
  · have hack : RackOutcome.ack false sensed = .ack false true ∨ RackOutcome.ack false sensed = .ack false false := by
      cases sensed <;> simp
    by_cases hp : (s.sequencer.get arm).portMark = some n
    · rw [if_pos ⟨hack, hp⟩]
      simp only [windingOutcome, if_pos hp]
      rfl
    · rw [if_neg fun h => hp h.2, kept]
      simp only [windingOutcome, if_neg hp]
  all_goals
    rw [if_neg (by simp), kept]
    rfl

/-! ### The leaving test (R133) -/

section
variable {s : State} {arm : Arm}

theorem leavingTestMet_eq {station : Nat} {z : ZoneEntry} {p : Triple Int} (hc : (s.sequencer.get arm).corridor = some station)
    (hz : corridorOf s arm station = some z) (hp : correctedHead s arm = some p) :
    leavingTestMet s arm = !((armBox s arm p).intersects (zoneBox z)) := by
  simp only [leavingTestMet, hc, hz, hp]

theorem leavingTest_of_not_met (h : leavingTestMet s arm = false) : leavingTest s arm = s := by simp [leavingTest, h]

theorem SeqState.leaves_iff (q : SeqState) : q.leaves = true ↔ q ∈ [SeqState.dropLeaving, .pickLeaving, .clearing] := by
  cases q <;> simp [leaves]

theorem leavingTest_of_not_leaving (h : (s.sequencer.get arm).state ∉ [SeqState.dropLeaving, .pickLeaving, .clearing]) :
    leavingTest s arm = s := if_neg fun hl => h ((SeqState.leaves_iff _).1 (Bool.and_eq_true_iff.1 hl).1)

theorem leavingTest_of_met {q : SeqState} (hq : (s.sequencer.get arm).state = q) (h : q.leaves = true)
    (hm : leavingTestMet s arm = true) : leavingTest s arm = leaveCorridor s arm :=
  if_pos (Bool.and_eq_true_iff.2 ⟨hq ▸ h, hm⟩)

variable (hm : s.rack.message = none) (hh : s.rack.holder = some arm)
include hm hh

theorem leaveCorridor_drop {d : Berth} (hq : (s.sequencer.get arm).state = .dropLeaving) (hd : (s.sequencer.get arm).drop = some d) :
    leaveCorridor s arm =
      { s with
        sequencer := s.sequencer.put arm { s.sequencer.get arm with state := .dropClosing, corridor := none, phaseTimer := s.phaseExpiry }
        rack := s.offered arm .closePort d.station } := by
  simp only [leaveCorridor, hq, hd]
  rw [offer_eq (s := s.setSequencer arm _) hh hm]
  cases arm <;> rfl

theorem leaveCorridor_pick {b : Berth} (hq : (s.sequencer.get arm).state = .pickLeaving) (hb : (s.sequencer.get arm).target = some b) :
    leaveCorridor s arm =
      { s with
        sequencer := s.sequencer.put arm { s.sequencer.get arm with state := .pickClosing, corridor := none, phaseTimer := s.phaseExpiry }
        rack := s.offered arm .closePort b.station } := by
  simp only [leaveCorridor, hq, hb]
  rw [offer_eq (s := s.setSequencer arm _) hh hm]
  cases arm <;> rfl

theorem leaveCorridor_clearing {mark : Nat} (hq : (s.sequencer.get arm).state = .clearing)
    (hp : (s.sequencer.get arm).portMark = some mark) : leaveCorridor s arm =
      { s with
        sequencer := s.sequencer.put arm { s.sequencer.get arm with state := .reclosing, corridor := none }
        rack := s.offered arm .closePort mark } := by
  simp only [leaveCorridor, hq, enterReclosing, State.setSequencer_sequencer, PerArm.get_put_same, hp]
  rw [offer_eq (s := s.setSequencer arm _) hh hm]
  cases arm <;> rfl

end

end Sys2Proof.Machine
end

section
/-! A rack reply and its outcome in every state with a message, and the leaving test (RackReplyTaken). -/

namespace Sys2Proof.Machine

/-! ### An outcome by the sender's state -/

section
variable {s : State} {m : RackMessage} (o : RackOutcome)

theorem takeOutcome_dropClosing (h : (s.sequencer.get m.sender).state = .dropClosing) :
    takeOutcome s m o = dropClosingOutcome s m.sender m.station o := by
  simp only [takeOutcome, h]

theorem takeOutcome_pickClosing (h : (s.sequencer.get m.sender).state = .pickClosing) :
    takeOutcome s m o = pickClosingOutcome s m.sender o := by
  simp only [takeOutcome, h]

theorem takeOutcome_dropOpening (h : (s.sequencer.get m.sender).state = .dropOpening) :
    takeOutcome s m o = openingOutcome s m.sender m.station .dropCorridor .dropReady false .stationOccupied o := by
  simp only [takeOutcome, h, dropOpeningOutcome_eq]

theorem takeOutcome_pickOpening (h : (s.sequencer.get m.sender).state = .pickOpening) :
    takeOutcome s m o = openingOutcome s m.sender m.station .pickCorridor .pickReady true .stationEmpty o := by
  simp only [takeOutcome, h, pickOpeningOutcome_eq]

theorem takeOutcome_winding (h : (s.sequencer.get m.sender).state = .winding) :
    takeOutcome s m o = windingOutcome s m.sender m.station o := by
  simp only [takeOutcome, h]

theorem takeOutcome_reclosing (h : (s.sequencer.get m.sender).state = .reclosing) :
    takeOutcome s m o = reclosingOutcome s m.sender m.station o := by
  simp only [takeOutcome, h]

end

/-! ### Outcomes that bring the change on -/

section
variable {s : State} {arm : Arm} (hh : s.rack.holder = some arm)
include hh

/-- The drop confirmed, and a pick to come (R135). -/
theorem dropClosingOutcome_picks {d b : Berth} (hm : s.rack.message = none) (hd : (s.sequencer.get arm).drop = some d)
    (hu : (s.sequencer.get arm).dropUnconfirmed = true) (hb : (s.sequencer.get arm).target = some b) :
    dropClosingOutcome s arm d.station (.ack false true) =
      { s with
        sequencer := s.sequencer.put arm { s.sequencer.get arm with
          state := .pickOpening, portMark := some b.station, dropUnconfirmed := false, phaseTimer := s.phaseExpiry }
        rack := s.offered arm .openPort b.station } := by
  rw [dropClosingOutcome_sensed hd hu, afterDrop]
  simp only [State.setSequencer_sequencer, PerArm.get_put_same, hb]
  rw [enterOpening_eq (s := s.setSequencer arm _) hh hm]
  cases arm <;> rfl

/-- The drop confirmed, and nothing to pick (R135, R138). -/
theorem dropClosingOutcome_completes {d : Berth} (hw : s.rack.waiting = none) (hd : (s.sequencer.get arm).drop = some d)
    (hu : (s.sequencer.get arm).dropUnconfirmed = true) (ht : (s.sequencer.get arm).target = none) :
    dropClosingOutcome s arm d.station (.ack false true) =
      { s with
        sequencer := s.sequencer.put arm Sequencer.initial
        notices := s.notices.enter .changeDone (.arm arm) 0
        rack := { s.rack with holder := none } } := by
  rw [dropClosingOutcome_sensed hd hu, afterDrop]
  simp only [State.setSequencer_sequencer, PerArm.get_put_same, ht]
  rw [completeChange_eq (s := s.setSequencer arm _) hh hw]
  cases arm <;> rfl

theorem pickClosingOutcome_completes (hw : s.rack.waiting = none) (sensed : Bool) : pickClosingOutcome s arm (.ack false sensed) =
    { s with
      sequencer := s.sequencer.put arm Sequencer.initial
      notices := s.notices.enter .changeDone (.arm arm) 0
      rack := { s.rack with holder := none } } := by
  rw [pickClosingOutcome, completeChange_eq (s := clearPortMark s arm) hh hw]
  cases arm <;> rfl

end

/-! ### Outcomes that fail the change -/

section
variable {s : State} {arm : Arm}

/-- A change refused by the rack (R135, R138). -/
theorem rackRefused_fails (hp : (s.sequencer.get arm).state.isPhase = true) :
    (failChange s arm .rackRefused).library = s.library ∧ ((failChange s arm .rackRefused).sequencer.get arm).state.failed = true ∧
    (failChange s arm .rackRefused).notices = s.notices.enter .changeFailed (.arm arm) 2 ∧
    s.ChangeFails (failChange s arm .rackRefused) arm 2 :=
  have h := failChange_failedFor hp .rackRefused
  ⟨h.library, h.failed, h.notices, h.changeFails⟩

/-- A drop judged EMPTY, the port closed or open: the entry is LOST, and the change fails (R134, R135; logs 20, 21). -/
theorem dropClosingOutcome_lost {d : Berth} {e : LibraryEntry} (hq : (s.sequencer.get arm).state = .dropClosing)
    (hd : (s.sequencer.get arm).drop = some d) (hu : (s.sequencer.get arm).dropUnconfirmed = true)
    (he : Table.entry s.library d.index = some e) (portOpen : Bool) :
    let t := dropClosingOutcome s arm d.station (.ack portOpen false)
    Table.entry t.library d.index = some (missingDrop e) ∧ (∀ j, j ≠ d.index → Table.entry t.library j = Table.entry s.library j) ∧
    t.active = s.active ∧ (t.sequencer.get arm).state.failed = true ∧
    t.notices = if portOpen then (s.notices.enter .changeFailed (.arm arm) 2).enter .probeLost (.arm arm) 0
      else s.notices.enter .changeFailed (.arm arm) 5 := by
  have hp : (s.sequencer.get arm).state.isPhase = true := by simp [hq, SeqState.isPhase]
  cases portOpen with
  | false =>
    rw [dropClosingOutcome_empty hd hu]
    have judged : JudgedEmpty (clearPortMark s arm) (judgeDrop (clearPortMark s arm) arm false) arm d.index e :=
      judgeDrop_judgedEmpty (by simpa [clearPortMark] using hd) he
    exact judged.failed (by simpa [clearPortMark] using hp) .dropNotSensed
  | true =>
    rw [dropClosingOutcome_open_empty hd hu]
    obtain ⟨dropped, others, active, failed, notices⟩ := (judgeDrop_judgedEmpty hd he).failed hp .rackRefused
    exact ⟨dropped, others, active, failed, congrArg (fun n : Notices => n.enter .probeLost (.arm arm) 0) notices⟩

/-- An outcome in RECLOSING ends the change, RACK_PORT_UNKNOWN raised unless the port is CLOSED (R142; log 20). -/
theorem reclosingOutcome_ends (s : State) (arm : Arm) (n : Nat) (o : RackOutcome) :
    (o = .ack false true ∨ o = .ack false false → (s.dropJudged arm n o).EndsChange (reclosingOutcome s arm n o) arm) ∧
    (o ≠ .ack false true → o ≠ .ack false false →
      State.EndsChange { s.dropJudged arm n o with
        notices := (s.dropJudged arm n o).notices.enter .rackPortUnknown (.arm arm) 0 } (reclosingOutcome s arm n o) arm) := by
  rw [← judgeAfterFailure_eq]
  refine ⟨fun h => ?_, fun htrue hfalse => ?_⟩
  · rcases h with rfl | rfl <;> exact endChange_endsChange _ arm
  · have ends : reclosingOutcome s arm n o =
        endChange ((judgeAfterFailure s arm n o).raise .rackPortUnknown (.arm arm) 0) arm := by
      rcases o with ⟨_ | _, _ | _⟩ | _ | _
      · exact absurd rfl hfalse
      · exact absurd rfl htrue
      all_goals rfl
    rw [ends]
    exact endChange_endsChange _ arm

end

/-! ### The obligation -/

theorem rackReplyTaken_reply (s : State) (r : RackReply) :
    (∀ m at_, s.rack.message = some m → s.rack.replyTimer = some at_ → m.phase = .sent → m.tag = r.tag → m.station = r.station →
      takeReply s r = takeOutcome { s with rack := { s.rack with message := none, replyTimer := none } } m r.outcome) ∧
    ((s.rack.message = none ∨ s.rack.replyTimer = none ∨
        ∃ m, s.rack.message = some m ∧ (m.phase ≠ .sent ∨ m.tag ≠ r.tag ∨ m.station ≠ r.station)) →
      takeReply s r = { s with
        rack := { s.rack with lateReplies := min 65535 (s.rack.lateReplies + 1) }
        notices := s.notices.enter .lateRackReply .none 0 }) :=
  ⟨fun _ _ => takeReply_of_match, takeReply_late⟩

/-- Settles O52: the reply that matches, the outcome in each state that has a message, and the leaving test. -/
theorem rackReplyTaken : Obligations.RackReplyTaken := by
  refine ⟨rackReplyTaken_reply, fun s m hm hh => ?_, fun s arm station z p hc hz hp => ?_⟩
  · intro arm q
    refine ⟨fun d hq hd hu hst => ?_, fun hq => ?_, ?_, fun hq o => ?_, fun hq o => ?_⟩
    · have closing (o : RackOutcome) : takeOutcome s m o = dropClosingOutcome s arm d.station o :=
        (takeOutcome_dropClosing o hq).trans (by rw [hst])
      have hphase : q.state.isPhase = true := by simp [hq, SeqState.isPhase]
      refine ⟨fun b hb => ?_, fun ht hw => ?_, fun e he portOpen => ?_, fun reason => ?_⟩
      · exact (closing _).trans (dropClosingOutcome_picks hh hm hd hu hb)
      · exact (closing _).trans (dropClosingOutcome_completes hh hw hd hu ht)
      · dsimp only
        rw [closing]
        exact dropClosingOutcome_lost hq hd hu he portOpen
      · dsimp only
        rw [closing]
        exact rackRefused_fails hphase
    · have hphase : q.state.isPhase = true := by simp [hq, SeqState.isPhase]
      refine ⟨fun sensed hw => ?_, fun o ho => ?_⟩
      · exact (takeOutcome_pickClosing _ hq).trans (pickClosingOutcome_completes hh hw sensed)
      · have refused : takeOutcome s m o = failChange s arm .rackRefused := by
          rw [takeOutcome_pickClosing _ hq]
          rcases ho with ⟨sensed, rfl⟩ | ⟨reason, rfl⟩ <;> rfl
        dsimp only
        rw [refused]
        exact rackRefused_fails hphase
    · intro opening corridor ready free wrong b hopening hq hst
      obtain ⟨cause, rfl, hphase, opens⟩ : ∃ cause, failureCode cause = wrong ∧ q.state.isPhase = true ∧
          ∀ o, takeOutcome s m o = openingOutcome s arm b.station corridor ready free cause o := by
        rcases hopening with ⟨rfl, rfl, rfl, rfl, rfl, -⟩ | ⟨rfl, rfl, rfl, rfl, rfl, -⟩
        · exact ⟨.stationOccupied, rfl, by simp [hq, SeqState.isPhase], fun o => hst ▸ takeOutcome_dropOpening o hq⟩
        · exact ⟨.stationEmpty, rfl, by simp [hq, SeqState.isPhase], fun o => hst ▸ takeOutcome_pickOpening o hq⟩
      obtain ⟨stopped, occupied, closed, refused, timeout⟩ := openingOutcome_changeFails b.station corridor ready free cause hphase
      exact ⟨fun h => (opens _).trans (openingOutcome_opens b.station corridor ready free cause h), fun h => opens _ ▸ stopped h,
        opens _ ▸ occupied, fun sensed => opens _ ▸ closed sensed, fun reason => opens _ ▸ refused reason, opens _ ▸ timeout⟩
    · rw [takeOutcome_winding _ hq, windingOutcome_eq]
      exact wayBack_goesBack _ _
    · rw [takeOutcome_reclosing _ hq]
      exact reclosingOutcome_ends s arm m.station o
  · intro q
    have met := leavingTestMet_eq hc hz hp
    refine ⟨fun hi => leavingTest_of_not_met (by rw [met, hi]; rfl), leavingTest_of_not_leaving, fun hi hm hh => ?_⟩
    have hmet : leavingTestMet s arm = true := by rw [met, hi]; rfl
    refine ⟨fun d hq hd => ?_, fun b hq hb => ?_, fun mark hq hp => ?_⟩
    · rw [leavingTest_of_met hq rfl hmet, leaveCorridor_drop hm hh hq hd]
    · rw [leavingTest_of_met hq rfl hmet, leaveCorridor_pick hm hh hq hb]
    · rw [leavingTest_of_met hq rfl hmet, leaveCorridor_clearing hm hh hq hp]

end Sys2Proof.Machine
end

section
/-! CHANGE PROBE accepted, and the reports of the arm's head during the change (R117, R127 to R129, R132, R136, R137, R139, R147). -/

namespace Sys2Proof.Machine

/-! ### The grant (R128) -/

section
variable {s : State} {arm : Arm}

theorem grantOpening_other (s : State) (arm : Arm) :
    (grantOpening s arm).sequencer.get (otherArm arm) = s.sequencer.get (otherArm arm) := by
  unfold grantOpening
  dsimp only
  split
  · split <;> simp [enterOpening, startPhase, offer]
  · rfl

/-- A granted sequencer opens the port of its first berth: the drop's, or without one the target's. -/
theorem grantOpening_first {first : Berth} (hq : (s.sequencer.get arm).state = .queued)
    (hf : (s.sequencer.get arm).drop.or (s.sequencer.get arm).target = some first) :
    grantOpening s arm =
      enterOpening s arm (if (s.sequencer.get arm).drop.isSome then .dropOpening else .pickOpening) first.station := by
  unfold grantOpening
  cases hd : (s.sequencer.get arm).drop with
  | some d =>
    obtain rfl : d = first := by simpa [hd] using hf
    simp only [hq, hd, Option.isSome_some, if_true]
  | none =>
    have ht : (s.sequencer.get arm).target = some first := by simpa [hd] using hf
    simp only [hq, hd, ht, Option.isSome_none, Bool.false_eq_true, if_true, if_false]

/-! ### An accepted change (R127) -/

theorem acceptChange_sansMoves (p : ChangePlan) : (acceptChange s arm p).sansMoves = (queuedFor s arm p).sansMoves := by
  rw [acceptChange_eq]
  split
  · rw [grantOpening_sansMoves, setRack_sansMoves]
  · rfl

theorem acceptChange_notices (p : ChangePlan) : (acceptChange s arm p).notices = s.notices := by
  rw [acceptChange_eq]
  split
  · rw [grantOpening_notices]
    rfl
  · rfl

theorem acceptChange_other (p : ChangePlan) :
    (acceptChange s arm p).sequencer.get (otherArm arm) = s.sequencer.get (otherArm arm) := by
  rw [acceptChange_eq]
  split
  · rw [grantOpening_other]
    exact queuedFor_other p
  · exact queuedFor_other p

/-- With the rack free and no message outstanding the first port is opened at once (R117, R119, R128, R129). -/
theorem acceptChange_opens {p : ChangePlan} {first : Berth} (hh : s.rack.holder = none) (hm : s.rack.message = none)
    (hp : p.drop.or p.target = some first) :
    (acceptChange s arm p).sequencer.get arm =
      { state := if p.drop.isSome then .dropOpening else .pickOpening, drop := p.drop, target := p.target, corridor := none,
        portMark := some first.station, dropUnconfirmed := false, phaseTimer := s.phaseExpiry } ∧
    (acceptChange s arm p).rack = { s.rack with
      holder := some arm, nextTag := s.rack.nextTag + 1
      message := some { sender := arm, tag := s.rack.nextTag, command := .openPort, station := first.station, phase := .pending } } := by
  generalize hu : (queuedFor s arm p).setRack { s.rack with holder := some arm } = u
  have hget : u.sequencer.get arm = { Sequencer.initial with state := .queued, drop := p.drop, target := p.target } := by
    rw [← hu]
    exact queuedFor_get p
  have hopen := grantOpening_first (s := u) (arm := arm) (first := first) (by rw [hget]) (by rw [hget]; exact hp)
  rw [acceptChange_of_free p hh, hu, hopen, enterOpening_eq (by rw [← hu]; rfl) (by rw [← hu]; exact hm)]
  simp only [PerArm.get_put_same, hget]
  rw [← hu]
  exact ⟨rfl, rfl⟩

end

theorem changeProbe_accepted {s : State} {arm : Arm} {x : Nat} {p : ChangePlan} (h : judgeChange s arm x = .accepted p) :
    changeProbe s arm x = (acceptChange s arm p, doneWith []) := by
  simp only [changeProbe, h]

/-- CHANGE PROBE of an accepted change is answered DONE with the change accepted (R127). -/
theorem exec_changeProbe_accepted {s : State} {tag arm i0 i1 i2 : Byte} {which : Arm} {p : ChangePlan} (hs : s.Ready)
    (ha : armOf arm.toNat = some which)
    (hj : judgeChange s which (i0.toNat + 256 * (i1.toNat + 256 * i2.toNat)) = .accepted p) :
    exec (.changeProbe tag [arm, i0, i1, i2]) s =
      .next ((acceptChange s.windowBroken which p).answered tag 0x30 .done .none []) :=
  exec_changeProbe hs ((withArm_some s.windowBroken [i0, i1, i2] _ ha).trans (changeProbe_accepted (s := s.windowBroken) hj))

/-! ### Reports during the change (R111) -/

section
variable {s : State} {arm : Arm} {r : ProbeReport}

theorem libraryReport_takeReport (h : (s.sequencer.get arm).state ≠ .idle) :
    libraryReport s arm r = takeReport s arm r (reportAgrees s arm r) := if_neg h

theorem libraryReport_dropCorridor (hq : (s.sequencer.get arm).state = .dropCorridor) (hr : r.identity = none) :
    libraryReport s arm r = dropReleased s arm r := by
  rw [libraryReport_takeReport (by simp [hq])]
  simp only [takeReport, hq, hr]

theorem libraryReport_pickCorridor_detached (hq : (s.sequencer.get arm).state = .pickCorridor) (hr : r.identity = none) :
    libraryReport s arm r = s := by
  rw [libraryReport_takeReport (by simp [hq])]
  simp only [takeReport, hq, hr]

theorem libraryReport_pickCorridor {x : Nat} (hq : (s.sequencer.get arm).state = .pickCorridor) (hr : r.identity = some x)
    (ha : s.active.get arm = .none) : libraryReport s arm r = pickAttached s arm x := by
  rw [libraryReport_takeReport (by simp [hq])]
  simp [takeReport, hq, hr, reportAgrees, ha]

/-- A report that agrees changes nothing, but for a DETACHED one in DROP_CORRIDOR, which the drop awaits (R132). -/
theorem libraryReport_agrees (hi : (s.sequencer.get arm).state ≠ .idle) (ha : reportAgrees s arm r = true)
    (hd : (s.sequencer.get arm).state = .dropCorridor → r.identity ≠ none) : libraryReport s arm r = s := by
  rw [libraryReport_takeReport hi, ha]
  unfold takeReport
  split
  · rfl
  · exact absurd ‹r.identity = none› (hd ‹_›)
  · rfl
  · exact if_pos rfl
  · exact if_pos rfl

/-- Outside IDLE and the corridor states a report that does not agree is a mount change and fails the change (R139). -/
theorem libraryReport_mountFails (hq : (s.sequencer.get arm).state ∉ [SeqState.idle, .dropCorridor, .pickCorridor])
    (ha : reportAgrees s arm r = false) : libraryReport s arm r = failChange (mountChange s arm r) arm .wrongProbe := by
  simp only [List.mem_cons, List.not_mem_nil, or_false, not_or] at hq
  obtain ⟨hi, hd, hp⟩ := hq
  rw [libraryReport_takeReport hi, ha]
  unfold takeReport
  split
  · exact absurd ‹_› hi
  · exact absurd ‹_› hd
  · exact absurd ‹_› hp
  · exact absurd ‹_› hp
  · exact if_neg Bool.false_ne_true

/-- A change fails in QUEUED (R141). -/
theorem failChange_of_queued (h : (s.sequencer.get arm).state = .queued) (c : FailureCause) : failChange s arm c =
    { s with
      rack := withdrawRack s.rack arm
      notices := s.notices.enter .changeFailed (.arm arm) (failureCode c)
      sequencer := s.sequencer.put arm Sequencer.initial } := by
  simp only [failChange, h]
  rfl

/-! ### The drop released (R132) -/

/-- The probe to drop is released at its station: IN_RACK, not yet confirmed. -/
theorem dropReleased_known {d : Berth} (hd : (s.sequencer.get arm).drop = some d) (ha : s.active.get arm = .known d.index) :
    dropReleased s arm r = startPhase (setActive (setLocation s d.index .inRack) arm .none) arm
      { s.sequencer.get arm with dropUnconfirmed := true } .dropLeaving := by
  simp [dropReleased, hd, ha]

theorem dropReleased_none (ha : s.active.get arm = .none) :
    dropReleased s arm r = startPhase s arm (s.sequencer.get arm) .dropLeaving := by
  simp only [dropReleased, ha]

/-! ### The target attached (R136) -/

section
variable {x : Nat} {b : Berth} {e : LibraryEntry} (ht : (s.sequencer.get arm).target = some b)
  (he : Table.entry s.library b.index = some e)
include ht he

theorem pickAttached_target (hx : e.identity = x) (hl : e.location ≠ .mounted (otherArm arm)) :
    pickAttached s arm x = startPhase (setActive (setLocation s b.index (.mounted arm)) arm (.known b.index)) arm
      (s.sequencer.get arm) .pickLeaving := by
  simp only [pickAttached, ht, he, hx, if_true, if_neg hl]

theorem pickAttached_taken (hx : e.identity = x) (hl : e.location = .mounted (otherArm arm)) :
    pickAttached s arm x =
      failChange ((takeFromOther s arm b.index x).raise .probeMountedManual (.arm arm) 0) arm .wrongProbe := by
  simp only [pickAttached, ht, he, hx, hl, if_true]

theorem pickAttached_wrong (hx : e.identity ≠ x) :
    pickAttached s arm x = failChange (wrongProbeUpdate s arm b.index x) arm .wrongProbe := by
  simp only [pickAttached, ht, he, if_neg hx]

end

/-! ### Another identity attached (R137) -/

/-- The lookup of another identity than the target's finds what it found before the target was lost. -/
theorem findIdentity_missedTarget {x i : Nat} {e : LibraryEntry} (he : Table.entry s.library i = some e) (hx : e.identity ≠ x) :
    findIdentity (modifyEntry s i (missedTarget arm)) x = findIdentity s x := by
  have hkeeps : (missedTarget arm e).identity = e.identity := by unfold missedTarget; split <;> rfl
  have hne : (e.identity == x) = false := by simpa using hx
  rw [modifyEntry_of_some _ he]
  exact Table.find?_store (by rw [hkeeps, hne]) fun w hw => by rwa [← Option.some.inj (he.symm.trans hw)]

theorem wrongProbeUpdate_sequencer (arm : Arm) (i x : Nat) : (wrongProbeUpdate s arm i x).sequencer = s.sequencer := by
  rw [wrongProbeUpdate_eq, mountIdentity_sequencer, modifyEntry_sequencer]

section
variable {x target : Nat} {e : LibraryEntry} (he : Table.entry s.library target = some e) (hx : e.identity ≠ x)
include he hx

theorem wrongProbeUpdate_unfound (hf : findIdentity s x = none) :
    wrongProbeUpdate s arm target x = setActive (modifyEntry s target (missedTarget arm)) arm (.unknown x) := by
  rw [wrongProbeUpdate_eq, mountIdentity_of_none ((findIdentity_missedTarget he hx).trans hf)]

variable {i : Nat} {found : LibraryEntry} (hf : findIdentity s x = some (i, found))
include hf

theorem wrongProbeUpdate_entry_ne {j : Nat} (hj : j ≠ i) :
    Table.entry (wrongProbeUpdate s arm target x).library j = Table.entry (modifyEntry s target (missedTarget arm)).library j := by
  rw [wrongProbeUpdate_eq]
  refine mountIdentity_entry_ne _ _ _ fun k g hk => ?_
  rw [findIdentity_missedTarget he hx, hf] at hk
  cases hk
  exact hj

theorem wrongProbeUpdate_free (hl : found.location ≠ .mounted (otherArm arm)) :
    wrongProbeUpdate s arm target x = mountSuspect (modifyEntry s target (missedTarget arm)) arm i := by
  rw [wrongProbeUpdate_eq, mountIdentity_of_free ((findIdentity_missedTarget he hx).trans hf) hl]

theorem wrongProbeUpdate_taken (hl : found.location = .mounted (otherArm arm)) :
    wrongProbeUpdate s arm target x = takeFromOther (modifyEntry s target (missedTarget arm)) arm i x := by
  rw [wrongProbeUpdate_eq, mountIdentity_of_other ((findIdentity_missedTarget he hx).trans hf) hl]

end

/-! ### The effects of taking a probe from the other arm (R114) -/

theorem takeFromOther_active (i x : Nat) :
    (takeFromOther s arm i x).active = (s.active.put (otherArm arm) .none).put arm (.unknown x) := by
  simp [takeFromOther, setLocation]

theorem takeFromOther_notices (i x : Nat) :
    (takeFromOther s arm i x).notices = s.notices.enter .probeLost (.arm (otherArm arm)) 0 := by
  simp [takeFromOther, setLocation]

theorem takeFromOther_sequencer (i x : Nat) : (takeFromOther s arm i x).sequencer = s.sequencer := by
  simp [takeFromOther, setLocation]

theorem takeFromOther_entry {i x : Nat} {e : LibraryEntry} (he : Table.entry s.library i = some e) :
    Table.entry (takeFromOther s arm i x).library i = some { e with location := .lost } := by
  simpa [takeFromOther, setLocation] using modifyEntry_entry_same _ he

theorem mountSuspect_entry {i : Nat} {e : LibraryEntry} (he : Table.entry s.library i = some e) :
    Table.entry (mountSuspect s arm i).library i = some { e with
      location := .mounted arm
      calibration := if e.calibration = .calibrated then .suspect else e.calibration } := by
  simpa [mountSuspect, suspectCalibration_eq] using
    modifyEntry_entry_same (fun e => { e with location := .mounted arm, calibration := suspectCalibration e.calibration }) he

end

end Sys2Proof.Machine
end

section
/-! Reports in PICK_CORRIDOR, and the settling of O35 (R127 to R129, R132, R136, R137, R139). -/

namespace Sys2Proof.Machine

section
variable {s : State} {arm : Arm} {r : ProbeReport}

/-! ### DROP_CORRIDOR (R132) -/

/-- DETACHED drops the probe at its station, unconfirmed. -/
theorem libraryReport_drops {d : Berth} (hq : (s.sequencer.get arm).state = .dropCorridor) (hr : r.identity = none)
    (hd : (s.sequencer.get arm).drop = some d) (ha : s.active.get arm = .known d.index) :
    let t := libraryReport s arm r
    t.active.get arm = .none ∧
    Table.entry t.library d.index = (Table.entry s.library d.index).map (fun e => { e with location := .inRack }) ∧
    (∀ j, j ≠ d.index → Table.entry t.library j = Table.entry s.library j) ∧
    t.sequencer.get arm = { s.sequencer.get arm with state := .dropLeaving, dropUnconfirmed := true, phaseTimer := s.phaseExpiry } ∧
    t.notices = s.notices ∧ t.rack = s.rack ∧ envelopeRadius t arm = 0 := by
  dsimp only
  rw [libraryReport_dropCorridor hq hr, dropReleased_known hd ha]
  generalize hu : setActive (setLocation s d.index .inRack) arm .none = u
  have hreport : u.sansReports = s.sansReports := by rw [← hu, setActive_sansReports, setLocation_sansReports]
  have f {α : Type} (g : State → α) : g u.sansReports = g s.sansReports := congrArg g hreport
  have hactive : u.active.get arm = .none := by rw [← hu, setActive_active, PerArm.get_put_same]
  have htimer : u.phaseExpiry = s.phaseExpiry := f State.phaseExpiry
  refine ⟨hactive, ?_, fun j hj => ?_, ?_, ?_, ?_, ?_⟩
  · rw [startPhase, State.setSequencer_library, ← hu, setActive_library]
    cases he : Table.entry s.library d.index with
    | none => rw [setLocation, modifyEntry_of_none _ he, he]; rfl
    | some e => exact modifyEntry_entry_same _ he
  · rw [startPhase, State.setSequencer_library, ← hu, setActive_library]
    exact modifyEntry_entry_ne s _ hj
  · rw [startPhase, State.setSequencer_sequencer, PerArm.get_put_same, ← htimer]
    rfl
  · exact hu ▸ by simp [startPhase, setLocation]
  · exact hu ▸ by simp [startPhase, setLocation]
  · have hnone : (startPhase u arm { s.sequencer.get arm with dropUnconfirmed := true } .dropLeaving).active.get arm = .none := hactive
    simp only [envelopeRadius, hnone]

/-- With the record NONE already, the library stays as it stands. -/
theorem libraryReport_drops_none (hq : (s.sequencer.get arm).state = .dropCorridor) (hr : r.identity = none)
    (ha : s.active.get arm = .none) : libraryReport s arm r =
      { s with sequencer := s.sequencer.put arm { s.sequencer.get arm with state := .dropLeaving, phaseTimer := s.phaseExpiry } } := by
  rw [libraryReport_dropCorridor hq hr, dropReleased_none ha]
  rfl

/-! ### PICK_CORRIDOR (R136, R137) -/

section
variable {b : Berth} {e : LibraryEntry} {x : Nat} (hq : (s.sequencer.get arm).state = .pickCorridor) (hr : r.identity = some x)
  (ha : s.active.get arm = .none) (ht : (s.sequencer.get arm).target = some b) (he : Table.entry s.library b.index = some e)
include hq

/-- After the effects of a report in PICK_CORRIDOR the change fails as in a phase. -/
theorem pickCorridor_failedFor {u : State} (hu : u.sequencer = s.sequencer) :
    u.FailedFor (failChange u arm .wrongProbe) arm .wrongProbe :=
  failChange_failedFor (by rw [hu, hq]; rfl) _

include hr ha ht he

/-- ATTACHED with the target's identity mounts it. -/
theorem libraryReport_mounts (hx : e.identity = x) (hl : e.location ≠ .mounted (otherArm arm)) :
    let t := libraryReport s arm r
    t.active.get arm = .known b.index ∧ Table.entry t.library b.index = some { e with location := .mounted arm } ∧
    (∀ j, j ≠ b.index → Table.entry t.library j = Table.entry s.library j) ∧
    t.sequencer.get arm = { s.sequencer.get arm with state := .pickLeaving, phaseTimer := s.phaseExpiry } ∧
    t.notices = s.notices ∧ t.rack = s.rack := by
  dsimp only
  rw [libraryReport_pickCorridor hq hr ha, pickAttached_target ht he hx hl]
  generalize hu : setActive (setLocation s b.index (.mounted arm)) arm (.known b.index) = u
  have hreport : u.sansReports = s.sansReports := by rw [← hu, setActive_sansReports, setLocation_sansReports]
  have f {α : Type} (g : State → α) : g u.sansReports = g s.sansReports := congrArg g hreport
  have htimer : u.phaseExpiry = s.phaseExpiry := f State.phaseExpiry
  refine ⟨?_, ?_, fun j hj => ?_, ?_, ?_, ?_⟩
  · exact hu ▸ by simp [startPhase]
  · rw [startPhase, State.setSequencer_library, ← hu, setActive_library]
    exact modifyEntry_entry_same _ he
  · rw [startPhase, State.setSequencer_library, ← hu, setActive_library]
    exact modifyEntry_entry_ne s _ hj
  · rw [startPhase, State.setSequencer_sequencer, PerArm.get_put_same, ← htimer]
    rfl
  · exact hu ▸ by simp [startPhase, setLocation]
  · exact hu ▸ by simp [startPhase, setLocation]

/-- ATTACHED with the target's identity while the library has it on the other arm. -/
theorem libraryReport_targetTaken (hx : e.identity = x) (hl : e.location = .mounted (otherArm arm)) :
    let t := libraryReport s arm r
    t.active = (s.active.put (otherArm arm) .none).put arm (.unknown x) ∧
    Table.entry t.library b.index = some { e with location := .lost } ∧ (t.sequencer.get arm).state.failed = true ∧
    t.notices = ((s.notices.enter .probeLost (.arm (otherArm arm)) 0).enter .probeMountedManual (.arm arm) 0).enter
      .changeFailed (.arm arm) 6 := by
  dsimp only
  have hfail := pickCorridor_failedFor hq (u := (takeFromOther s arm b.index x).raise .probeMountedManual (.arm arm) 0)
    (takeFromOther_sequencer _ _)
  rw [libraryReport_pickCorridor hq hr ha, pickAttached_taken ht he hx hl, hfail.active, hfail.library, hfail.notices]
  refine ⟨takeFromOther_active _ _, takeFromOther_entry he, hfail.failed, ?_⟩
  rw [← takeFromOther_notices b.index x]
  rfl

/-- ATTACHED with another identity: the wrong-probe update, and the change fails. -/
theorem libraryReport_wrong (hx : e.identity ≠ x) :
    (wrongProbeUpdate s arm b.index x).FailedFor (libraryReport s arm r) arm .wrongProbe := by
  rw [libraryReport_pickCorridor hq hr ha, pickAttached_wrong ht he hx]
  exact pickCorridor_failedFor hq (wrongProbeUpdate_sequencer _ _ _)

theorem libraryReport_wrong_unfound (hx : e.identity ≠ x) (hf : findIdentity s x = none) :
    let t := libraryReport s arm r
    t.active.get arm = .unknown x ∧ (t.sequencer.get arm).state.failed = true ∧
    t.notices = s.notices.enter .changeFailed (.arm arm) 6 ∧
    (e.location ≠ .mounted (otherArm arm) → Table.entry t.library b.index = some { e with location := .lost }) := by
  dsimp only
  have hfail := libraryReport_wrong hq hr ha ht he hx
  rw [hfail.active, hfail.library, hfail.notices, wrongProbeUpdate_unfound he hx hf, setActive_active, setActive_library,
    setActive_notices, modifyEntry_notices, PerArm.get_put_same, modifyEntry_entry_same _ he]
  exact ⟨rfl, hfail.failed, rfl, fun hl => by rw [missedTarget, if_neg hl]⟩

theorem libraryReport_wrong_found {i : Nat} {found : LibraryEntry} (hx : e.identity ≠ x) (hf : findIdentity s x = some (i, found))
    (hi : Table.entry s.library i = some found) (hne : i ≠ b.index) :
    let t := libraryReport s arm r
    (t.sequencer.get arm).state.failed = true ∧
    Table.entry t.library b.index = some (if e.location = .mounted (otherArm arm) then e else { e with location := .lost }) ∧
    (∀ j, j ≠ b.index → j ≠ i → Table.entry t.library j = Table.entry s.library j) ∧
    (found.location ∈ [Location.inRack, .outside, .lost] →
      t.active = s.active.put arm (.known i) ∧
      Table.entry t.library i = some { found with
        location := .mounted arm
        calibration := if found.calibration = .calibrated then .suspect else found.calibration } ∧
      t.notices = s.notices.enter .changeFailed (.arm arm) 6) ∧
    (found.location = .mounted (otherArm arm) →
      t.active = (s.active.put (otherArm arm) .none).put arm (.unknown x) ∧
      Table.entry t.library i = some { found with location := .lost } ∧
      t.notices = (s.notices.enter .probeLost (.arm (otherArm arm)) 0).enter .changeFailed (.arm arm) 6) := by
  dsimp only
  have hfail := libraryReport_wrong hq hr ha ht he hx
  have hmissed : Table.entry (modifyEntry s b.index (missedTarget arm)).library i = some found :=
    (modifyEntry_entry_ne s _ hne).trans hi
  rw [hfail.active, hfail.library, hfail.notices]
  refine ⟨hfail.failed, ?_, fun j hj hji => ?_, fun hl => ?_, fun hl => ?_⟩
  · exact (wrongProbeUpdate_entry_ne he hx hf hne.symm).trans (modifyEntry_entry_same _ he)
  · exact (wrongProbeUpdate_entry_ne he hx hf hji).trans (modifyEntry_entry_ne s _ hj)
  · have hfree : found.location ≠ .mounted (otherArm arm) := fun hm => by simp [hm] at hl
    rw [wrongProbeUpdate_free he hx hf hfree]
    exact ⟨by simp [mountSuspect], mountSuspect_entry hmissed, by simp [mountSuspect, failureCode]⟩
  · rw [wrongProbeUpdate_taken he hx hf hl, takeFromOther_active, takeFromOther_notices, modifyEntry_active, modifyEntry_notices]
    exact ⟨rfl, takeFromOther_entry hmissed, rfl⟩

end

/-! ### The other states (R139) -/

/-- The change fails in QUEUED or in a phase: what the failure raises and leaves. -/
theorem failChange_underWay (hq : (s.sequencer.get arm).state = .queued ∨ (s.sequencer.get arm).state.isPhase = true) (c : FailureCause) :
    (failChange s arm c).library = s.library ∧ (failChange s arm c).active = s.active ∧
    ((failChange s arm c).sequencer.get arm).state.failed = true ∧
    (failChange s arm c).notices = s.notices.enter .changeFailed (.arm arm) (failureCode c) := by
  rcases hq with hq | hq
  · rw [failChange_of_queued hq]
    exact ⟨rfl, rfl, by simp [Sequencer.initial, SeqState.failed], rfl⟩
  · have hfail := failChange_failedFor hq c
    exact ⟨hfail.library, hfail.active, hfail.failed, hfail.notices⟩

theorem libraryReport_fails
    (hq : (s.sequencer.get arm).state ∈
      [SeqState.queued, .dropOpening, .pickOpening, .dropLeaving, .pickLeaving, .dropClosing, .pickClosing])
    (ha : reportAgrees s arm r = false) :
    let t := libraryReport s arm r
    t.library = (mountChange s arm r).library ∧ t.active = (mountChange s arm r).active ∧ (t.sequencer.get arm).state.failed = true ∧
    t.notices = (mountChange s arm r).notices.enter .changeFailed (.arm arm) 6 := by
  have hstates : ∀ q ∈ [SeqState.queued, .dropOpening, .pickOpening, .dropLeaving, .pickLeaving, .dropClosing, .pickClosing],
      q ∉ [SeqState.idle, .dropCorridor, .pickCorridor] ∧ (q = .queued ∨ q.isPhase = true) := by decide
  obtain ⟨hother, hphase⟩ := hstates _ hq
  dsimp only
  rw [libraryReport_mountFails hother ha]
  exact failChange_underWay (by rwa [mountChange_sequencer]) .wrongProbe

/-- On the way back the mount change fails nothing more (R141). -/
theorem libraryReport_back (hq : (s.sequencer.get arm).state ∈ [SeqState.winding, .clearing, .reclosing])
    (ha : reportAgrees s arm r = false) : libraryReport s arm r = mountChange s arm r := by
  have hstates : ∀ q ∈ [SeqState.winding, .clearing, .reclosing], q ∉ [SeqState.idle, .dropCorridor, .pickCorridor] := by decide
  rw [libraryReport_mountFails (hstates _ hq) ha, failChange_of_back (by rwa [mountChange_sequencer])]

end

/-- Settles O35: the request is accepted and granted or left waiting; each report then by the state of its sequencer. -/
theorem changeProbeAccepted : Obligations.ChangeProbeAccepted := by
  refine ⟨fun s tag arm i0 i1 i2 which p first hs ha hj hp => ?_, fun s arm r => ?_⟩
  · refine ⟨_, exec_changeProbe_accepted hs ha hj, ?_⟩
    generalize hu : acceptChange s.windowBroken which p = u
    have f {α : Type} (g : State → α) : g u.sansMoves = g (queuedFor s.windowBroken which p).sansMoves :=
      congrArg g (hu ▸ acceptChange_sansMoves p)
    have hlink : u.link = s.link := f State.link
    refine ⟨f State.capture, hu ▸ acceptChange_other p, f State.supervision, f State.active,
      ⟨f State.setup, f State.channels, f State.axes, f State.map, f State.zones, f State.library, f State.plan⟩, f State.queue,
      hu ▸ acceptChange_notices p, f State.service, ?_, fun hh hm => ?_, fun hh hw => ?_⟩
    · simp only [State.answered, hlink]
    · exact hu ▸ acceptChange_opens (s := s.windowBroken) hh hm hp
    · have heq := hu.symm.trans (acceptChange_of_held (s := s.windowBroken) p hh hw)
      exact ⟨(congrArg (fun v => v.sequencer.get which) heq).trans (queuedFor_get p), congrArg State.rack heq⟩
  · exact ⟨fun d hq hr hd => ⟨libraryReport_drops hq hr hd, libraryReport_drops_none hq hr⟩,
      fun b e x hq hr ha ht he => ⟨libraryReport_mounts hq hr ha ht he, libraryReport_targetTaken hq hr ha ht he,
        libraryReport_wrong_unfound hq hr ha ht he, fun i found hx hf hi hne => libraryReport_wrong_found hq hr ha ht he hx hf hi hne⟩,
      libraryReport_pickCorridor_detached, libraryReport_agrees, libraryReport_fails, libraryReport_back⟩

end Sys2Proof.Machine
end

section
/-! A phase timer expires: the change of its phase fails (R129, R141). -/

namespace Sys2Proof.Machine

section
variable {s : State} {arm : Arm}

/-- A stopped timer does not expire (log 5). -/
theorem phaseTimerExpires_of_stopped (ht : (s.sequencer.get arm).phaseTimer = none) : phaseTimerExpires s arm = s := by
  simp only [phaseTimerExpires, ht]

/-- A timer that runs in a phase state brings the reference to its time, and the phase fails (R129; log 5). -/
theorem phaseTimerExpires_of_phase {at_ : Nat} (ht : (s.sequencer.get arm).phaseTimer = some at_)
    (hq : (s.sequencer.get arm).state.isPhase = true) : phaseTimerExpires s arm = failPhase (s.reach at_) arm .phaseTimeout := by
  simp only [phaseTimerExpires, ht, if_pos hq]
  exact failChange_of_phase (s := s.reach at_) hq _

end

/-- Settles O24: what the failure of a phase does, at the reference brought to the expiry; the other blocks stand, since it moves sequencers,
the rack channel and the notice list alone. -/
theorem phaseExpiry : Obligations.PhaseExpiry := by
  intro s arm hpin
  have runs : exec (.phaseTimerExpiry arm) s = .next (phaseTimerExpires s arm) :=
    congrArg Host.Outcome.next (State.unlessReset_runs _ hpin)
  rw [runs]
  refine ⟨fun ht => congrArg Host.Outcome.next (phaseTimerExpires_of_stopped ht), fun at_ ht hq => ⟨_, rfl, ?_⟩⟩
  rw [phaseTimerExpires_of_phase ht hq]
  obtain ⟨failed, stopped⟩ := failPhase_failed (s.reach at_) arm .phaseTimeout
  have f {α : Type} (g : State → α) : g (failPhase (s.reach at_) arm .phaseTimeout).sansMoves = g (s.reach at_).sansMoves :=
    congrArg g (failPhase_sansMoves _ _ _)
  exact ⟨f State.now, failPhase_notices _ _ _, failPhase_changeFails _ _ _, failed, stopped,
    f State.library, f State.active, f State.supervision, f State.link⟩

end Sys2Proof.Machine
end

section
/-! The record of a commit: the head at the trigger, the workpiece point, and the flags (R153 to R158). -/

namespace Sys2Proof.Machine

/-! ### The workpiece point -/

theorem clampPosition_eq (v : Int) : clampPosition v = max (-549755813887) (min 549755813887 v) := by
  unfold clampPosition Config.positionLimit
  split
  · omega
  · split <;> omega

theorem withinPosition_eq_false_iff (v : Int) : withinPosition v = false ↔ 549755813887 < v.natAbs := by
  rw [← Bool.not_eq_true, withinPosition_iff]
  omega

theorem Triple.any_eq_any_get {α : Type} (f : α → Bool) (t : Triple α) : t.any f = [Axis.x, .y, .z].any fun ax => f (t.get ax) := by
  simp [Triple.any, Triple.get, Bool.or_assoc]

theorem Triple.not_all {α : Type} (f : α → Bool) (t : Triple α) : (!t.all f) = t.any fun x => !f x := by
  simp [Triple.all, Triple.any]

theorem Triple.zip_get {α β γ : Type} (f : α → β → γ) (p : Triple α) (q : Triple β) (ax : Axis) :
    (Triple.zip f p q).get ax = f (p.get ax) (q.get ax) := by cases ax <;> rfl

section
variable (s : State) (arm : Arm) (e : LibraryEntry) (p : Triple Int)

theorem tipCentre_get (ax : Axis) : (tipCentre s arm e p).get ax =
    s.commonOn arm ⟨s.tipOn arm e p.get .x, s.tipOn arm e p.get .y, s.tipOn arm e p.get .z⟩ ax := toCommon_get s arm _ ax

theorem workpiecePoint_get (ax : Axis) : (workpiecePoint s arm (tipCentre s arm e p)).get ax = s.workpieceOn arm e p.get ax := by
  simp only [workpiecePoint, Triple.zip_get, tipCentre_get]
  rfl

theorem workpiecePoint_clamped : (workpiecePoint s arm (tipCentre s arm e p)).map clampPosition = s.pointOf arm e p.get := by
  have on (ax : Axis) := workpiecePoint_get s arm e p ax
  simp only [State.pointOf, ← on, ← clampPosition_eq]
  rfl

theorem workpiecePoint_beyond : (!(workpiecePoint s arm (tipCentre s arm e p)).all withinPosition) = s.pointClamped arm e p.get := by
  have beyond (v : Int) : (!withinPosition v) = decide (549755813887 < v.natAbs) := by
    rw [Bool.eq_iff_iff, Bool.not_eq_true', withinPosition_eq_false_iff, decide_eq_true_iff]
  simp only [State.pointClamped, Triple.not_all, Triple.any_eq_any_get, beyond, workpiecePoint_get]

end

theorem State.pointOf_within (s : State) (arm : Arm) (e : LibraryEntry) (head : Axis → Int) :
    (s.pointOf arm e head).all withinPosition = true := by
  simp only [State.pointOf, ← clampPosition_eq, Triple.all, withinPosition_clampPosition, Bool.and_self]

/-! ### The head at the trigger -/

theorem triggerHead_of_none {l : TouchLatch} (h : l.interpolates = none) (limit : Nat) : triggerHead limit l = fallbackHead l.current := by
  unfold TouchLatch.interpolates at h
  unfold triggerHead
  cases hp : l.previous with
  | none => rfl
  | some prev =>
    simp only [hp] at h
    split at h
    · exact if_pos ‹_›
    · cases h

theorem triggerHead_of_some {l : TouchLatch} {prev : Triple Sample} (h : l.interpolates = some prev) (limit : Nat) :
    triggerHead limit l = interpolatedHead limit l.edge prev l.current := by
  unfold TouchLatch.interpolates at h
  unfold triggerHead
  cases hp : l.previous with
  | none => simp [hp] at h
  | some q =>
    simp only [hp] at h
    split at h
    · cases h
    · obtain rfl := Option.some.inj h
      exact if_neg ‹_›

theorem triggerHead_point (limit : Nat) (l : TouchLatch) : (triggerHead limit l).point.get = l.headOn := by
  funext ax
  unfold TouchLatch.headOn
  cases h : l.interpolates with
  | none => simp [triggerHead_of_none h, fallbackHead]
  | some prev => simp [triggerHead_of_some h, interpolatedHead, Triple.zip_get, interpolate]

theorem decide_lt_largestMagnitude (n : Nat) (d : Triple Int) :
    decide (n < largestMagnitude d) = [Axis.x, .y, .z].any fun ax => decide (n < (d.get ax).natAbs) := by
  rw [Bool.eq_iff_iff, decide_eq_true_iff]
  simp only [List.any_cons, List.any_nil, Bool.or_false, Bool.or_eq_true, decide_eq_true_iff, largestMagnitude, lt_max_iff, or_assoc]
  rfl

/-! ### The records -/

/-- The record formed of a latched touch is the TOUCH record (R153 to R156). -/
theorem formRecord_touch (s : State) (arm : Arm) (l : TouchLatch) (e : LibraryEntry) :
    formRecord s arm e .touch l.cycle l.edge l.armHeld (triggerHead (s.setup.capture.get arm).speedLimit l) = s.touchRecord arm l e := by
  simp only [formRecord, State.touchRecord, workpiecePoint_clamped, workpiecePoint_beyond, triggerHead_point]
  cases h : l.interpolates with
  | none => simp [triggerHead_of_none h, fallbackHead, Triple.any, Bool.or_assoc]
  | some prev =>
    simp [triggerHead_of_some h, interpolatedHead, Triple.any, Triple.zip_get, decide_lt_largestMagnitude, Bool.or_assoc, Bool.or_comm,
      Bool.or_left_comm]

/-- The record formed of the current position is the STUCK record (R157). -/
theorem formRecord_stuck (s : State) (arm : Arm) (e : LibraryEntry) (cycle : CycleNumber) :
    formRecord s arm e .stuck cycle 1023 ((s.supervision.get arm).state == .held) (stuckHead (currentPosition s arm)) =
      s.stuckRecord arm e cycle := by
  have point : (stuckHead (currentPosition s arm)).point.get = fun ax => ((s.head.get arm).record.get ax).last.getD 0 := by
    funext ax
    simp [stuckHead, fallbackHead, currentPosition, sampleOf]
  simp only [formRecord, State.stuckRecord, workpiecePoint_clamped, workpiecePoint_beyond, point]
  rfl

/-! ### Commits -/

/-- A record that meets no RUNNING walk, or is not a TOUCH, goes to the queue (R158, R167). -/
theorem handRecord_of_passed {s : State} {r : CaptureRecord} (h : r.kind = .stuck ∨ (s.walk.get r.arm).state ≠ .running) (radius : Nat) :
    handRecord s r radius = (enqueueRecord s r).1 := by
  unfold handRecord
  dsimp only
  split
  · rename_i hk hw _
    simp [hk, hw] at h
  · rfl

section
variable {s : State} {arm : Arm} {e : LibraryEntry}

theorem commitTouch_of_entry {l : TouchLatch} (he : Table.entry s.library l.probe = some e) :
    commitTouch s arm l = handRecord s (s.touchRecord arm l e) e.radius := by
  simp only [commitTouch, he, formRecord_touch]

theorem commitStuck_of_entry {i : Nat} (hp : (s.capture.get arm).probe = some i) (he : Table.entry s.library i = some e)
    (cycle : CycleNumber) : commitStuck s arm cycle = (enqueueRecord s (s.stuckRecord arm e cycle)).1 := by
  simp only [commitStuck, hp, Option.bind_some, he, formRecord_stuck]
  exact handRecord_of_passed (.inl rfl) _

end

end Sys2Proof.Machine
end

section
/-! The evaluation of an arm: the state steps of capture, the suspension judgement and the previous position (R146, R148 to R152). -/

namespace Sys2Proof.Machine

section
variable {s : State} {arm : Arm} {cycle : CycleNumber} {r : ProbeReport}

/-! ### The steps in ARMED and CONFIRMING (R149, R150) -/

theorem captureStep_armed (h : (s.capture.get arm).state = .armed) :
    captureStep s arm (some r) cycle = armedStep s arm r cycle ∧ captureStep s arm none cycle = s := by
  simp only [captureStep, h, and_self]

theorem armedStep_quiet (hr : r.deflected = false) : armedStep s arm r cycle = s := by simp [armedStep, hr]

theorem armedStep_latches {probe : Nat} (hr : r.deflected = true) (hp : (s.capture.get arm).probe = some probe)
    (hd : 1 ≤ (s.setup.capture.get arm).debounce) :
    armedStep s arm r cycle = s.setCapture arm
      { s.capture.get arm with
        state := .confirming, count := (s.setup.capture.get arm).debounce, latch := some (latchOf s arm r cycle probe) } := by
  have hd0 : (s.setup.capture.get arm).debounce ≠ 0 := Nat.one_le_iff_ne_zero.mp hd
  simp only [armedStep, hr, hp, hd0, if_true, if_false, Option.getD_some]

theorem armedStep_commits {probe : Nat} {e : LibraryEntry} (hr : r.deflected = true) (hp : (s.capture.get arm).probe = some probe)
    (hd : (s.setup.capture.get arm).debounce = 0) (he : Table.entry s.library probe = some e) :
    armedStep s arm r cycle =
      handRecord (s.setCapture arm { s.capture.get arm with state := .deflected, count := 0 })
        (s.touchRecord arm (latchOf s arm r cycle probe) e) e.radius := by
  simp only [armedStep, hr, hp, hd, if_true, Option.getD_some]
  exact commitTouch_of_entry (l := latchOf s arm r cycle probe) he

theorem captureStep_confirming (h : (s.capture.get arm).state = .confirming) :
    (r.deflected = true → captureStep s arm (some r) cycle = confirmTouch s arm) ∧
    (r.deflected = false → captureStep s arm (some r) cycle = bounceTouch s arm) ∧ captureStep s arm none cycle = bounceTouch s arm := by
  refine ⟨fun hr => ?_, fun hr => ?_, ?_⟩
  · simp [captureStep, h, hr]
  · simp [captureStep, h, hr]
  · simp only [captureStep, h]

theorem confirmTouch_counts (hn : 2 ≤ (s.capture.get arm).count) :
    confirmTouch s arm = s.setCapture arm { s.capture.get arm with count := (s.capture.get arm).count - 1 } :=
  if_neg (by omega)

theorem confirmTouch_commits {l : TouchLatch} {e : LibraryEntry} (hn : (s.capture.get arm).count ≤ 1)
    (hl : (s.capture.get arm).latch = some l) (he : Table.entry s.library l.probe = some e) :
    confirmTouch s arm =
      handRecord (s.setCapture arm { s.capture.get arm with state := .deflected, count := 0, latch := none }) (s.touchRecord arm l e)
        e.radius := by
  simp only [confirmTouch, hn, hl, if_true]
  exact commitTouch_of_entry (l := l) he

/-! ### The steps in DEFLECTED, REARMING and SUSPENDED (R147, R151, R152, R157) -/

theorem captureStep_deflected (h : (s.capture.get arm).state = .deflected) :
    captureStep s arm (some r) cycle = deflectedStep s arm r cycle ∧ captureStep s arm none cycle = s := by
  simp only [captureStep, h, and_self]

theorem deflectedStep_quiet (hr : r.deflected = false) :
    deflectedStep s arm r cycle = enterRearming s arm { s.capture.get arm with stuckCommitted := false } := by
  simp [deflectedStep, hr]

theorem deflectedStep_counts (hr : r.deflected = true)
    (h : bump16 (s.capture.get arm).count < (s.setup.capture.get arm).stuckLimit ∨ (s.capture.get arm).stuckCommitted = true) :
    deflectedStep s arm r cycle = s.setCapture arm { s.capture.get arm with count := bump16 (s.capture.get arm).count } := by
  unfold deflectedStep
  dsimp only
  rw [if_pos hr, if_neg]
  intro hc
  rw [Bool.and_eq_true, decide_eq_true_iff, Bool.not_eq_true'] at hc
  rcases h with h | h
  · exact absurd hc.1 (Nat.not_le.mpr h)
  · simp [h] at hc

theorem deflectedStep_commits {i : Nat} {e : LibraryEntry} (hr : r.deflected = true)
    (hn : (s.setup.capture.get arm).stuckLimit ≤ bump16 (s.capture.get arm).count) (hc : (s.capture.get arm).stuckCommitted = false)
    (hp : (s.capture.get arm).probe = some i) (he : Table.entry s.library i = some e) :
    deflectedStep s arm r cycle =
      (enqueueRecord
        (s.setCapture arm
          { s.capture.get arm with
            count := bump16 (s.capture.get arm).count, stuckCommitted := true, stucks := bump16 (s.capture.get arm).stucks })
        (s.stuckRecord arm e cycle)).1 := by
  simp only [deflectedStep, hr, hn, hc, decide_true, Bool.not_false, Bool.and_self, if_true]
  refine commitStuck_of_entry (s := s.setCapture arm _) ?_ he cycle
  rwa [State.setCapture_capture, PerArm.get_put_same]

theorem captureStep_rearming (h : (s.capture.get arm).state = .rearming) :
    captureStep s arm (some r) cycle = rearmingStep s arm r ∧ captureStep s arm none cycle = s := by
  simp only [captureStep, h, and_self]

theorem rearmingStep_deflected (hr : r.deflected = true) :
    rearmingStep s arm r = s.setCapture arm { s.capture.get arm with count := 0 } := if_pos hr

theorem rearmingStep_quiet (hr : r.deflected = false) :
    rearmingStep s arm r = s.setCapture arm
      (if (s.setup.capture.get arm).rearm ≤ bump16 (s.capture.get arm).count then { s.capture.get arm with state := .armed, count := 0 }
        else { s.capture.get arm with count := bump16 (s.capture.get arm).count }) := by
  simp only [rearmingStep, hr, Bool.false_eq_true, if_false, apply_ite (s.setCapture arm)]

theorem captureStep_suspended (h : (s.capture.get arm).state = .suspended) (report : Option ProbeReport) :
    captureStep s arm report cycle = s := by
  simp only [captureStep, h]

/-! ### The suspension judgement (R148) -/

theorem leaveSuspended_of_ne (h : (s.capture.get arm).state ≠ .suspended) : leaveSuspended s arm = s := by
  unfold leaveSuspended
  dsimp only
  split
  · exact absurd ‹_› h
  · rfl

theorem captureReady_eq_some_iff {i : Nat} : captureReady s arm = some i ↔
    (s.supervision.get arm).state ≠ .stopped ∧ (s.sequencer.get arm).state = .idle ∧ s.active.get arm = .known i := by
  unfold captureReady
  split
  · simp [*]
  · split
    · simp [*]
    · cases s.active.get arm <;> simp_all

theorem leaveSuspended_ready {i : Nat} (h : (s.capture.get arm).state = .suspended) (hi : captureReady s arm = some i) :
    leaveSuspended s arm = enterRearming s arm { s.capture.get arm with probe := some i } := by
  simp only [leaveSuspended, h, hi]

theorem leaveSuspended_of_none (h : captureReady s arm = none) : leaveSuspended s arm = s := by
  unfold leaveSuspended
  dsimp only
  split
  · simp [h] at *
  · rfl

/-! ### The previous position (R146) -/

theorem Triple.present_isSome {α : Type} (t : Triple (Option α)) : t.present.isSome = t.all fun x => x.isSome := by
  obtain ⟨x, y, z⟩ := t
  cases x <;> cases y <;> cases z <;> rfl

theorem previousPosition_eq (s : State) (arm : Arm) : previousPosition s arm = s.positionKept arm := by
  have hall : (correctedHead s arm).isSome = (s.head.get arm).record.all fun h => h.last.isSome := Triple.present_isSome _
  unfold previousPosition State.positionKept
  dsimp only
  rw [← hall]
  cases correctedHead s arm <;> rfl

theorem State.positionKept_of_head {t : State} (h : t.head = s.head) : t.positionKept arm = s.positionKept arm := by
  unfold State.positionKept
  rw [h]

/-- The end of an evaluation: the previous position is the corrected head position that the evaluation found. -/
theorem evaluateArm_eq (s : State) (arm : Arm) (report : Option ProbeReport) (cycle : CycleNumber) :
    evaluateArm s arm report cycle =
      let u := captureStep (leaveSuspended s arm) arm report cycle
      u.setCapture arm { u.capture.get arm with previous := s.positionKept arm } := by
  have hhead : (captureStep (leaveSuspended s arm) arm report cycle).head = s.head :=
    ((CaptureKeeps.refl s).evaluateArm (arm := arm) (r := report) (c := cycle)).head
  simp only [evaluateArm, keepPrevious, previousPosition_eq, State.positionKept_of_head hhead]

end

end Sys2Proof.Machine
end

section
/-! What suspends capture: a stop, and a change of an active probe record (R147). A report and the writing of a LIBRARY entry change a record by
`setActive` alone, and touch no capture elsewhere. -/

namespace Sys2Proof.Machine

theorem Capture.suspendedNow_idem (c : Capture) : c.suspendedNow.suspendedNow = c.suspendedNow := by
  unfold Capture.suspendedNow
  split <;> simp [*]

theorem Capture.suspendedNow_probe (c : Capture) : c.suspendedNow.probe = c.probe := by
  unfold Capture.suspendedNow
  split <;> rfl

theorem stopArm_capture {s : State} {arm : Arm} (h : (s.supervision.get arm).state ≠ .stopped) (c : StopCause) :
    (stopArm s arm c).capture = s.capture.put arm (s.capture.get arm).suspendedNow := by rw [stopArm_withCapture h]; rfl

/-- A record that becomes KNOWN with the capture probe's index leaves the capture; any other suspends it (R147). -/
theorem setActive_capture_cases (s : State) (arm : Arm) (r : ActiveProbe) :
    ((∃ i, r = .known i ∧ (s.capture.get arm).probe = some i) ∧ (setActive s arm r).capture = s.capture) ∨
      (setActive s arm r).capture = s.capture.put arm (s.capture.get arm).suspendedNow := by
  unfold setActive
  dsimp only
  split
  · split
    · exact .inl ⟨⟨_, rfl, ‹_›⟩, rfl⟩
    · rw [suspendCapture_suspendedNow]
      exact .inr rfl
  · rw [suspendCapture_suspendedNow]
    exact .inr rfl

namespace State.SuspendsByProbe

variable {s₀ s t : State} {arm : Arm}

theorem refl (s : State) : s.SuspendsByProbe s := fun _ => ⟨fun h => absurd rfl h, .inl rfl⟩

/-- A capture that two changes in turn may each suspend: suspended when the records differ in the end, since the change that made them
differ suspended it, or the other one did. -/
theorem trans (h : s₀.SuspendsByProbe s) (k : s.SuspendsByProbe t) : s₀.SuspendsByProbe t := by
  intro x
  obtain ⟨hchanged, hkept⟩ := h x
  obtain ⟨kchanged, kkept⟩ := k x
  have probe : (s.capture.get x).probe = (s₀.capture.get x).probe := by
    rcases hkept with e | e <;> rw [e]
    exact Capture.suspendedNow_probe _
  have either (e : t.capture.get x = (s.capture.get x).suspendedNow) : t.capture.get x = (s₀.capture.get x).suspendedNow := by
    rcases hkept with e' | e' <;> rw [e, e']
    exact Capture.suspendedNow_idem _
  refine ⟨fun hne hprobe => ?_, ?_⟩
  · by_cases hst : t.active.get x = s.active.get x
    · rw [hst] at hne hprobe
      rcases kkept with e | e
      · exact e.trans (hchanged hne hprobe)
      · exact either e
    · exact either (kchanged hst fun i hi => probe ▸ hprobe i hi)
  · rcases kkept with e | e
    · rw [e]
      exact hkept
    · exact .inr (either e)

/-- What leaves the records and the captures. -/
theorem same (h : s₀.SuspendsByProbe s) (ha : t.active = s.active) (hc : t.capture = s.capture) : s₀.SuspendsByProbe t :=
  h.trans fun x => ⟨fun hne => absurd (congrArg (PerArm.get · x) ha) hne, .inl (congrArg (PerArm.get · x) hc)⟩

/-- Moves of sequencers touch neither. -/
theorem moves (h : s₀.SuspendsByProbe s) (e : t.sansMoves = s.sansMoves) : s₀.SuspendsByProbe t :=
  have f {α : Type} (g : State → α) : g t.sansMoves = g s.sansMoves := congrArg g e
  h.same (f State.active) (f State.capture)

theorem setActive (h : s₀.SuspendsByProbe s) {r : ActiveProbe} : s₀.SuspendsByProbe (setActive s arm r) := by
  refine h.trans (Arm.forall_of_other arm ?_ ?_)
  · rw [setActive_active, PerArm.get_put_same]
    rcases setActive_capture_cases s arm r with ⟨⟨i, hr, hp⟩, e⟩ | e <;> rw [e]
    · exact ⟨fun _ hne => absurd hp (hne i hr), .inl rfl⟩
    · rw [PerArm.get_put_same]
      exact ⟨fun _ _ => rfl, .inr rfl⟩
  · rw [setActive_active, PerArm.get_put_other]
    refine ⟨fun hne => absurd rfl hne, .inl ?_⟩
    rcases setActive_capture_cases s arm r with ⟨_, e⟩ | e <;> rw [e]
    exact PerArm.get_put_other _ _ _

theorem raise (h : s₀.SuspendsByProbe s) {k : NoticeKind} {j : Subject} {d : Nat} : s₀.SuspendsByProbe (s.raise k j d) := h.same rfl rfl

theorem startPhase (h : s₀.SuspendsByProbe s) {q : Sequencer} {st : SeqState} : s₀.SuspendsByProbe (startPhase s arm q st) := h.same rfl rfl

theorem failChange (h : s₀.SuspendsByProbe s) {c : FailureCause} : s₀.SuspendsByProbe (failChange s arm c) :=
  h.moves (failChange_sansMoves _ _ _)

theorem modifyEntry (h : s₀.SuspendsByProbe s) {i : Nat} {f : LibraryEntry → LibraryEntry} : s₀.SuspendsByProbe (modifyEntry s i f) := by
  unfold Machine.modifyEntry
  split
  · exact h.same rfl rfl
  · exact h

theorem setLocation (h : s₀.SuspendsByProbe s) {i : Nat} {l : Location} : s₀.SuspendsByProbe (setLocation s i l) := h.modifyEntry

/-! ### Mount changes (R112 to R114) -/

theorem takeFromOther (h : s₀.SuspendsByProbe s) {i x : Nat} : s₀.SuspendsByProbe (takeFromOther s arm i x) :=
  h.setLocation.setActive.raise.setActive

theorem mountIdentity (h : s₀.SuspendsByProbe s) {x : Nat} : s₀.SuspendsByProbe (mountIdentity s arm x) := by
  unfold Machine.mountIdentity
  split
  · split
    · exact h.takeFromOther
    · exact h.modifyEntry.setActive
  · exact h.setActive

theorem mountChange (h : s₀.SuspendsByProbe s) {r : ProbeReport} : s₀.SuspendsByProbe (mountChange s arm r) := by
  unfold Machine.mountChange detachedMount manualMount loseOldProbe
  split
  · split
    · exact h.setLocation.setActive.raise
    · exact h.setActive
    · exact h
  · split
    · exact h.setLocation.raise.mountIdentity.raise
    · exact h.mountIdentity.raise

/-! ### Reports during a change (R132, R136, R139) -/

theorem dropReleased (h : s₀.SuspendsByProbe s) {r : ProbeReport} : s₀.SuspendsByProbe (dropReleased s arm r) := by
  unfold Machine.dropReleased
  dsimp only
  split
  · exact h.startPhase
  · split
    · exact h.setLocation.setActive.startPhase
    · exact h.mountChange.failChange
  · exact h.mountChange.failChange

theorem pickAttached (h : s₀.SuspendsByProbe s) {x : Nat} : s₀.SuspendsByProbe (pickAttached s arm x) := by
  have wrong {n : Nat} : s₀.SuspendsByProbe (Machine.failChange (wrongProbeUpdate s arm n x) arm .wrongProbe) :=
    h.modifyEntry.mountIdentity.failChange
  unfold Machine.pickAttached
  dsimp only
  split
  · exact h
  split
  · exact wrong
  split
  · split
    · exact h.takeFromOther.raise.failChange
    · exact h.setLocation.setActive.startPhase
  · exact wrong

theorem libraryReport (s : State) (arm : Arm) (r : ProbeReport) : s.SuspendsByProbe (libraryReport s arm r) := by
  have h := refl s
  unfold Machine.libraryReport takeReport
  dsimp only
  split
  · split
    · exact h
    · exact h.mountChange
  · split
    · exact h
    · exact h.dropReleased
    · exact h
    · split
      · exact h
      · exact h.pickAttached
    · split
      · exact h
      · exact h.mountChange.failChange

/-! ### The binding of a written entry (R110) -/

theorem writeLibrary (s : State) (i : Nat) (e : Option LibraryEntry) : s.SuspendsByProbe (writeLibrary s i e) := by
  have written (l : Table LibraryEntry) : s.SuspendsByProbe { s with library := l } := (refl s).same rfl rfl
  unfold Machine.writeLibrary
  split
  · exact written _
  · split
    · exact (written (Table.store s.library i _)).setActive
    · exact written _

end State.SuspendsByProbe

/-- Settles O50: the commit of a confirmed touch, the state steps with and without a report, the evaluation around them, and what suspends
capture. -/
theorem touchCommitted : Obligations.TouchCommitted := by
  refine ⟨fun s arm l e he hstate hl hn => ?_, fun s arm cycle => ?_, fun s arm => ?_⟩
  · refine ⟨State.pointOf_within s arm e _, fun report cycle hr => ?_⟩
    have commits := ((captureStep_confirming hstate (cycle := cycle)).1 hr).trans (confirmTouch_commits hn hl he)
    exact ⟨commits, fun hw => commits.trans (handRecord_of_passed (.inr hw) _)⟩
  · refine ⟨fun r hc => ?armed, fun r hc => ?confirming, fun r hc => ?deflected, fun r hc => ?rearming,
      fun hc report => captureStep_suspended hc report, fun report => ?evaluation⟩
    case armed =>
      obtain ⟨reported, missing⟩ := captureStep_armed hc (r := r) (cycle := cycle)
      rw [reported]
      exact ⟨armedStep_quiet, missing, fun probe hr hp => ⟨armedStep_latches hr hp, fun e => armedStep_commits hr hp⟩⟩
    case confirming =>
      obtain ⟨deflected, quiet, missing⟩ := captureStep_confirming hc (r := r) (cycle := cycle)
      exact ⟨fun hr hn => (deflected hr).trans (confirmTouch_counts hn), quiet, missing⟩
    case deflected =>
      obtain ⟨reported, missing⟩ := captureStep_deflected hc (r := r) (cycle := cycle)
      rw [reported]
      exact ⟨missing, deflectedStep_quiet, deflectedStep_counts, fun i e hr hn hs => deflectedStep_commits hr hn hs⟩
    case rearming =>
      obtain ⟨reported, missing⟩ := captureStep_rearming hc (r := r) (cycle := cycle)
      rw [reported]
      exact ⟨missing, rearmingStep_deflected, rearmingStep_quiet⟩
    case evaluation =>
      have ends := evaluateArm_eq s arm report cycle
      refine ⟨fun hc => ?_, fun i hc hready hi => ?_, fun hc hnot => ?_⟩
      · rwa [leaveSuspended_of_ne hc] at ends
      · rwa [leaveSuspended_ready hc (captureReady_eq_some_iff.mpr ⟨hready.1, hready.2, hi⟩)] at ends
      · have hnone : captureReady s arm = none := Option.eq_none_iff_forall_ne_some.mpr fun i hi =>
          have ⟨hs, hq, ha⟩ := captureReady_eq_some_iff.mp hi
          hnot.elim (fun h => h ⟨hs, hq⟩) fun h => h i ha
        rwa [leaveSuspended_of_none hnone, captureStep_suspended hc] at ends
  · exact ⟨fun cause h => stopArm_capture h cause, fun cause h => stopArm_of_stopped h cause,
      State.SuspendsByProbe.libraryReport s arm, fun i e => State.SuspendsByProbe.writeLibrary s i e⟩

end Sys2Proof.Machine
end

section
/-! The plan walker: PLAN STOP, and a TOUCH record at a RUNNING walk (R33, R165, R167 to R172). -/

namespace Sys2Proof.Machine

/-! ### PLAN STOP -/

theorem exec_planStop {s : State} {tag arm : Byte} (hs : s.Ready) {x : State × Answer}
    (hx : withArm s.windowBroken [arm] (planStop s.windowBroken) = x) :
    exec (.planStop tag [arm]) s = .next (x.1.answered tag 0x41 x.2.outcome x.2.reason x.2.data) :=
  exec_listed (r := { tag := tag, code := 0x41, params := [arm] }) hs rfl (by simp [listedLengths]) hx

/-- A walk lets the plan go when it is not RUNNING, and not PARKED with a head (R33). -/
theorem Walk.holdsPlan_eq_false_iff (w : Walk) :
    w.holdsPlan = false ↔ w.state ≠ .running ∧ (w.state = .parked → w.head = none) := by
  simp [Walk.holdsPlan]

theorem someWalkHolds_eq_false_iff (s : State) : someWalkHolds s = false ↔ ∀ arm, (s.walk.get arm).holdsPlan = false := by
  simp only [someWalkHolds, bothArms, List.any_cons, List.any_nil, Bool.or_false, Bool.or_eq_false_iff]
  exact ⟨fun ⟨ha, hb⟩ arm => match arm with | .a => ha | .b => hb, fun h => ⟨h .a, h .b⟩⟩

theorem judgeEntry_plan_of_noHold {s : State} (h : someWalkHolds s = false) (i : Nat) (e : Option PlanEntry) :
    judgeEntry s i (.plan e) = none := by
  simp [judgeEntry, h]

namespace Requests

/-- Settles O40: the stopped walk is the initial walk, whatever it was, and walks that let the plan go refuse no PLAN entry. -/
theorem planStop : Obligations.PlanStop := by
  refine ⟨fun s tag arm which hs ha => exec_planStop hs (withArm_some _ _ _ ha),
    fun s tag arm hs ha => exec_planStop hs (withArm_none _ _ _ ha), fun s i e h => ?_⟩
  exact judgeEntry_plan_of_noHold
    ((someWalkHolds_eq_false_iff s).2 fun which => ((s.walk.get which).holdsPlan_eq_false_iff).2 (h which)) i e

end Requests

/-! ### A record reaches a queue with room -/

theorem enqueueRecord_of_room {s : State} (h : s.queue.records.length < 64) (r : CaptureRecord) :
    enqueueRecord s r = (commitRecord s r, some s.queue.nextSequence) := if_pos h

theorem commitRecord_records (s : State) (r : CaptureRecord) :
    (commitRecord s r).queue.records = s.queue.records ++ [{ sequence := s.queue.nextSequence, record := r }] := by
  unfold commitRecord
  dsimp only
  split <;> rfl

theorem commitRecord_queueOnly (s : State) (r : CaptureRecord) : QueueOnly s (commitRecord s r) := by
  unfold commitRecord
  dsimp only
  split
  · exact (setQueue_queueOnly s _).trans (raise_queueOnly _ _ _ _)
  · exact setQueue_queueOnly s _

/-! ### The walk takes the record -/

section
variable {s : State} {r : CaptureRecord} {head : Nat}

/-- A TOUCH record reaches the head of its arm's RUNNING walk (R167). -/
theorem handRecord_of_running {loop : Bool} (hk : r.kind = .touch)
    (hw : s.walk.get r.arm = { state := .running, head := some head, loop := loop }) (radius : Nat) :
    handRecord s r radius = walkRecord s r.arm head r radius := by
  simp only [handRecord, hk, hw]

variable {arm : Arm}

/-- An empty head entry, or one of the other arm: FAULT (R168). -/
theorem walkRecord_faults (h : ∀ e, Table.entry s.plan head = some e → e.arm ≠ arm) (radius : Nat) :
    walkRecord s arm head r radius =
      (enqueueRecord ((s.setWalk arm { s.walk.get arm with state := .fault }).raise .planFault (.arm arm) 0) (flagRecord r false)).1 := by
  unfold walkRecord
  cases he : Table.entry s.plan head with
  | none => rfl
  | some e => exact if_pos (h e he)

variable {e : PlanEntry} (he : Table.entry s.plan head = some e) (ha : e.arm = arm)
include he ha

/-- A head entry owned by CONTROLLER parks the walk (R169). -/
theorem walkRecord_parks (ho : e.owner = .controller) (radius : Nat) :
    walkRecord s arm head r radius =
      (enqueueRecord ((s.setWalk arm { s.walk.get arm with state := .parked }).raise .planParked (.arm arm) 0) (flagRecord r true)).1 := by
  simp [walkRecord, he, ha, ho]

/-- A touch outside the search radius leaves the walk (R170). -/
theorem walkRecord_misses (ho : e.owner = .device) (hs : withinSearch e r.point = false) (radius : Nat) :
    walkRecord s arm head r radius = (enqueueRecord s (flagRecord r false)).1 := by
  simp [walkRecord, he, ha, ho, hs]

theorem walkRecord_matches (ho : e.owner = .device) (hs : withinSearch e r.point = true) (radius : Nat) :
    walkRecord s arm head r radius = matchRecord s arm head e r radius := by
  simp [walkRecord, he, ha, ho, hs]

end

/-! ### A match -/

/-- The walk moved past its matched head entry, PLAN_PARKED raised at END (R172). -/
def movedPast (s : State) (arm : Arm) (e : PlanEntry) : State :=
  let moved := s.setWalk arm (walkAfterMatch (s.walk.get arm) e)
  if e.next = none then moved.raise .planParked (.arm arm) 0 else moved

theorem movedPast_queue (s : State) (arm : Arm) (e : PlanEntry) : (movedPast s arm e).queue = s.queue := by
  unfold movedPast
  dsimp only
  split <;> rfl

theorem movedPast_queueOnly (s : State) (arm : Arm) (e : PlanEntry) :
    QueueOnly (s.setWalk arm (walkAfterMatch (s.walk.get arm) e)) (movedPast s arm e) := by
  unfold movedPast
  dsimp only
  split
  · exact raise_queueOnly _ _ _ _
  · exact .refl _

/-- The record with the plan fields of a match (R171, R172). -/
def plannedRecord (head : Nat) (e : PlanEntry) (r : CaptureRecord) (radius : Nat) : CaptureRecord :=
  let d := planDeviation e r.point radius
  { r with plan := some { index := head, deviation := d, verdict := planVerdict e d } }

/-- A match moves the walk, hands the record with its plan fields to the queue, and writes the entry with the number taken (R172). -/
theorem matchRecord_eq (s : State) (arm : Arm) (head : Nat) (e : PlanEntry) (r : CaptureRecord) (radius : Nat) :
    matchRecord s arm head e r radius =
      let queued := enqueueRecord (movedPast s arm e) (plannedRecord head e r radius)
      { queued.1 with
        plan := Table.store queued.1.plan head (matchedEntry (s.walk.get arm) e (planDeviation e r.point radius) queued.2) } := rfl

/-- With room in the queue record and entry take the next number; beside walk and entry only capture queue and notice list change. -/
theorem matchRecord_of_room {s : State} (hroom : s.queue.records.length < 64) (arm : Arm) (head : Nat) (e : PlanEntry) (r : CaptureRecord)
    (radius : Nat) :
    ∃ u, QueueOnly (s.setWalk arm (walkAfterMatch (s.walk.get arm) e)) u ∧
      u.queue.records = s.queue.records ++ [{ sequence := s.queue.nextSequence, record := plannedRecord head e r radius }] ∧
      matchRecord s arm head e r radius = { u with
        plan := Table.store s.plan head
          (matchedEntry (s.walk.get arm) e (planDeviation e r.point radius) (some s.queue.nextSequence)) } := by
  have hqueue := movedPast_queue s arm e
  have honly := (movedPast_queueOnly s arm e).trans (commitRecord_queueOnly _ (plannedRecord head e r radius))
  have hplan : (commitRecord (movedPast s arm e) (plannedRecord head e r radius)).plan = s.plan := plan_of_core honly.core
  refine ⟨_, honly, by rw [commitRecord_records, hqueue], ?_⟩
  rw [matchRecord_eq, enqueueRecord_of_room (by rwa [hqueue])]
  dsimp only
  rw [hplan, hqueue]

/-- The owner after a match of a DEVICE entry: CONTROLLER unless the walk loops (R172). -/
theorem matchedEntry_of_device {e : PlanEntry} (ho : e.owner = .device) (w : Walk) (d : Int) (n : Option SequenceNumber) :
    matchedEntry w e d n =
      { e with verdict := some (planVerdict e d), deviation := d, sequence := n, owner := if w.loop then .device else .controller } := by
  rw [matchedEntry, ho]

/-- Settles O51: the branches of the walk at its head entry, and the records that meet no RUNNING walk. -/
theorem planMatch : Obligations.PlanMatch := by
  refine ⟨fun s r radius head e loop hk hw he ha ho hroom hsearch => ?matched,
    fun s r radius head loop hk hw => ?unplanned, fun s r radius h => handRecord_of_passed h radius⟩
  case matched =>
    obtain ⟨u, honly, hrecords, hmatch⟩ := matchRecord_of_room hroom r.arm head e r radius
    obtain ⟨q, n, -, rfl⟩ := honly
    have hand := (handRecord_of_running hk hw radius).trans
      ((walkRecord_matches he ha ho (decide_eq_true hsearch) radius).trans hmatch)
    rw [matchedEntry_of_device ho] at hand
    dsimp only
    rw [hand, hw]
    refine ⟨hrecords, Table.entry_store_same _ _ _, fun j hj => Table.entry_store_ne _ _ hj, ?_, rfl, rfl, rfl, rfl⟩
    cases hn : e.next <;> simp [walkAfterMatch, hn]
  case unplanned =>
    rw [handRecord_of_running hk hw]
    refine ⟨fun he => ?_, fun e he => ⟨fun ha => ?_, fun ha ho => ?_, fun ha ho hsearch => ?_⟩⟩
    · rw [walkRecord_faults (by simp [he]), hw]; rfl
    · rw [walkRecord_faults (by simpa [he] using ha), hw]; rfl
    · rw [walkRecord_parks he ha ho, hw]; rfl
    · exact walkRecord_misses he ha ho (decide_eq_false (Nat.not_le.2 hsearch)) radius

end Sys2Proof.Machine
end

section
/-! What leaves the capture queue as it is: all but a record that reaches it, the end of a return frame, the credit requests, RESTART RUN, and
READ STATUS with the counters cleared (R175 to R178, R182, R183, R185). -/

namespace Sys2Proof.Machine

/-! ### Operations that leave the capture queue as it is -/

section
variable {s t : State}

theorem queue_of_sansHalt (h : t.sansHalt = s.sansHalt) : t.queue = s.queue := (sameButHalt_of_sansHalt h).queue

theorem queue_of_sansReports (h : t.sansReports = s.sansReports) : t.queue = s.queue :=
  have f {α : Type} (g : State → α) : g t.sansReports = g s.sansReports := congrArg g h
  f State.queue

end

section
variable (s : State)

@[simp] theorem countBadFrame_queue (p : Port) : (s.countBadFrame p).queue = s.queue := by cases p <;> rfl

@[simp] theorem placeTx_queue (p : Port) (t : TxFrame) : (s.placeTx p t).queue = s.queue := by
  rcases s.placeTx_cases p t with ⟨_, e⟩ | ⟨_, e⟩ <;> rw [e]
  rfl

@[simp] theorem forward_queue (p : Port) (t : TxFrame) : (s.forward p t).queue = s.queue := by
  rcases s.forward_cases p t with ⟨_, e⟩ | ⟨_, e⟩ <;> rw [e]
  · exact countBadFrame_queue s p
  · rfl

@[simp] theorem stopArm_queue (arm : Arm) (c : StopCause) : (stopArm s arm c).queue = s.queue :=
  queue_of_sansHalt (stopArm_sansHalt s arm c)

@[simp] theorem frameLeaves_queue (p : Port) : (frameLeaves s p).queue = s.queue := by
  unfold frameLeaves
  split
  · rfl
  · dsimp only
    split
    · rw [messageSent_eq]; rfl
    · rfl

theorem outSlots_queue (d : OutRun) (slots : List Slot) : (outSlots targetSlot s d slots).1.queue = s.queue :=
  outSlots_induct (P := fun _ u _ => u.queue = s.queue) rfl fun _ sl _ u d _ hu =>
    (queue_of_sansHalt (outSlot_keeps u d sl).1).trans hu

theorem endOut_queue (g : OutFrame) : (endOut s g).queue = s.queue := by
  obtain ⟨n, -, e⟩ := (forwardOut_endsOut s { cycle := g.cycle, slots := g.run.done } g.run.carried).state
  rw [endOut, e]
  rfl

theorem handleOut_queue (g : OutFrame) : (handleOut s g).1.queue = s.queue := by
  unfold handleOut
  split
  · exact endOut_queue s g
  · exact outSlots_queue s g.run [_]

theorem finishOut_queue (g : OutFrame) : (finishOut s g).queue = s.queue := (endOut_queue _ _).trans (outSlots_queue s g.run g.todo)

theorem originateAndStart_queue : (originateAndStart s).queue = s.queue := by
  cases ht : s.link.template with
  | none => simp only [originateAndStart, originate, ht, State.setLink_queue]
  | some f => rw [(originateAndStart_originates ht rfl).state]; rfl

theorem enterHalted_queue : (enterHalted s).queue = s.queue := (stopArm_queue _ _ _).trans (stopArm_queue _ _ _)

theorem watchTimerExpires_queue : (watchTimerExpires s).queue = s.queue := by
  unfold watchTimerExpires loseController loseWithoutTemplate
  split
  · rfl
  · dsimp only
    split
    · split
      · exact (originateAndStart_queue _).trans (enterHalted_queue _)
      · exact originateAndStart_queue _
    · split <;> rfl

theorem timerExpires_queue (t : Timer) : (timerExpires s t).queue = s.queue := by
  cases t with
  | watch => exact watchTimerExpires_queue s
  | origination =>
    simp only [timerExpires, originationTimerExpires]
    split
    · rfl
    · exact originateAndStart_queue (s.reach _)
  | bridge =>
    simp only [timerExpires, bridgeTimerExpires]
    split
    · rfl
    · exact enterHalted_queue (s.reach _)
  | reply =>
    simp only [timerExpires, replyTimerExpires]
    split
    · exact (queue_of_sansReports (takeOutcome_sansReports _ _ _)).trans rfl
    · rfl
  | phase arm =>
    simp only [timerExpires, phaseTimerExpires]
    split
    · rfl
    · split
      · exact (queue_of_sansReports (failChange_sansReports _ arm _)).trans rfl
      · rfl

theorem ageingStage_queue (d : BackRun) (c : CycleNumber) : (endStage d c s .ageing).queue = s.queue :=
  (((ageChannels_slotKeeps s _).trans (missingPosition_slotKeeps _ .a _)).trans (missingPosition_slotKeeps _ .b _)).queue

theorem leaveProcessing_queue : (leaveProcessing s).queue = s.queue := by
  obtain ⟨-, -, -, -, hqueue⟩ := leaveProcessing_frame s
  exact hqueue

/-! ### Requests that leave it -/

theorem openWindow_queue (p : List Byte) : (openWindow s p).1.queue = s.queue := by
  rcases openWindow_cases s p with e | ⟨w, _, e⟩ <;> rw [e]
  rfl

theorem continueWindow_queue (w : Window) : (continueWindow w s).1.queue = s.queue := by
  unfold continueWindow
  split <;> rfl

theorem readTable_queue (p : List Byte) : (readTable s p).1.queue = s.queue := by
  unfold readTable
  split
  · rfl
  · dsimp only
    split; · rfl
    split <;> rfl

theorem changeProbe_queue (arm : Arm) (x : Nat) : (changeProbe s arm x).1.queue = s.queue := by
  cases h : judgeChange s arm x with
  | refused a => rw [changeProbe_refused h]
  | nothing => rw [changeProbe_nothing h]; rfl
  | accepted p =>
    rw [changeProbe_accepted h]
    exact (queue_of_sansReports (sansReports_of_sansMoves (acceptChange_sansMoves p))).trans rfl

theorem abortChange_queue (arm : Arm) : (abortChange s arm).1.queue = s.queue := by
  unfold abortChange
  split
  · rfl
  · exact queue_of_sansReports (failChange_sansReports s arm _)

theorem releaseArm_queue (arm : Arm) : (releaseArm s arm).1.queue = s.queue := by
  unfold releaseArm
  dsimp only
  split; · rfl
  split; · rfl
  split; · rfl
  split; · rfl
  split <;> rfl

theorem planStartRequest_queue (p : List Byte) : (planStartRequest s p).1.queue = s.queue := by
  refine Kept.withArm (P := fun u => u.queue = s.queue) (fun arm => ?_) rfl
  split
  · rfl
  · split
    · rfl
    · unfold planStart
      split <;> rfl

theorem planResume_queue (arm : Arm) : (planResume s arm).1.queue = s.queue := by
  unfold planResume
  dsimp only
  split <;> rfl

theorem readNotices_queue (p : List Byte) : (readNotices s p).1.queue = s.queue := by
  unfold readNotices
  dsimp only
  split <;> rfl

theorem setNoticeMask_queue (p : List Byte) : (setNoticeMask s p).1.queue = s.queue := by
  unfold setNoticeMask
  dsimp only
  split <;> rfl

theorem placeEntry_queue (held : Bool) (i : Nat) (e : Entry) : (placeEntry held s i e).queue = s.queue := by
  obtain ⟨-, -, hwrite⟩ := writeEntry_frame s i e
  unfold placeEntry
  split
  · rfl
  · exact hwrite

end

theorem handleEntries_queue (held : Bool) (k : Nat) (l : List (List Byte)) (d : DataRun) :
    (handleEntries held k l d).state.queue = d.state.queue := by
  induction l generalizing k d with
  | nil => rfl
  | cons b bs ih =>
    unfold handleEntries
    split
    · exact ih _ _
    · split
      · rfl
      · exact (ih _ _).trans (placeEntry_queue _ _ _ _)

theorem tableDataTaken_queue (s : State) (p : List Byte) : (tableDataTaken s p).1.queue = s.queue := by
  have inWindow (held : Bool) (w : WindowValues) : (dataInWindow held s w p).1.queue = s.queue := by
    unfold dataInWindow
    split
    · rfl
    · dsimp only
      split; · rfl
      split; · rfl
      exact handleEntries_queue held _ _ (DataRun.start s w)
  unfold tableDataTaken
  split
  · rfl
  · split
    · split <;> exact inWindow _ _
    · rfl

end Sys2Proof.Machine
end

section
/-! Every step keeps the numbers of the records waiting (R174, R175, R178). -/

namespace Sys2Proof.Machine

/-! ### Numbers that follow one another -/

theorem numberedFrom_append (n : SequenceNumber) (l : List QueuedRecord) (r : QueuedRecord) :
    numberedFrom n (l ++ [r]) = (numberedFrom n l && r.sequence == n + BitVec.ofNat 16 l.length) := by
  induction l generalizing n with
  | nil => simp [numberedFrom]
  | cons x l ih =>
    have hn : n + 1 + BitVec.ofNat 16 l.length = n + BitVec.ofNat 16 (l.length + 1) := by bv_omega
    simp only [List.cons_append, numberedFrom, ih, hn, List.length_cons, Bool.and_assoc]

/-- From any place in the queue on, the numbers follow one another from that of the record there. -/
theorem numberedFrom_drop {n : SequenceNumber} {l : List QueuedRecord} (h : numberedFrom n l = true) (k : Nat) :
    numberedFrom (n + BitVec.ofNat 16 k) (l.drop k) = true := by
  induction k generalizing n l with
  | zero => simpa using h
  | succ k ih =>
    cases l with
    | nil => rfl
    | cons x l =>
      have hn : n + BitVec.ofNat 16 (k + 1) = n + 1 + BitVec.ofNat 16 k := by bv_omega
      rw [hn]
      exact ih (Bool.and_eq_true_iff.1 h).2

/-- OVERRUN_AFTER touches no number (R176). -/
theorem numberedFrom_markBack (n : SequenceNumber) (l : List QueuedRecord) : numberedFrom n (markBack l) = numberedFrom n l := by
  rcases List.eq_nil_or_concat l with rfl | ⟨front, back, rfl⟩
  · rfl
  · rw [List.concat_eq_append, markBack_append, numberedFrom_append, numberedFrom_append]
    rfl

/-! ### Delivery and judgements at the queue -/

theorem deliverable_le_depth (q : Queue) (payload : List Byte) : deliverable q payload ≤ q.records.length :=
  (Nat.min_le_left _ _).trans (Nat.min_le_left _ _)

theorem deliverable_le_spaces (q : Queue) (payload : List Byte) : deliverable q payload ≤ recordSpaces payload := Nat.min_le_right _ _

/-- The stall judgement changes its own count and mark alone (R183). -/
theorem judgeStall_queue (s : State) (n : Nat) : ∃ count mark, (judgeStall s n).queue =
    { s.queue with stallCount := count, stallMark := mark } := by
  unfold judgeStall
  dsimp only
  split
  · exact ⟨_, _, rfl⟩
  · split
    · split <;> exact ⟨_, _, rfl⟩
    · exact ⟨_, _, rfl⟩

/-! ### The queue -/

/-- The numbers of the records waiting follow one another up to the next number. -/
def Queue.Numbered (q : Queue) : Prop := numberedFrom (q.nextSequence - BitVec.ofNat 16 q.records.length) q.records = true

namespace Queue.Numbered

variable {q : Queue} (h : q.Numbered)
include h

theorem same {q' : Queue} (hr : q'.records = q.records) (hn : q'.nextSequence = q.nextSequence) : q'.Numbered := by
  rwa [Queue.Numbered, hr, hn]

theorem commit (r : CaptureRecord) : Queue.Numbered
    { q with records := q.records ++ [{ sequence := q.nextSequence, record := r }], nextSequence := q.nextSequence + 1 } := by
  have first : q.nextSequence + 1 - BitVec.ofNat 16 (q.records.length + 1) = q.nextSequence - BitVec.ofNat 16 q.records.length := by
    bv_omega
  simp only [Queue.Numbered, List.length_append, List.length_singleton, first, numberedFrom_append, Bool.and_eq_true]
  exact ⟨h, by simp⟩

theorem drop (n : Nat) : Queue.Numbered { q with records := markBack q.records, overruns := n } := by
  simpa only [Queue.Numbered, markBack_length, numberedFrom_markBack] using h

theorem deliver {n : Nat} (hn : n ≤ q.records.length) : (deliver q n).Numbered := by
  have first : q.nextSequence - BitVec.ofNat 16 (q.records.length - n) =
      q.nextSequence - BitVec.ofNat 16 q.records.length + BitVec.ofNat 16 n := by bv_omega
  simp only [Queue.Numbered, Machine.deliver, List.length_drop, first]
  exact numberedFrom_drop h n

end Queue.Numbered

/-! ### Records reach the queue, and leave it (R175, R176, R178) -/

/-- The capture queue of a state is numbered so: `State.numbersInv` as a proposition. -/
def State.Numbered (s : State) : Prop := s.queue.Numbered

theorem State.numbersInv_iff (s : State) : s.numbersInv = true ↔ s.Numbered := Iff.rfl

namespace State.Numbered

section
variable {s : State} (h : s.Numbered)
include h

theorem same {t : State} (e : t.queue = s.queue) : t.Numbered := by rwa [State.Numbered, e]

theorem enqueueRecord (r : CaptureRecord) : (enqueueRecord s r).1.Numbered := by
  rcases enqueueRecord_cases s r with ⟨_, e⟩ | ⟨_, e⟩ <;> rw [e]
  · unfold commitRecord
    dsimp only
    split <;> exact Queue.Numbered.commit h r
  · exact Queue.Numbered.drop h _

theorem matchRecord (arm : Arm) (i : Nat) (e : PlanEntry) (r : CaptureRecord) (n : Nat) : (matchRecord s arm i e r n).Numbered :=
  enqueueRecord (h.same (movedPast_queue s arm e)) _

theorem walkRecord (arm : Arm) (i : Nat) (r : CaptureRecord) (n : Nat) : (walkRecord s arm i r n).Numbered := by
  have moved (v : Walk) (k : NoticeKind) (r : CaptureRecord) :
      (Machine.enqueueRecord ((s.setWalk arm v).raise k (.arm arm) 0) r).1.Numbered :=
    State.Numbered.enqueueRecord (h.same rfl : ((s.setWalk arm v).raise k (.arm arm) 0).Numbered) r
  unfold Machine.walkRecord
  dsimp only
  split; · exact moved _ _ _
  split; · exact moved _ _ _
  split; · exact moved _ _ _
  split
  · exact h.matchRecord _ _ _ _ _
  · exact h.enqueueRecord _

theorem handRecord (r : CaptureRecord) (n : Nat) : (handRecord s r n).Numbered := by
  unfold Machine.handRecord
  dsimp only
  split
  · exact h.walkRecord _ _ _ _
  · exact h.enqueueRecord _

theorem commitTouch (arm : Arm) (l : TouchLatch) : (commitTouch s arm l).Numbered := by
  unfold Machine.commitTouch
  split
  · exact h.handRecord _ _
  · exact h

theorem commitStuck (arm : Arm) (c : CycleNumber) : (commitStuck s arm c).Numbered := by
  unfold Machine.commitStuck
  split
  · exact h.handRecord _ _
  · exact h

/-- A step of the capture engine changes its own record, and may commit one (R149 to R152). -/
theorem captureStep (arm : Arm) (r : Option ProbeReport) (c : CycleNumber) : (captureStep s arm r c).Numbered := by
  have stored (v : Capture) : (s.setCapture arm v).Numbered := h.same rfl
  unfold Machine.captureStep
  split
  · unfold armedStep
    dsimp only
    split
    · split
      · exact commitTouch (stored _) arm _
      · exact stored _
    · exact h
  · unfold confirmTouch
    dsimp only
    split
    · split
      · split
        · exact commitTouch (stored _) arm _
        · exact stored _
      · exact stored _
    · exact stored _
  · exact stored _
  · unfold deflectedStep
    dsimp only
    split
    · split
      · exact commitStuck (stored _) arm c
      · exact stored _
    · exact stored _
  · unfold rearmingStep
    dsimp only
    split
    · exact stored _
    · split <;> exact stored _
  · exact h

theorem evaluateArm (arm : Arm) (r : Option ProbeReport) (c : CycleNumber) : (evaluateArm s arm r c).Numbered := by
  have judged : (leaveSuspended s arm).Numbered := by
    unfold leaveSuspended
    dsimp only
    split
    · exact h.same rfl
    · exact h
  exact (judged.captureStep arm r c).same rfl

theorem endStage (d : BackRun) (c : CycleNumber) (g : EndStage) : (endStage d c s g).Numbered := by
  cases g with
  | ageing => exact h.same (ageingStage_queue s d c)
  | capture arm => exact h.evaluateArm arm _ c

theorem writeReport (slots : List Slot) : (writeReport s slots).1.Numbered := by
  unfold Machine.writeReport
  split
  · split
    · exact Queue.Numbered.deliver h (deliverable_le_depth _ _)
    · exact h
  · exact h

theorem judgeMissing (present : Bool) : (judgeMissing s present).Numbered := by
  unfold Machine.judgeMissing
  split
  · exact Queue.Numbered.same h rfl rfl
  · split
    · exact h
    · exact Queue.Numbered.same h rfl rfl

theorem judgeStall (n : Nat) : (judgeStall s n).Numbered := by
  obtain ⟨count, mark, e⟩ := judgeStall_queue s n
  rw [State.Numbered, e]
  exact Queue.Numbered.same h rfl rfl

/-! ### Return frames -/

theorem endBack (b : BackFrame) : (endBack s b).Numbered := by
  refine State.Numbered.same ?_ (leaveProcessing_queue _)
  split
  · exact h.judgeStall 0
  · exact State.Numbered.same (((h.writeReport _).judgeMissing _).judgeStall _) (forward_queue _ _ _)

theorem handleReturn (b : BackFrame) : (handleReturn s b).1.Numbered := by
  unfold Machine.handleReturn
  split
  · exact h.same (backSlot_slotKeeps s _ _).queue
  · exact h.endStage _ _ _
  · exact h.endBack b

theorem finishReturn (b : BackFrame) : (finishReturn s b).Numbered :=
  State.Numbered.endBack (Kept.foldl (fun g hu => hu.endStage _ _ g) b.stages (h.same (backSlots_slotKeeps s b.run b.todo).queue)) _

/-! ### Requests -/

theorem creditAnswer {n : Nat} : (creditAnswer (s.setQueue { s.queue with credits := n })).1.Numbered := Queue.Numbered.same h rfl rfl

omit h in
/-- RESTART RUN empties the queue and starts the numbers again (R185). -/
theorem restartRun (s : State) : (restartRun s).Numbered := (rfl : numberedFrom _ [] = true)

/-- READ STATUS may clear the overrun counter among the others (R191). -/
theorem readStatus (p : List Byte) : (readStatus s p).1.Numbered := by
  unfold Machine.readStatus
  split
  · exact h
  · dsimp only
    split
    · exact Queue.Numbered.same h rfl rfl
    · exact h.same rfl

theorem carryOut (c : Byte) (p : List Byte) : (carryOut s c p).1.Numbered := by
  have hb : (breakWindow s).Numbered := h.same rfl
  have left {t : State} (e : t.queue = (breakWindow s).queue) : t.Numbered := hb.same e
  have onArm {f : Arm → State × Answer} (e : ∀ arm, (f arm).1.queue = (breakWindow s).queue) :
      (withArm (breakWindow s) p f).1.Numbered := Kept.withArm (fun arm => left (e arm)) hb
  unfold Machine.carryOut
  split
  · open Kept in
    exact answer_ite (left (openWindow_queue _ _)) <| answer_ite (left (continueWindow_queue _ _)) <|
      answer_ite (left (readTable_queue _ _)) <| answer_ite (onArm fun _ => changeProbe_queue _ _ _) <|
      answer_ite (onArm fun _ => abortChange_queue _ _) <| answer_ite (onArm fun _ => stopArm_queue _ _ _) <|
      answer_ite (onArm fun _ => releaseArm_queue _ _) <| answer_ite (left (planStartRequest_queue _ _)) <|
      answer_ite (onArm fun _ => rfl) <| answer_ite (onArm fun _ => planResume_queue _ _) <| answer_ite hb.creditAnswer <|
      answer_ite hb.creditAnswer <| answer_ite (left (readNotices_queue _ _)) <| answer_ite (left (setNoticeMask_queue _ _)) <|
      answer_ite (hb.readStatus _) <| answer_ite (restartRun _) hb
  · exact hb

/-! ### The service block -/

theorem completeRequest (r : Request) : (completeRequest s r).Numbered := by
  unfold Machine.completeRequest
  split
  · have taken := h.same (tableDataTaken_queue s r.params)
    dsimp only
    split
    · exact taken.same (placeTx_queue _ _ _)
    · exact taken.same rfl
  · exact (h.carryOut _ _).same (placeTx_queue _ _ _)

theorem serveOldest : (serveOldest s).Numbered := by
  unfold Machine.serveOldest
  split
  · exact h
  · split
    · exact h
    · rename_i r rest _ _
      have taken : (s.setService { s.service with requests := rest }).Numbered := h.same rfl
      exact taken.completeRequest r

theorem handOver (r : Request) : (handOver s r).Numbered := by
  unfold Machine.handOver
  split
  · exact h.same (placeTx_queue _ _ _)
  · exact h.same rfl

theorem takeRequest (r : Request) : (takeRequest s r).Numbered := by
  unfold Machine.takeRequest
  split
  · exact h.handOver r
  · exact h.same (countBadFrame_queue _ _)

theorem arriveRequest (r : Request) : (arriveRequest s r).Numbered := by
  unfold Machine.arriveRequest requestStep
  split
  · split; · exact h.completeRequest r
    split
    · exact h.serveOldest
    · exact h.handOver r
  · exact h.same (countBadFrame_queue _ _)

/-! ### Frames by their bytes, and the two receive sides -/

theorem takeFrame (p : Port) (bytes : List Byte) : (takeFrame s p bytes).Numbered := by
  have out (f : CycleFrame) : (startOut s f).1.Numbered := h.same rfl
  have back (f : CycleFrame) : (startBack s f).1.Numbered := h.same rfl
  have bad : (forwardBad s p bytes).Numbered := h.same ((forward_queue _ _ _).trans (countBadFrame_queue _ _))
  unfold Machine.takeFrame
  split
  · exact h.same (countBadFrame_queue _ _)
  · exact bad
  · exact bad
  · unfold takeGood
    split
    · exact h.same (forward_queue _ _ _)
    · split
      · exact (out _).same (finishOut_queue _ _)
      · exact (back _).finishReturn _
      · exact h.takeRequest _
      · exact h

end

section
variable {m : Mid} (h : m.state.Numbered)
include h

theorem midHandle (p : Port) : (m.handle p).state.Numbered := by
  unfold Mid.handle
  cases p <;> dsimp only <;> split
  · exact h
  · exact h.same (handleOut_queue _ _)
  · exact h
  · exact h.handleReturn _

theorem midFinish (p : Port) : (m.finish p).state.Numbered := by
  unfold Mid.finish
  cases p <;> dsimp only <;> split
  · exact h
  · exact h.same (finishOut_queue _ _)
  · exact h
  · exact h.finishReturn _

theorem midTakes (p : Port) (f : CycleFrame) : (m.takes p f).state.Numbered := by
  have hf : (m.finish p).state.Numbered := midFinish h p
  unfold Mid.takes
  dsimp only
  split
  · cases p <;> exact hf.same rfl
  · exact hf.takeFrame p _

theorem midEvent (e : MidEvent) : (midEvent m e).state.Numbered := by
  cases e with
  | handOver tag code params => exact (midFinish h .u).takeRequest _
  | serve => exact h.serveOldest
  | takes p f => exact midTakes h p f
  | handles p => exact midHandle h p
  | bytes p frame => exact (midFinish h p).takeFrame p frame
  | discards p => exact (midFinish h p).same (countBadFrame_queue _ p)
  | expiry t => exact h.same (timerExpires_queue _ t)
  | leaves p => exact h.same (frameLeaves_queue _ p)

end

section
variable {s : State} (h : s.Numbered)
include h

theorem cycleFrameWith (p : Port) (f : CycleFrame) (during : List Interleaved) : (cycleFrameWith p s f during).Numbered := by
  obtain ⟨m, hm, e⟩ := cycleFrameWith_keeps (P := fun m => m.state.Numbered) (during := during)
    (midTakes (m := Mid.idle s) h p f) (fun _ e _ h => midEvent h e.event) (fun _ h => midHandle h p) (fun _ q h => midFinish h q)
  exact e ▸ hm

/-! ### Commands and the step -/

theorem exec {t : State} {c : Instr} (ht : exec c s = .next t) : t.Numbered := by
  have empty : State.reset.Numbered := (State.numbersInv_iff _).1 (by decide)
  have run {f : State → State} (hf : (f s).Numbered) : (s.unlessReset f).Numbered := by
    unfold State.unlessReset
    split
    · exact h
    · exact hf
  have timer (x : Timer) : (timerExpires s x).Numbered := h.same (timerExpires_queue s x)
  cases c <;> obtain rfl := Host.Outcome.next.inj ht
  case powerUp => exact empty.same rfl
  case resetPin => exact empty.same rfl
  case resetEnd => exact h.same rfl
  case frameDiscarded => exact run (h.same (countBadFrame_queue s _))
  case badCheckFrame => exact run (h.takeFrame _ _)
  case notWellFormedFrame => exact run (h.takeFrame _ _)
  case forwardUnchanged => exact run (h.takeFrame _ _)
  case outboundCycleFrame => exact run (h.cycleFrameWith _ _ _)
  case returnCycleFrame => exact run (h.cycleFrameWith _ _ _)
  case serviceReqHandedOver => exact run (h.takeRequest _)
  case frameLeavesPort => exact run (h.same (frameLeaves_queue s _))
  case watchTimerExpiry => exact run (timer .watch)
  case originationTimerExpiry => exact run (timer .origination)
  case bridgeTimerExpiry => exact run (timer .bridge)
  case replyTimerExpiry => exact run (timer .reply)
  case phaseTimerExpiry arm => exact run (timer (.phase arm))
  all_goals exact run (h.arriveRequest _)

theorem idleStep : (idleStep s).Numbered := by
  rcases idleStep_cases s with ⟨_, e⟩ | ⟨_, _, e⟩ | ⟨_, _, _, e⟩ | ⟨_, _, _, e⟩ <;> rw [e]
  · exact h
  · exact h.serveOldest
  · exact h
  · exact h.same rfl

end

end State.Numbered

/-- Settles O58: the step is the front command or the work between commands, and each leaves the capture queue alone, has records reach it
or leave it in order, or empties it. -/
theorem stepKeepsNumbers : Obligations.StepKeepsNumbers := by
  intro s t h ht
  rw [State.numbersInv_iff] at h ⊢
  rcases step_cases ht with ⟨_, rfl⟩ | ⟨c, rest, _, hx⟩
  · exact h.idleStep
  · exact State.Numbered.exec (s := { s with pending := rest }) (h.same rfl) hx

end Sys2Proof.Machine
end

section
/-! SET CREDITS and ADD CREDITS (R177), and what reaches the capture queue or is judged at the end of a return frame (R175, R176, R182,
R183). -/

namespace Sys2Proof.Machine

/-! ### Credits -/

/-- SET CREDITS is answered with the count it was given. -/
theorem setCredits_answer (s : State) (n : Byte) :
    creditAnswer (setCredits s n.toNat) = ({ s with queue := { s.queue with credits := n.toNat } }, doneWith [n]) :=
  congrArg (fun b => (setCredits s n.toNat, doneWith [b])) (byteOf_self n)

theorem addCredits_answer (s : State) (n : Nat) :
    creditAnswer (addCredits s n) = ({ s with queue := { s.queue with credits := min 255 (s.queue.credits + n) } },
      doneWith [byteOf (min 255 (s.queue.credits + n))]) := rfl

/-- Settles O41: each request by its own rule, answered with the count as it then stands. -/
theorem credits : Obligations.Credits := by
  intro s tag n hs
  have hset : carryOutListed s.service.window s.windowBroken codeSetCredits [n] =
      creditAnswer (setCredits s.windowBroken n.toNat) := by rw [← uField_byte_zero]; rfl
  have hadd : carryOutListed s.service.window s.windowBroken codeAddCredits [n] =
      creditAnswer (addCredits s.windowBroken n.toNat) := by rw [← uField_byte_zero]; rfl
  exact ⟨exec_listed (r := { tag := tag, code := 0x50, params := [n] }) hs rfl (by simp [listedLengths])
      (hset.trans (setCredits_answer _ n)),
    exec_listed (r := { tag := tag, code := 0x51, params := [n] }) hs rfl (by simp [listedLengths])
      (hadd.trans (addCredits_answer _ n.toNat))⟩

/-! ### A record reaches the queue (R175, R176) -/

theorem commitRecord_eq (s : State) (r : CaptureRecord) : commitRecord s r = { s with
    queue := { s.queue with
      records := s.queue.records ++ [{ sequence := s.queue.nextSequence, record := r }], nextSequence := s.queue.nextSequence + 1 }
    notices := if s.queue.records.length + 1 = s.setup.captureLevel then s.notices.enter .captureLevel .none 0 else s.notices } := by
  unfold commitRecord
  dsimp only
  rw [List.length_append, List.length_singleton]
  split <;> rfl

/-- A dropped record marks the one at the back. -/
theorem dropRecord_eq {s : State} {front : List QueuedRecord} {back : QueuedRecord} (h : s.queue.records = front ++ [back]) :
    dropRecord s = { s with
      queue := { s.queue with records := front ++ [markOverrun back], overruns := min 65535 (s.queue.overruns + 1) }
      notices := s.notices.enter .captureOverrun .none 0 } := by
  unfold dropRecord
  dsimp only
  rw [h, markBack_append]
  rfl

theorem enqueueRecord_of_full {s : State} (h : 64 ≤ s.queue.records.length) (r : CaptureRecord) :
    enqueueRecord s r = (dropRecord s, none) := if_neg (Nat.not_lt.2 h)

/-! ### The judgements at the end of a return frame (R182, R183) -/

section
variable {s : State}

theorem judgeMissing_present : judgeMissing s true = { s with queue := { s.queue with missingMark := false } } := rfl

theorem judgeMissing_marked (h : s.queue.missingMark = true) : judgeMissing s false = s := by simp [judgeMissing, h]

theorem judgeMissing_unmarked (h : s.queue.missingMark = false) : judgeMissing s false =
    { s with queue := { s.queue with missingMark := true }, notices := s.notices.enter .reportSlotMissing .none 0 } := by
  simp only [judgeMissing, h, Bool.false_eq_true, if_false]
  rfl

theorem judgeStall_delivered {n : Nat} (h : 1 ≤ n) :
    judgeStall s n = { s with queue := { s.queue with stallCount := 0, stallMark := false } } := if_pos h

theorem judgeStall_none_waiting (h : s.queue.records = []) : judgeStall s 0 = { s with queue := { s.queue with stallCount := 0 } } := by
  simp only [judgeStall, h, List.length_nil]
  rfl

/-- Without a delivery, while records wait: the count, and the notice when it reaches the stall cycles for the first time. -/
theorem judgeStall_counts (h : s.queue.records ≠ []) : judgeStall s 0 =
    if s.setup.stallCycles ≤ min 255 (s.queue.stallCount + 1) ∧ s.queue.stallMark = false then
      { s with
        queue := { s.queue with stallCount := min 255 (s.queue.stallCount + 1), stallMark := true }
        notices := s.notices.enter .captureStall .none 0 }
    else { s with queue := { s.queue with stallCount := min 255 (s.queue.stallCount + 1) } } := by
  have hl : 1 ≤ s.queue.records.length := List.length_pos_iff.2 h
  simp only [judgeStall, hl, if_true, Bool.and_eq_true, decide_eq_true_eq, Bool.not_eq_true']
  rfl

end

/-- A REPORT slot to the part is one of kind 0x16 at address 62 (R11). -/
theorem isReport_iff (sl : Slot) : isReport sl = true ↔ sl.kind = 0x16 ∧ sl.address = 62 := by
  have address : sl.address.toNat = 62 ↔ sl.address = 62 := ⟨fun h => BitVec.eq_of_toNat_eq h, fun h => congrArg BitVec.toNat h⟩
  simp [isReport, kindReport, Config.ownAddress, address]

theorem find_report_none {slots : List Slot} (h : ∀ sl ∈ slots, sl.kind = 0x16 → sl.address ≠ 62) : slots.find? isReport = none :=
  List.find?_eq_none.2 fun sl hsl hr => h sl hsl ((isReport_iff sl).1 hr).1 ((isReport_iff sl).1 hr).2

/-- A frame without a REPORT slot delivers nothing. -/
theorem finishForwarded_of_no_report {slots : List Slot} (h : slots.find? isReport = none) (s : State) (cycle : CycleNumber) :
    finishForwarded s cycle slots = (judgeStall (judgeMissing s false) 0).forward .d (.back { cycle := cycle, slots := slots }) := by
  simp only [finishForwarded, writeReport, reportActedOn, h]

/-- Settles O53: the record that reaches the queue, the missing-slot judgement, the stall judgement, and a frame without a REPORT slot. -/
theorem recordCommittedOrDropped : Obligations.RecordCommittedOrDropped := by
  refine ⟨fun s r => ⟨fun hroom => ?_, fun front back hback hfull => ?_⟩,
    fun s => ⟨judgeMissing_present, judgeMissing_marked, judgeMissing_unmarked⟩,
    fun s n => ⟨judgeStall_delivered, fun hn he => hn ▸ judgeStall_none_waiting he,
      fun hn hw => ⟨fun hlimit hmark => ?_, fun hnot => ?_⟩⟩,
    fun s cycle slots h => finishForwarded_of_no_report (find_report_none h) s cycle⟩
  · rw [enqueueRecord_of_room hroom, commitRecord_eq]
  · rw [enqueueRecord_of_full hfull, dropRecord_eq hback]
    rfl
  · rw [hn, judgeStall_counts hw, if_pos ⟨hlimit, hmark⟩]
  · rw [hn, judgeStall_counts hw, if_neg]
    rintro ⟨hlimit, hmark⟩
    rcases hnot with hlow | hset
    · exact Nat.not_lt.2 hlimit hlow
    · exact Bool.false_ne_true (hmark.symm.trans hset)

end Sys2Proof.Machine
end

section
/-! A return frame of one REPORT slot: what the slot delivers, as the bytes of its payload (R178, R179), and the queue as the frame's end
finds it (ReportDelivers). -/

namespace Sys2Proof.Machine

/-! ### The payload that is written -/

theorem headerBytes_length (s : State) (n : Nat) : (headerBytes s n).length = 13 := rfl

/-- The delivered records one after another, and zeros in the spaces left. -/
theorem spaceBytes_eq {spaces : Nat} {records : List QueuedRecord} (h : records.length ≤ spaces) :
    spaceBytes spaces records = records.flatMap recordBytes ++ List.replicate (36 * (spaces - records.length)) 0 := by
  induction spaces generalizing records with
  | zero => rw [List.eq_nil_of_length_eq_zero (Nat.le_zero.1 h)]; rfl
  | succ n ih =>
    cases records with
    | nil =>
      have hn : 36 * (n + 1 - 0) = 36 + 36 * (n - 0) := by omega
      rw [spaceBytes, ih (records := []) (Nat.zero_le n), List.length_nil, hn, List.replicate_add]
      rfl
    | cons r rs =>
      simp only [spaceBytes, ih (Nat.le_of_succ_le_succ h), List.length_cons, Nat.reduceSubDiff, List.flatMap_cons, List.append_assoc]

/-- The part after a REPORT slot's deliveries. -/
def State.afterReport (s : State) (payload : List Byte) : State := s.setQueue (deliver s.queue (deliverable s.queue payload))

/-- The written payload: the header, its fill bytes as taken, the delivered records, zeros, and the bytes after the spaces as taken (R13,
R178, R179). -/
theorem reportSlot_payload {payload : List Byte} (h : 16 ≤ payload.length) (s : State) :
    let n := deliverable s.queue payload
    (reportSlot s payload).2.1 = headerBytes (s.afterReport payload) n ++ (payload.take 16).drop 13 ++
      ((s.queue.records.take n).flatMap recordBytes ++ List.replicate (36 * (recordSpaces payload - n)) 0) ++
      payload.drop (16 + 36 * recordSpaces payload) := by
  intro n
  have hdepth : n ≤ s.queue.records.length := deliverable_le_depth _ _
  have hspaces : n ≤ recordSpaces payload := deliverable_le_spaces _ _
  have hlen : (s.queue.records.take n).length = n := List.length_take_of_le hdepth
  have hbytes := spaceBytes_eq (hlen.le.trans hspaces)
  rw [hlen] at hbytes
  have h16 : (payload.take 16).length = 16 := List.length_take_of_le h
  change splice (splice payload 16 (spaceBytes (recordSpaces payload) (s.queue.records.take n))) 0
    (headerBytes (s.afterReport payload) n) = _
  rw [splice_zero, headerBytes_length, splice, spaceBytes_length, hbytes, List.append_assoc (payload.take 16),
    List.drop_append_of_le_length (by omega)]
  simp only [List.append_assoc]

/-- Where the parts of a written payload stand: a header of 13 bytes and 3 fill bytes, the records, the zeros, the rest. -/
theorem written_parts {header fill records zeros rest : List Byte} (hh : header.length = 13) (hf : fill.length = 3) :
    let written := header ++ fill ++ (records ++ zeros) ++ rest
    (∀ k, k < 13 → written.getD k 0 = header.getD k 0) ∧ (written.drop 16).take records.length = records ∧
      (written.drop (16 + records.length)).take zeros.length = zeros ∧ written.drop (16 + (records ++ zeros).length) = rest := by
  have hstart : (header ++ fill).length = 16 := by simp [hh, hf]
  refine ⟨fun k hk => ?_, ?_, ?_, ?_⟩
  · simp [List.getElem?_append_left, hh, hk]
  · rw [List.append_assoc, List.drop_left' hstart, List.append_assoc]
    exact List.take_left
  · rw [← List.append_assoc, List.append_assoc (_ ++ _), List.drop_left' (by rw [List.length_append, hstart])]
    exact List.take_left
  · exact List.drop_left' (by rw [List.length_append, hstart])

theorem reportSlot_bytes {payload : List Byte} (h : 16 ≤ payload.length) (s : State) :
    let n := deliverable s.queue payload
    let written := (reportSlot s payload).2.1
    (∀ k, k < 13 → written.getD k 0 = (headerBytes (s.afterReport payload) n).getD k 0) ∧
    (written.drop 16).take (36 * n) = (s.queue.records.take n).flatMap recordBytes ∧
    (written.drop (16 + 36 * n)).take (36 * (recordSpaces payload - n)) = List.replicate (36 * (recordSpaces payload - n)) 0 ∧
    written.drop (16 + 36 * recordSpaces payload) = payload.drop (16 + 36 * recordSpaces payload) := by
  intro n written
  have hdepth : n ≤ s.queue.records.length := deliverable_le_depth _ _
  have hspaces : n ≤ recordSpaces payload := deliverable_le_spaces _ _
  have hrecords : ((s.queue.records.take n).flatMap recordBytes).length = 36 * n := by
    rw [List.length_flatMap, List.map_congr_left fun q _ => recordBytes_length q]
    simp [hdepth, Nat.mul_comm]
  have parts := written_parts (headerBytes_length (s.afterReport payload) n) (fill := (payload.take 16).drop 13)
    (records := (s.queue.records.take n).flatMap recordBytes) (zeros := List.replicate (36 * (recordSpaces payload - n)) 0)
    (rest := payload.drop (16 + 36 * recordSpaces payload)) (by simp [h])
  rwa [← reportSlot_payload h s, List.length_append, hrecords, List.length_replicate, ← Nat.mul_add,
    Nat.add_sub_cancel' hspaces] at parts

/-! ### The end of a frame of one REPORT slot -/

/-- A REPORT slot to the part (R11). -/
def reportTo (payload : List Byte) : Slot := { address := 62, kind := 0x16, payload := payload }

theorem writeReport_single {payload : List Byte} (h : 16 ≤ payload.length) (s : State) :
    writeReport s [reportTo payload] =
      (s.afterReport payload, [reportTo (reportSlot s payload).2.1], deliverable s.queue payload) := by
  have hlong : longEnough 4 payload = true := decide_eq_true h
  have hreport : isReport (reportTo payload) = true := rfl
  simp only [writeReport, List.find?_cons_of_pos hreport, replaceReport, hreport, if_true]
  rw [show (reportTo payload).payload = payload from rfl, if_pos hlong]
  rfl

section
variable {s : State} {payload : List Byte} {b : BackFrame} (h : 16 ≤ payload.length) (ho : b.originated = false)
  (hb : b.run.done = [reportTo payload])
include h ho hb

theorem endBack_report_queue : ∃ count mark, (endBack s b).queue =
    { deliver s.queue (deliverable s.queue payload) with missingMark := false, stallCount := count, stallMark := mark } := by
  have hreport : reportActedOn [reportTo payload] = true := decide_eq_true h
  obtain ⟨count, mark, hstall⟩ := judgeStall_queue (judgeMissing (s.afterReport payload) true) (deliverable s.queue payload)
  refine ⟨count, mark, ?_⟩
  rw [endBack, ho, if_neg Bool.false_ne_true, leaveProcessing_queue, finishForwarded_eq, forward_queue, reported, hb,
    writeReport_single h, hreport, hstall]
  rfl

/-- The end of a frame of one REPORT slot delivers from the queue as it stands. -/
theorem endBack_delivers (hh : s.service.heldReply = none) (hroom : s.Room .u) : s.Delivered (endBack s b) b.cycle payload := by
  obtain ⟨rest, hrest, hlink⟩ := (endBack_link_forwarded s ho).1 hroom
  obtain rfl := hrest hh
  obtain ⟨count, mark, hqueue⟩ := endBack_report_queue (s := s) h ho hb
  obtain ⟨header, records, zeros, after⟩ := reportSlot_bytes h s
  refine ⟨(reportSlot s payload).2.1, ?_, ?_⟩
  · rw [hlink, hb, writeReport_single h]
    rfl
  · intro spaces n
    rw [hqueue]
    exact ⟨rfl, rfl, rfl, rfl, reportSlot_length h s, (header 2 (by omega)).trans (congrArg byteOf List.length_drop),
      header 3 (by omega), header 12 (by omega), records, zeros, after⟩

end

/-! ### Before the end -/

section
variable {s : State} {cycle : CycleNumber} {payload : List Byte}

/-- The slot is not handled where it stands. -/
theorem backSlot_report (d : BackRun) : backSlot s d (reportTo payload) = (s, d.pass (reportTo payload) payload) := by
  have route : backRoute s.setup (reportTo payload) = none := by
    simp [backRoute, reportTo, kindThermal, kindPosition, kindProbe, kindRackIn]
  rw [backSlot, route]
  rfl

/-- An arm without a report in the frame gives the queue no record (R146, R149 to R152). -/
theorem evaluateArm_none_queue (s : State) (arm : Arm) (cycle : CycleNumber) : (evaluateArm s arm none cycle).queue = s.queue := by
  have judged : (leaveSuspended s arm).queue = s.queue := by
    unfold leaveSuspended
    dsimp only
    split <;> rfl
  refine Eq.trans ?_ judged
  change (captureStep (leaveSuspended s arm) arm none cycle).queue = _
  unfold captureStep
  split
  case h_3 => rfl
  case h_6 => rfl
  all_goals contradiction

theorem plainSlots_report : (plainSlots s { cycle := cycle, slots := [reportTo payload] }).2 =
    BackRun.start.pass (reportTo payload) payload := by
  simp only [plainSlots, backSlots, backSlot_report]

/-- A frame of one REPORT slot leaves the capture queue as it is until its end. -/
theorem plainBeforeEnd_report_queue :
    (plainBeforeEnd s { cycle := cycle, slots := [reportTo payload] }).queue = s.queue := by
  rw [← plainAged_queue s { cycle := cycle, slots := [reportTo payload] }]
  simp only [plainBeforeEnd, endStages, List.foldl_cons, List.foldl_nil]
  rw [plainSlots_report]
  exact (evaluateArm_none_queue _ .b cycle).trans ((evaluateArm_none_queue _ .a cycle).trans (by rw [plainAged, plainSlots_report]))

/-- The delivery is judged by the capture queue and the U queue alone. -/
theorem State.Delivered.of_same {u t : State} (hd : u.Delivered t cycle payload) (hq : u.queue = s.queue)
    (hl : u.link.txU = s.link.txU) : s.Delivered t cycle payload := by
  rwa [State.Delivered, hq, hl] at hd

theorem follows_report {run : BackRun} (h : run.Follows [reportTo payload]) : run.done = [reportTo payload] := by
  unfold BackRun.Follows at h
  cases hd : run.done with
  | nil => rw [hd] at h; cases h
  | cons x xs =>
    rw [hd] at h
    obtain ⟨hx, hxs⟩ := List.forall₂_cons.1 h
    rw [hx.other (show (0x16 : Byte) ∉ [0x11] by decide), List.forall₂_nil_left_iff.1 hxs]

theorem cycleFits_report (hwords : payload.length % 4 = 0) (hmax : payload.length ≤ 1020) :
    cycleFits { cycle := cycle, slots := [reportTo payload] } = true := by
  have hslot : slotFits (reportTo payload) = true := by simp [slotFits, reportTo, hwords, hmax]
  refine (cycleFits_iff _).2 ⟨by simp, by simp, by simpa using hslot, ?_⟩
  simp [cycleBytes, slotBytes, reportTo]
  omega

end

/-- Settles O17: the frame's end delivers from the queue that it finds, which with nothing between the pieces is the queue as taken. -/
theorem reportDelivers : Obligations.ReportDelivers := by
  intro s cycle payload hpin hcycle hwords hmin hmax f
  have hf : cycleFits f = true := cycleFits_report hwords hmax
  refine ⟨fun hh hd hroom => ⟨_, exec_return_plain hpin hf, ?_⟩, fun during hothers => ?_⟩
  · have hkeeps := plainBeforeEnd_keeps s f
    have ho : (plainAtEnd s f).originated = false := by simpa [plainAtEnd, f] using hcycle
    have hdone : (plainAtEnd s f).run.done = [reportTo payload] := congrArg BackRun.done plainSlots_report
    have hend := endBack_delivers hmin ho hdone (hkeeps.service ▸ hh) ((plainBeforeEnd_room s f).2 hroom)
    exact hend.of_same plainBeforeEnd_report_queue ((congrArg Link.txU hkeeps.link).trans rfl)
  · obtain ⟨run, hfollows, -, hback⟩ := returnFrame_before (s := s) hf hothers
    refine ⟨(exec_return hpin f during).trans (congrArg _ (cycleFrameWith_eq_afterEnd .d s f during)), fun hh hd hroom => ?_⟩
    rw [Mid.handle_end hback]
    exact endBack_delivers hmin (decide_eq_false hcycle) (follows_report hfollows) hh hroom

end Sys2Proof.Machine
end

section
/-! SET NOTICE MASK (R190), and what a raise does to the notice list (R187). -/

namespace Sys2Proof.Machine

/-! ### SET NOTICE MASK -/

/-- The four mask bytes as a value of 20 bits: of the third only the low half is left, of the fourth nothing (R190). -/
theorem noticeMask_bytes (m0 m1 m2 m3 : Byte) :
    BitVec.ofNat 20 (uField [m0, m1, m2, m3] 0 4) = BitVec.ofNat 20 (m0.toNat + 256 * m1.toNat + 65536 * m2.toNat) := by
  apply BitVec.eq_of_toNat_eq
  simp only [uField, fieldBytes, leNat, BitVec.toNat_ofNat, List.drop_zero, List.take_succ_cons, List.take_zero]
  omega

/-- Positions 0 and 1, the kinds of class 1, stand in the low two bits of the first mask byte. -/
theorem noticeMask_safety (m0 : Byte) (n : Nat) :
    ((BitVec.ofNat 20 (m0.toNat + 256 * n)).getLsbD 0 || (BitVec.ofNat 20 (m0.toNat + 256 * n)).getLsbD 1) = true ↔
      m0.toNat % 4 ≠ 0 := by
  simp only [BitVec.getLsbD_ofNat, Nat.testBit_eq_decide_div_mod_eq, Bool.or_eq_true, Bool.and_eq_true, decide_eq_true_eq]
  omega

theorem setNoticeMask_bytes (s : State) (m0 m1 m2 m3 : Byte) :
    setNoticeMask s [m0, m1, m2, m3] =
      if m0.toNat % 4 ≠ 0 then (s, refusal .badValue .maskSafety)
      else (s.setNotices { s.notices with mask := BitVec.ofNat 20 (m0.toNat + 256 * m1.toNat + 65536 * m2.toNat) }, doneWith []) := by
  have hbytes : m0.toNat + 256 * m1.toNat + 65536 * m2.toNat = m0.toNat + 256 * (m1.toNat + 256 * m2.toNat) := by omega
  simp only [setNoticeMask, noticeMask_bytes, hbytes, noticeMask_safety]

theorem exec_setNoticeMask {s : State} {tag m0 m1 m2 m3 : Byte} (hs : s.Ready) {x : State × Answer}
    (hx : setNoticeMask s.windowBroken [m0, m1, m2, m3] = x) :
    exec (.setNoticeMask tag [m0, m1, m2, m3]) s = .next (x.1.answered tag 0x61 x.2.outcome x.2.reason x.2.data) :=
  exec_listed (r := { tag := tag, code := 0x61, params := [m0, m1, m2, m3] }) hs rfl (by simp [listedLengths]) hx

namespace Requests

/-- Settles O43: the low two bits of the first byte decide between the refusal and the new mask. -/
theorem setNoticeMask : Obligations.SetNoticeMask := by
  intro s tag m0 m1 m2 m3 hs
  refine ⟨fun h => ?_, fun h => ?_⟩
  · exact exec_setNoticeMask hs ((setNoticeMask_bytes _ _ _ _ _).trans (if_pos h))
  · exact exec_setNoticeMask hs ((setNoticeMask_bytes _ _ _ _ _).trans (if_neg (not_not.2 h)))

end Requests

/-! ### A raise -/

/-- An entry as a raise leaves it that finds an entry of its kind and subject (R187). -/
def Notice.folded (kind : NoticeKind) (subject : Subject) (detail : Nat) (e : Notice) : Notice :=
  if e.kind = kind ∧ e.subject = subject then { e with detail := detail, repeats := min 255 (e.repeats + 1) } else e

section
variable {n : Notices} {kind : NoticeKind} {subject : Subject} {detail : Nat}

theorem Notice.folded_same {e : Notice} (hk : e.kind = kind) (hj : e.subject = subject) :
    e.folded kind subject detail = { e with detail := detail, repeats := min 255 (e.repeats + 1) } := if_pos ⟨hk, hj⟩

/-- Entries of other kinds or subjects stay as they are. -/
theorem map_folded_of_others {es : List Notice} (h : ∀ x ∈ es, ¬ (x.kind = kind ∧ x.subject = subject)) :
    es.map (Notice.folded kind subject detail) = es :=
  (List.map_congr_left fun x hx => if_neg (h x hx)).trans (List.map_id es)

theorem Notices.enter_masked (h : n.mask.getLsbD (noticeCode kind) = true) : n.enter kind subject detail = n := if_pos h

/-- An unmasked raise, its comparisons in propositions. -/
theorem Notices.enter_unmasked (h : n.mask.getLsbD (noticeCode kind) = false) :
    n.enter kind subject detail =
      if ∃ e ∈ n.entries, e.kind = kind ∧ e.subject = subject then
        { n with entries := n.entries.map (Notice.folded kind subject detail) }
      else if n.entries.length < 32 then
        { n with entries := n.entries ++
          [{ kind := kind, subject := subject, detail := detail, firstCycle := n.currentCycle, repeats := 1 }] }
      else { n with lost := min 65535 (n.lost + 1) } := by
  have hfolded : (fun e : Notice =>
      if e.kind == kind && e.subject == subject then { e with detail := detail, repeats := bump8 e.repeats } else e) =
        Notice.folded kind subject detail := by
    funext e
    simp only [Notice.folded, bump8, addUpTo, Bool.and_eq_true, beq_iff_eq]
  rw [Notices.enter, if_neg (by simp [h]), hfolded]
  simp only [List.any_eq_true, Bool.and_eq_true, beq_iff_eq]
  rfl

end

/-- Settles O46: masked, folded, appended or lost. -/
theorem noticeRaised : Obligations.NoticeRaised := by
  intro n kind subject detail
  refine ⟨Notices.enter_masked, fun hm => ⟨fun before e after he hk hj hothers => ?_, fun hnone => ?_⟩⟩
  · have hmem : ∃ x ∈ n.entries, x.kind = kind ∧ x.subject = subject := ⟨e, by simp [he], hk, hj⟩
    obtain ⟨hbefore, hafter⟩ := List.forall_mem_append.1 hothers
    rw [Notices.enter_unmasked hm, if_pos hmem, he, List.map_append, List.map_cons, map_folded_of_others hbefore,
      map_folded_of_others hafter, Notice.folded_same hk hj]
  · have hfresh : ¬ ∃ x ∈ n.entries, x.kind = kind ∧ x.subject = subject := fun ⟨x, hx, hxs⟩ => hnone x hx hxs
    rw [Notices.enter_unmasked hm, if_neg hfresh]
    exact ⟨fun hroom => if_pos hroom, fun hfull => if_neg (Nat.not_lt.2 hfull)⟩

end Sys2Proof.Machine
end

section
/-! One step: the command at the front of the queue (log 1). -/

namespace Sys2Proof.Machine

/-! ### One step with a command waiting -/

/-- The companion of `step_nil`: what a step does on a queue that is not empty. -/
theorem step_cons {s : State} {c : Instr} {rest : List Instr} (h : s.pending = c :: rest) :
    step s = exec c { s with pending := rest } := by
  simp only [step, h]

/-- Settles O1: the queue's front is the command, and replacing the queue twice is replacing it by its rest. -/
theorem stepRunsFrontCommand : Obligations.StepRunsFrontCommand :=
  fun _ _ _ => step_cons rfl

end Sys2Proof.Machine
end
